-- ==== Sys2Proof/Word.lean ====
section
/-! DEFINITION. The plain words of the Otrepa 2412: bytes on a link, and the small total functions on tables of
fixed length that every later file uses. Nothing here carries a rule of the spec. -/

namespace Sys2Proof

/-- One byte of a telegram or a status word (R158). -/
abbrev Byte := BitVec 8

/-- Every entry of a fixed table replaced by a function of it. -/
def vmap {α β : Type} {n : Nat} (f : α → β) (v : Vector α n) : Vector β n :=
  Vector.ofFn fun i => f v[i]

/-- Every entry of a fixed table replaced by a function of its place and of it. -/
def vmapIdx {α β : Type} {n : Nat} (f : Fin n → α → β) (v : Vector α n) : Vector β n :=
  Vector.ofFn fun i => f i v[i]

/-- One entry of a fixed table replaced by a function of it. -/
def vmod {α : Type} {n : Nat} (i : Fin n) (f : α → α) (v : Vector α n) : Vector α n :=
  vmapIdx (fun j x => if j = i then f x else x) v

end Sys2Proof
end

