-- ==== Sys2Proof/Config.lean ====
section
/-! DEFINITION. What the manual leaves open and the model does not choose: constants without a body. Nothing can be
proved about their values, so a claim about the model holds whatever they are. -/

namespace Sys2Proof

/-- FREE VALUE (log entry 3). The manual says of several pairs of events inside one step that 'either may be taken
first' (R21, R73, R113, R142, R150). Where the orders lead to different states, the `n`-th such choice of a run is
`Config.pick n`: a number nothing is known of, reduced to the number of outcomes there are. -/
opaque Config.pick : Nat → Nat

/-- FREE VALUE (log entry 4). R174 and R176 give the stored image a format number and a CRC-32 over the whole image,
and no layout. The bytes the CRC-32 runs over are a function of the parameter values, in the order of their
numbers, that nothing is known of. -/
opaque Config.imageBytes : List Int → List Byte

end Sys2Proof
end

