-- ==== Sys2Proof/Syntax.lean ====
section
/-! DEFINITION. The commands of the Otrepa 2412: one constructor of `Instr` for each row of spec/opcode_table.json,
with what the row's event carries into the part. -/

namespace Sys2Proof

/-- The two battery strings; string s is on chain port s (section 6.3). -/
inductive Str where
  | one
  | two
  deriving DecidableEq, Repr

/-- The four station links, in the order of the permission table (section 10.6). -/
inductive Link where
  | cnv
  | stn
  | pnl
  | svc
  deriving DecidableEq, Repr

/-- What a contactor or breaker auxiliary contact reads: OPEN or CLOSED. -/
inductive Contact where
  | opened
  | closed
  deriving DecidableEq, Repr

/-- The two contactors of a string. -/
inductive Contactor where
  | main
  | precharge
  deriving DecidableEq, Repr

/-- What the coolant flow switch reads: FLOW or NO-FLOW (R85). -/
inductive Flow where
  | flow
  | noFlow
  deriving DecidableEq, Repr

/-- The two chiller stages (section 5.6). -/
inductive Stage where
  | stage1
  | stage2
  deriving DecidableEq, Repr

/-- A reply on a chain, as R2 lets the chain controller judge it: whether its CRC is correct, the address it names,
which kind of unit's form it has, its self-test fault flag, and the contents of that form (section 1.1). -/
inductive Reply where
  | head (crcOk : Bool) (address : Nat) (fault : Bool) (current stringVoltage busVoltage : Int)
      (main precharge : Contact)
  | module (crcOk : Bool) (address : Nat) (fault : Bool) (cells : Vector Nat 16) (sensors : Vector Int 4)
      (applied : List Nat)
  deriving DecidableEq, Repr

/-- The commands. A REQUEST command (`l seq payload`) is the serving, by link `l`, of the request with that
sequence number and that payload standing at the head of its request queue (R166). Every other command is an event
at one of the part's connections or the coming due of one of its own timers (log entries 1 and 2). -/
inductive Instr where
  /-- R2: a reply arrives on chain port `c`. -/
  | chainReply (c : Str) (r : Reply)
  /-- R1: the 4 ms reply timeout of chain `c` expires. -/
  | replyTimeout (c : Str)
  /-- R6: one second of uptime has passed; the reading ages count. -/
  | readingAgeTick
  /-- R13: the next due time of chain `c` arrives. -/
  | cycleDue (c : Str)
  /-- R10: the 5000 ms check of an UNFITTED chain `c`. -/
  | unfittedCheck (c : Str)
  /-- R14: request PROBE-MODULE. -/
  | probeModule (l : Link) (seq : Byte) (payload : List Byte)
  /-- R18: request READ-CELLS. -/
  | readCells (l : Link) (seq : Byte) (payload : List Byte)
  /-- R32: request RESET-BASELINE. -/
  | resetBaseline (l : Link) (seq : Byte) (payload : List Byte)
  /-- R46: request JOIN-STRING. -/
  | joinString (l : Link) (seq : Byte) (payload : List Byte)
  /-- R48: the pre-charge timer of string `c` expires. -/
  | prechargeTimerExpiry (c : Str)
  /-- R50: request RELEASE-STRING. -/
  | releaseString (l : Link) (seq : Byte) (payload : List Byte)
  /-- R51: the opening timer of string `c` expires. -/
  | openingTimerExpiry (c : Str)
  /-- R56: a feedback input of string `c` takes a level. -/
  | feedbackInputChange (c : Str) (which : Contactor) (level : Contact)
  /-- R56, R57: the scheduled feedback check of string `c` comes due. -/
  | feedbackCheck (c : Str)
  /-- R59: request CLEAR-LOCK in any form but the breaker's. -/
  | clearLockString (l : Link) (seq : Byte) (payload : List Byte)
  /-- R153: request CLEAR-LOCK naming the breaker. -/
  | clearLockBreaker (l : Link) (seq : Byte) (payload : List Byte)
  /-- R60: request READ-STRING. -/
  | readString (l : Link) (seq : Byte) (payload : List Byte)
  /-- R70: the 100 ms envelope tick. -/
  | envelopeTick
  /-- R74: request SET-CAP. -/
  | setCap (l : Link) (seq : Byte) (payload : List Byte)
  /-- R77: request READ-ENVELOPE. -/
  | readEnvelope (l : Link) (seq : Byte) (payload : List Byte)
  /-- R80: the 500 ms analog sample, with the four readings the inputs convert to. -/
  | analogSample (inlet outlet container outside : Int)
  /-- R85: the coolant flow switch input takes a level. -/
  | flowSwitchChange (level : Flow)
  /-- R85: the 5 s flow timer expires. -/
  | flowTimerExpiry
  /-- R86: the dwell of a chiller stage expires. -/
  | chillerDwellExpiry (g : Stage)
  /-- R91: the 60 s heater dwell expires. -/
  | heaterDwellExpiry
  /-- R97: the 100 ms fire and gas evaluation, with the eight loop resistances in ohms and the two gas readings in
  ppm that it samples. -/
  | fireEvaluation (loops : Vector Nat 8) (gas1 gas2 : Int)
  /-- R108: the 5 s isolation timer expires. -/
  | isolationTimerExpiry
  /-- R110: request RESET-FIRE. -/
  | resetFire (l : Link) (seq : Byte) (payload : List Byte)
  /-- R114: request READ-FIRE. -/
  | readFire (l : Link) (seq : Byte) (payload : List Byte)
  /-- R120: request READ-SNAPSHOT. -/
  | readSnapshot (l : Link) (seq : Byte) (payload : List Byte)
  /-- R121: request CLEAR-SNAPSHOTS. -/
  | clearSnapshots (l : Link) (seq : Byte) (payload : List Byte)
  /-- R124: the one-second histogram sample. -/
  | histogramSample
  /-- R127: request READ-STATS. -/
  | readStats (l : Link) (seq : Byte) (payload : List Byte)
  /-- R128: request CLEAR-STATS. -/
  | clearStats (l : Link) (seq : Byte) (payload : List Byte)
  /-- R129: request OFFER. -/
  | offer (l : Link) (seq : Byte) (payload : List Byte)
  /-- R136: request AGREEMENT-RESTART. -/
  | agreementRestart (l : Link) (seq : Byte) (payload : List Byte)
  /-- R137: a minute boundary of the site minute clock. -/
  | minuteBoundary
  /-- R143: request READ-AGREEMENT. -/
  | readAgreement (l : Link) (seq : Byte) (payload : List Byte)
  /-- R146: request CONNECT. -/
  | connect (l : Link) (seq : Byte) (payload : List Byte)
  /-- R147, R148, R150, R154: the breaker feedback input takes a level. -/
  | breakerFeedbackChange (level : Contact)
  /-- R147: the 30 s close-pending timer expires. -/
  | closePendingTimerExpiry
  /-- R148: request DISCONNECT. -/
  | disconnect (l : Link) (seq : Byte) (payload : List Byte)
  /-- R148: the 5 s release timer expires. -/
  | releaseTimerExpiry
  /-- R149: the 100 ms evaluation of the grid permit unit. -/
  | permitEvaluation
  /-- R152: the reclose timer expires. -/
  | recloseTimerExpiry
  /-- R145: the 200 ms trip pulse runs out. -/
  | tripPulseEnd
  /-- R160: the bytes received on link `l` between an opening flag and the next flag, escapes still in place. -/
  | telegram (l : Link) (raw : List Byte)
  /-- R162: a status word with this code byte arrives on link `l` outside a telegram. -/
  | statusWord (l : Link) (code : Byte)
  /-- R164: the silence timer of link `l` expires. -/
  | silenceTimeout (l : Link)
  /-- R169: the part sends a status word on link `l`. -/
  | sendStatusWord (l : Link)
  /-- R166: the last part of the answer being sent on link `l` has been sent. -/
  | answerSent (l : Link)
  /-- R166: request of a kind that is not one of the 27. -/
  | unknownKind (l : Link) (kind seq : Byte) (payload : List Byte)
  /-- R168: request READ-NOTICES. -/
  | readNotices (l : Link) (seq : Byte) (payload : List Byte)
  /-- R168: request SET-MASK. -/
  | setMask (l : Link) (seq : Byte) (payload : List Byte)
  /-- R170: request SET-SITE-MODE. -/
  | setSiteMode (l : Link) (seq : Byte) (payload : List Byte)
  /-- R172: request SET-PARAM. -/
  | setParam (l : Link) (seq : Byte) (payload : List Byte)
  /-- R173: request READ-PARAM. -/
  | readParam (l : Link) (seq : Byte) (payload : List Byte)
  /-- R174: request COMMIT. -/
  | commit (l : Link) (seq : Byte) (payload : List Byte)
  /-- R174: the write of the stored image completes. -/
  | commitComplete
  /-- R178: request SITE-RESET. -/
  | siteReset (l : Link) (seq : Byte) (payload : List Byte)
  /-- R178: the reset that an answered SITE-RESET starts. -/
  | siteResetStart
  /-- R175: the supply rises into its operating range. -/
  | powerOn
  /-- R175: the external reset line is asserted. -/
  | resetLineAssert
  /-- R175: the external reset line is released. -/
  | resetLineRelease
  /-- R176: the start-up load of the stored image completes. -/
  | startUpLoadComplete
  /-- R174: the supply falls below its threshold. -/
  | lossOfSupply
  deriving DecidableEq, Repr

end Sys2Proof
end

