-- ==== Sys2Proof/WellFormed.lean ====
section
/-! DEFINITION. Which commands the outside can send as they are written: the checks on the operands of a command
that its Lean type does not make. `exec` never relies on them; they say what a sender's command looks like. -/

namespace Sys2Proof

/-- R158: the byte that opens and closes a telegram. -/
def flagByte : Byte := 0x7E

/-- R158: a payload holds at most 60 bytes. -/
def payloadFits (payload : List Byte) : Bool :=
  payload.length ≤ 60

/-- R166: the kind is one of the 27 request kinds. -/
def knownKind (kind : Byte) : Bool :=
  1 ≤ kind.toNat && kind.toNat ≤ 27

/-- The shape of each command: a request's payload fits a telegram; the two forms of CLEAR-LOCK are told apart by
the payload byte 0 of the breaker form (R159); an unknown kind is none of the 27; a telegram runs to the NEXT flag,
so it holds none (R160); a module reports at most sixteen bleeding cells (section 1.1). -/
def Instr.wellFormed : Instr → Bool
  | .chainReply _ (.module _ _ _ _ _ applied) => applied.length ≤ 16
  | .telegram _ raw => !raw.contains flagByte
  | .unknownKind _ kind _ payload => !knownKind kind && payloadFits payload
  | .clearLockBreaker _ _ payload => payload == [0]
  | .clearLockString _ _ payload => payload != [0] && payloadFits payload
  | .probeModule _ _ p | .readCells _ _ p | .resetBaseline _ _ p | .joinString _ _ p | .releaseString _ _ p
  | .readString _ _ p | .setCap _ _ p | .readEnvelope _ _ p | .resetFire _ _ p | .readFire _ _ p
  | .readSnapshot _ _ p | .clearSnapshots _ _ p | .readStats _ _ p | .clearStats _ _ p | .offer _ _ p
  | .agreementRestart _ _ p | .readAgreement _ _ p | .connect _ _ p | .disconnect _ _ p | .readNotices _ _ p
  | .setMask _ _ p | .setSiteMode _ _ p | .setParam _ _ p | .readParam _ _ p | .commit _ _ p
  | .siteReset _ _ p => payloadFits p
  | .chainReply _ (.head ..) | .replyTimeout _ | .readingAgeTick | .cycleDue _ | .unfittedCheck _
  | .prechargeTimerExpiry _ | .openingTimerExpiry _ | .feedbackInputChange _ _ _ | .feedbackCheck _
  | .envelopeTick | .analogSample _ _ _ _ | .flowSwitchChange _ | .flowTimerExpiry | .chillerDwellExpiry _
  | .heaterDwellExpiry | .fireEvaluation _ _ _ | .isolationTimerExpiry | .histogramSample | .minuteBoundary
  | .breakerFeedbackChange _ | .closePendingTimerExpiry | .releaseTimerExpiry | .permitEvaluation
  | .recloseTimerExpiry | .tripPulseEnd | .statusWord _ _ | .silenceTimeout _ | .sendStatusWord _
  | .answerSent _ | .commitComplete | .siteResetStart | .powerOn | .resetLineAssert | .resetLineRelease
  | .startUpLoadComplete | .lossOfSupply => true

end Sys2Proof
end

