-- ==== Sys2Proof/Decode.lean ====
section
/-! DEFINITION. Reading bits. spec/opcode_table.json gives no row any bits, so no word spells a command. What the spec
does lay out in bytes is the telegram and the status word (R158): their framing, escapes, CRC-16 and check nibble are
here, the receiver of R160 beside the sender's side of it. -/

namespace Sys2Proof

/-- The command that a word spells by the table's bits: none, since no row of the table has any. -/
def decodeTableWord (_nbits _w : Nat) : Option Instr := none

/-! ## CRC-16 (R158) -/

/-- R158: one bit through the CRC-16 register, most significant bit first, polynomial x^16 + x^12 + x^5 + 1. -/
def crc16Bit (r : BitVec 16) : BitVec 16 :=
  if r.getLsbD 15 then (r <<< 1) ^^^ 0x1021#16 else r <<< 1

/-- R158: one byte through the CRC-16 register. -/
def crc16Byte (r : BitVec 16) (b : Byte) : BitVec 16 :=
  crc16Bit (crc16Bit (crc16Bit (crc16Bit (crc16Bit (crc16Bit (crc16Bit (crc16Bit
    (r ^^^ (b.setWidth 16 <<< 8)))))))))

/-- R158: the CRC-16 of a run of bytes: initial value 0xFFFF, not inverted at the end. -/
def crc16 (bytes : List Byte) : BitVec 16 :=
  bytes.foldl crc16Byte 0xFFFF#16

/-- R158: the CRC-16 as two bytes, high byte first. -/
def crc16Bytes (bytes : List Byte) : List Byte :=
  [(crc16 bytes >>> 8).setWidth 8, (crc16 bytes).setWidth 8]

/-! ## Escapes and telegrams (R158) -/

/-- R158: the byte that opens an escape. -/
def escapeMark : Byte := 0x7D

/-- R158: the marker of a status word. -/
def statusMark : Byte := 0x7B

/-- R158: the bytes that are sent escaped. -/
def needsEscape (b : Byte) : Bool :=
  b == flagByte || b == escapeMark || b == statusMark

/-- R158: a run of bytes with its escapes put in. -/
def escape : List Byte → List Byte
  | [] => []
  | b :: rest => if needsEscape b then escapeMark :: (b ^^^ 0x20) :: escape rest else b :: escape rest

/-- R160: a run of bytes with its escapes removed; none where the last byte opens an escape with nothing after it. -/
def unescape : List Byte → Option (List Byte)
  | [] => some []
  | [b] => if b = escapeMark then none else some [b]
  | b :: d :: rest =>
    if b = escapeMark then (unescape rest).map ((d ^^^ 0x20) :: ·)
    else (unescape (d :: rest)).map (b :: ·)

/-- R158: kind, sequence, payload length and payload of a telegram, before its CRC. -/
def telegramBody (kind seq : Byte) (payload : List Byte) : List Byte :=
  kind :: seq :: BitVec.ofNat 8 payload.length :: payload

/-- R158: the bytes of a telegram between its flags, escaped. -/
def telegramBytes (kind seq : Byte) (payload : List Byte) : List Byte :=
  escape (telegramBody kind seq payload ++ crc16Bytes (telegramBody kind seq payload))

/-- R158: a whole telegram, flags included. -/
def telegramFrame (kind seq : Byte) (payload : List Byte) : List Byte :=
  flagByte :: telegramBytes kind seq payload ++ [flagByte]

/-! ## Receiving (R160) -/

/-- R160: what the receiver finds on a link. -/
inductive Received where
  /-- A bad telegram, discarded and counted. -/
  | bad
  /-- A good telegram. -/
  | good (kind seq : Byte) (payload : List Byte)
  /-- The code byte of a status word. -/
  | status (code : Byte)
  deriving DecidableEq, Repr

/-- R160: the judgement of a telegram's unescaped bytes: at least 5 of them, a payload length of at most 60, as many
bytes as it says, and the right CRC-16. -/
def judgeBytes : List Byte → Received
  | kind :: seq :: len :: rest =>
    if len.toNat ≤ 60 ∧ rest.length = len.toNat + 2
        ∧ rest.drop len.toNat = crc16Bytes (kind :: seq :: len :: rest.take len.toNat) then
      .good kind seq (rest.take len.toNat)
    else .bad
  | _ => .bad

/-- R160: the judgement of the bytes between two flags; no bytes are ignored, and a 0x7D followed directly by the flag makes
a bad telegram, whatever stands before it. -/
def judgeTelegram (raw : List Byte) : List Received :=
  if raw = [] then []
  else if raw.getLast? = some escapeMark then [.bad]
  else match unescape raw with
    | some bytes => [judgeBytes bytes]
    | none => [.bad]

/-- Where the receiver of a link stands between two bytes. -/
inductive Receiver where
  /-- No telegram is being received. -/
  | outside
  /-- Between an opening flag and the next flag, with the bytes so far, latest first. -/
  | inside (bytes : List Byte)
  /-- After the marker of a status word. -/
  | marked
  deriving DecidableEq, Repr

/-- R160: one byte. A flag inside a telegram ends it; with no bytes before it, it may open the next. A raw 0x7B inside
a telegram ends it as a bad telegram and is the marker of a status word. -/
def Receiver.byte (r : Receiver) (b : Byte) : Receiver × List Received :=
  match r with
  | .outside =>
    if b = flagByte then (.inside [], [])
    else if b = statusMark then (.marked, [])
    else (.outside, [])
  | .inside bytes =>
    if b = flagByte then (if bytes = [] then .inside [] else .outside, judgeTelegram bytes.reverse)
    else if b = statusMark then (.marked, [.bad])
    else (.inside (b :: bytes), [])
  | .marked => (.outside, [.status b])

/-- R160: a run of bytes, and what is found in it, in order. -/
def Receiver.bytes : Receiver → List Byte → List Received
  | _, [] => []
  | r, b :: rest => (r.byte b).2 ++ (r.byte b).1.bytes rest

/-- R160: what is found from just after an opening flag to the flag that follows `raw`. -/
def receive (raw : List Byte) : List Received :=
  (Receiver.inside []).bytes (raw ++ [flagByte])

/-! ## Status words (R158, R162) -/

/-- R158: the code byte of an indication code: the code in bits 4 to 7, its ones' complement in bits 0 to 3. -/
def statusByte (code : Nat) : Byte :=
  BitVec.ofNat 8 (16 * (code % 16) + (15 - code % 16))

/-- R162: the code a code byte carries, or none where the byte is not valid. -/
def statusCode (b : Byte) : Option Nat :=
  if b.toNat / 16 + b.toNat % 16 = 15 then some (b.toNat / 16) else none

end Sys2Proof
end

