-- ==== Sys2Proof/Machine/Params.lean ====
section
/-! DEFINITION. The parameter set of chapter Configuration and Start-up (section 11.1): the 57 parameters, their
numbers, defaults, ranges, forms and cross-checks. -/

namespace Sys2Proof.Machine

/-- A breakpoint of a derating table or of the fan curve: a temperature and a current or duty (R40, R66). -/
structure Breakpoint where
  t : Int
  v : Int
  deriving DecidableEq, Repr

/-- The values of parameter 3, in the order of section 11.1. -/
inductive Fitted where
  | string1
  | string2
  | both
  deriving DecidableEq, Repr

/-- The type of a detector loop (R99). -/
inductive LoopType where
  | smoke
  | heat
  | unused
  deriving DecidableEq, Repr

/-- The parameter set: parameters 1 to 57 of section 11.1, each under its own name. -/
structure Params where
  /-- 1: first scan address. -/
  firstAddr : Int
  /-- 2: last scan address. -/
  lastAddr : Int
  /-- 3: fitted strings. -/
  fitted : Fitted
  /-- 4: cell over-voltage limit, mV. -/
  overVolt : Int
  /-- 5: cell under-voltage limit, mV. -/
  underVolt : Int
  /-- 6: over-temperature limit, 0.1 °C. -/
  overTemp : Int
  /-- 7: rise filter shift k. -/
  filterShift : Int
  /-- 8: pre-alert rise threshold, 0.1 °C. -/
  preRise : Int
  /-- 9: heat rise threshold, 0.1 °C. -/
  heatRise : Int
  /-- 10: balancing window, mV. -/
  balWindow : Int
  /-- 11: balancing floor, mV. -/
  balFloor : Int
  /-- 12: balancing ceiling, 0.1 °C. -/
  balCeiling : Int
  /-- 13: charge taper start Vts, mV. -/
  vts : Int
  /-- 14: charge stop Vst, mV. -/
  vst : Int
  /-- 15: maximum charge current Imax_c, 0.1 A. -/
  imaxC : Int
  /-- 16: discharge taper Vdt, mV. -/
  vdt : Int
  /-- 17: discharge stop Vds, mV. -/
  vds : Int
  /-- 18: maximum discharge current Imax_d, 0.1 A. -/
  imaxD : Int
  /-- 19: charge derating table (R40). -/
  chargeTable : List Breakpoint
  /-- 20: discharge derating table (R40). -/
  dischargeTable : List Breakpoint
  /-- 21: pre-charge match window, 0.1 V. -/
  matchWindow : Int
  /-- 22: ramp step, 0.1 A per tick. -/
  rampStep : Int
  /-- 23: run threshold, 0.1 °C. -/
  runThreshold : Int
  /-- 24: heater-on threshold, 0.1 °C. -/
  heaterOn : Int
  /-- 25: heater-off threshold, 0.1 °C. -/
  heaterOff : Int
  /-- 26: chiller stage 1 on, 0.1 °C. -/
  chiller1On : Int
  /-- 27: chiller stage 1 off, 0.1 °C. -/
  chiller1Off : Int
  /-- 28: chiller stage 2 on, 0.1 °C. -/
  chiller2On : Int
  /-- 29: chiller stage 2 off, 0.1 °C. -/
  chiller2Off : Int
  /-- 30: fan curve (R83). -/
  fanCurve : List Breakpoint
  /-- 31: fan start minimum duty. -/
  fanMin : Int
  /-- 32: pump run duty. -/
  pumpDuty : Int
  /-- 33: PWM prescaler p. -/
  prescaler : Int
  /-- 34: coolant derate start, 0.1 °C. -/
  derateStart : Int
  /-- 35: coolant derate stop, 0.1 °C. -/
  derateStop : Int
  /-- 36: pump fault cap, 0.1 A. -/
  pumpFaultCap : Int
  /-- 37 to 44: the types of loops 1 to 8. -/
  loopTypes : Vector LoopType 8
  /-- 45: gas low threshold, ppm. -/
  gasLow : Int
  /-- 46: gas high threshold, ppm. -/
  gasHigh : Int
  /-- 47: pre-alert cap, 0.1 A. -/
  preAlertCap : Int
  /-- 48: degraded cap, 0.1 A. -/
  degradedCap : Int
  /-- 49: fallback import, 0.1 kW. -/
  fallbackImport : Int
  /-- 50: fallback export, 0.1 kW. -/
  fallbackExport : Int
  /-- 51: nominal bus voltage, 0.1 V. -/
  nominalBus : Int
  /-- 52: reclose delay, s. -/
  recloseDelay : Int
  /-- 53: link speed of CNV, baud (R157). -/
  baudCnv : Int
  /-- 54: link speed of STN, baud (R157). -/
  baudStn : Int
  /-- 55: link speed of PNL, baud (R157). -/
  baudPnl : Int
  /-- 56: link speed of SVC, baud (R157). -/
  baudSvc : Int
  /-- 57: STN silence timeout, s. -/
  stnTimeout : Int
  deriving DecidableEq, Repr

/-- The default charge derating table (R40). -/
def chargeTableDefault : List Breakpoint :=
  [⟨-100, 0⟩, ⟨0, 400⟩, ⟨100, 2000⟩, ⟨350, 2000⟩, ⟨450, 1000⟩, ⟨550, 0⟩]

/-- The default discharge derating table (R40). -/
def dischargeTableDefault : List Breakpoint :=
  [⟨-300, 500⟩, ⟨-100, 1500⟩, ⟨0, 2500⟩, ⟨450, 2500⟩, ⟨550, 1000⟩, ⟨600, 0⟩]

/-- The default fan curve (section 5.1). -/
def fanCurveDefault : List Breakpoint :=
  [⟨280, 0⟩, ⟨300, 80⟩, ⟨400, 200⟩, ⟨450, 255⟩]

/-- The default loop types (section 6.1): loops 1 to 3 SMOKE, 4 and 5 HEAT, 6 to 8 UNUSED. -/
def loopTypesDefault : Vector LoopType 8 :=
  #v[.smoke, .smoke, .smoke, .heat, .heat, .unused, .unused, .unused]

/-- The defaults of section 11.1, fixed in the part. -/
def Params.defaults : Params where
  firstAddr := 1
  lastAddr := 12
  fitted := .both
  overVolt := 3650
  underVolt := 2500
  overTemp := 600
  filterShift := 6
  preRise := 50
  heatRise := 100
  balWindow := 20
  balFloor := 3300
  balCeiling := 450
  vts := 3450
  vst := 3600
  imaxC := 2000
  vdt := 3000
  vds := 2800
  imaxD := 2500
  chargeTable := chargeTableDefault
  dischargeTable := dischargeTableDefault
  matchWindow := 100
  rampStep := 50
  runThreshold := 300
  heaterOn := 50
  heaterOff := 100
  chiller1On := 320
  chiller1Off := 290
  chiller2On := 380
  chiller2Off := 350
  fanCurve := fanCurveDefault
  fanMin := 64
  pumpDuty := 200
  prescaler := 2
  derateStart := 350
  derateStop := 450
  pumpFaultCap := 500
  loopTypes := loopTypesDefault
  gasLow := 50
  gasHigh := 200
  preAlertCap := 1000
  degradedCap := 2000
  fallbackImport := 0
  fallbackExport := 0
  nominalBus := 6000
  recloseDelay := 60
  baudCnv := 19200
  baudStn := 19200
  baudPnl := 19200
  baudSvc := 19200
  stnTimeout := 120

/-- What a parameter holds, as SET-PARAM carries it (R172). -/
inductive ParamValue where
  | number (v : Int)
  /-- A named value, by its place in the parameter's list of names (R159). -/
  | named (k : Nat)
  | list (points : List Breakpoint)
  deriving DecidableEq, Repr

/-- The form and range of a parameter (R159, R172). -/
inductive ParamForm where
  /-- A number from `lo` to `hi`. -/
  | numeric (lo hi : Int)
  /-- One of the five link speeds (R157). -/
  | speed
  /-- One of `count` named values. -/
  | names (count : Nat)
  /-- `fewest` to `most` breakpoints, the second number of each from 0 to `top`. -/
  | points (fewest most : Nat) (top : Int)
  deriving DecidableEq, Repr

/-- R40, R66: the lowest and highest temperature of a breakpoint. -/
def tempLow : Int := -400
/-- R40, R66: the highest temperature of a breakpoint. -/
def tempHigh : Int := 1500

/-- The form and range of each parameter number; none for a number that is not 1 to 57 (section 11.1). -/
def paramForm : Nat → Option ParamForm
  | 1 => some (.numeric 1 12)
  | 2 => some (.numeric 1 12)
  | 3 => some (.names 3)
  | 4 => some (.numeric 2000 5000)
  | 5 => some (.numeric 0 4000)
  | 6 => some (.numeric 0 1500)
  | 7 => some (.numeric 2 8)
  | 8 => some (.numeric 10 500)
  | 9 => some (.numeric 20 1000)
  | 10 => some (.numeric 0 500)
  | 11 => some (.numeric 0 5000)
  | 12 => some (.numeric 0 1500)
  | 13 => some (.numeric 2000 5000)
  | 14 => some (.numeric 2000 5000)
  | 15 => some (.numeric 0 4000)
  | 16 => some (.numeric 0 5000)
  | 17 => some (.numeric 0 5000)
  | 18 => some (.numeric 0 4000)
  | 19 => some (.points 2 8 4000)
  | 20 => some (.points 2 8 4000)
  | 21 => some (.numeric 10 1000)
  | 22 => some (.numeric 1 400)
  | 23 => some (.numeric (-400) 1500)
  | 24 => some (.numeric (-400) 1500)
  | 25 => some (.numeric (-400) 1500)
  | 26 => some (.numeric (-400) 1500)
  | 27 => some (.numeric (-400) 1500)
  | 28 => some (.numeric (-400) 1500)
  | 29 => some (.numeric (-400) 1500)
  | 30 => some (.points 4 4 255)
  | 31 => some (.numeric 0 255)
  | 32 => some (.numeric 1 255)
  | 33 => some (.numeric 0 7)
  | 34 => some (.numeric (-400) 1500)
  | 35 => some (.numeric (-400) 1500)
  | 36 => some (.numeric 0 4000)
  | 37 => some (.names 3)
  | 38 => some (.names 3)
  | 39 => some (.names 3)
  | 40 => some (.names 3)
  | 41 => some (.names 3)
  | 42 => some (.names 3)
  | 43 => some (.names 3)
  | 44 => some (.names 3)
  | 45 => some (.numeric 1 2000)
  | 46 => some (.numeric 1 2000)
  | 47 => some (.numeric 0 4000)
  | 48 => some (.numeric 0 4000)
  | 49 => some (.numeric 0 50000)
  | 50 => some (.numeric 0 50000)
  | 51 => some (.numeric 1000 10000)
  | 52 => some (.numeric 10 900)
  | 53 => some .speed
  | 54 => some .speed
  | 55 => some .speed
  | 56 => some .speed
  | 57 => some (.numeric 10 600)
  | _ => none

/-- The place of a fitted-strings value in its list (R159). -/
def Fitted.index : Fitted → Nat
  | .string1 => 0
  | .string2 => 1
  | .both => 2

/-- The fitted-strings value at a place of its list. -/
def Fitted.ofIndex : Nat → Fitted
  | 0 => .string1
  | 1 => .string2
  | _ => .both

/-- The place of a loop type in its list (R159). -/
def LoopType.index : LoopType → Nat
  | .smoke => 0
  | .heat => 1
  | .unused => 2

/-- The loop type at a place of its list. -/
def LoopType.ofIndex : Nat → LoopType
  | 0 => .smoke
  | 1 => .heat
  | _ => .unused

/-- R10: whether the fitted-strings parameter names a string. -/
def Fitted.names : Fitted → Str → Bool
  | .string1, .one => true
  | .string2, .two => true
  | .both, _ => true
  | _, _ => false

/-- The value of each parameter number. -/
def Params.get (p : Params) : Nat → ParamValue
  | 1 => .number p.firstAddr
  | 2 => .number p.lastAddr
  | 3 => .named p.fitted.index
  | 4 => .number p.overVolt
  | 5 => .number p.underVolt
  | 6 => .number p.overTemp
  | 7 => .number p.filterShift
  | 8 => .number p.preRise
  | 9 => .number p.heatRise
  | 10 => .number p.balWindow
  | 11 => .number p.balFloor
  | 12 => .number p.balCeiling
  | 13 => .number p.vts
  | 14 => .number p.vst
  | 15 => .number p.imaxC
  | 16 => .number p.vdt
  | 17 => .number p.vds
  | 18 => .number p.imaxD
  | 19 => .list p.chargeTable
  | 20 => .list p.dischargeTable
  | 21 => .number p.matchWindow
  | 22 => .number p.rampStep
  | 23 => .number p.runThreshold
  | 24 => .number p.heaterOn
  | 25 => .number p.heaterOff
  | 26 => .number p.chiller1On
  | 27 => .number p.chiller1Off
  | 28 => .number p.chiller2On
  | 29 => .number p.chiller2Off
  | 30 => .list p.fanCurve
  | 31 => .number p.fanMin
  | 32 => .number p.pumpDuty
  | 33 => .number p.prescaler
  | 34 => .number p.derateStart
  | 35 => .number p.derateStop
  | 36 => .number p.pumpFaultCap
  | 37 => .named (p.loopTypes[0]).index
  | 38 => .named (p.loopTypes[1]).index
  | 39 => .named (p.loopTypes[2]).index
  | 40 => .named (p.loopTypes[3]).index
  | 41 => .named (p.loopTypes[4]).index
  | 42 => .named (p.loopTypes[5]).index
  | 43 => .named (p.loopTypes[6]).index
  | 44 => .named (p.loopTypes[7]).index
  | 45 => .number p.gasLow
  | 46 => .number p.gasHigh
  | 47 => .number p.preAlertCap
  | 48 => .number p.degradedCap
  | 49 => .number p.fallbackImport
  | 50 => .number p.fallbackExport
  | 51 => .number p.nominalBus
  | 52 => .number p.recloseDelay
  | 53 => .number p.baudCnv
  | 54 => .number p.baudStn
  | 55 => .number p.baudPnl
  | 56 => .number p.baudSvc
  | _ => .number p.stnTimeout

/-- The parameter set with one parameter replaced. A value of another form than the parameter's changes nothing. -/
def Params.set (p : Params) : Nat → ParamValue → Params
  | 1, .number v => { p with firstAddr := v }
  | 2, .number v => { p with lastAddr := v }
  | 3, .named k => { p with fitted := Fitted.ofIndex k }
  | 4, .number v => { p with overVolt := v }
  | 5, .number v => { p with underVolt := v }
  | 6, .number v => { p with overTemp := v }
  | 7, .number v => { p with filterShift := v }
  | 8, .number v => { p with preRise := v }
  | 9, .number v => { p with heatRise := v }
  | 10, .number v => { p with balWindow := v }
  | 11, .number v => { p with balFloor := v }
  | 12, .number v => { p with balCeiling := v }
  | 13, .number v => { p with vts := v }
  | 14, .number v => { p with vst := v }
  | 15, .number v => { p with imaxC := v }
  | 16, .number v => { p with vdt := v }
  | 17, .number v => { p with vds := v }
  | 18, .number v => { p with imaxD := v }
  | 19, .list b => { p with chargeTable := b }
  | 20, .list b => { p with dischargeTable := b }
  | 21, .number v => { p with matchWindow := v }
  | 22, .number v => { p with rampStep := v }
  | 23, .number v => { p with runThreshold := v }
  | 24, .number v => { p with heaterOn := v }
  | 25, .number v => { p with heaterOff := v }
  | 26, .number v => { p with chiller1On := v }
  | 27, .number v => { p with chiller1Off := v }
  | 28, .number v => { p with chiller2On := v }
  | 29, .number v => { p with chiller2Off := v }
  | 30, .list b => { p with fanCurve := b }
  | 31, .number v => { p with fanMin := v }
  | 32, .number v => { p with pumpDuty := v }
  | 33, .number v => { p with prescaler := v }
  | 34, .number v => { p with derateStart := v }
  | 35, .number v => { p with derateStop := v }
  | 36, .number v => { p with pumpFaultCap := v }
  | 37, .named k => { p with loopTypes := p.loopTypes.set 0 (LoopType.ofIndex k) }
  | 38, .named k => { p with loopTypes := p.loopTypes.set 1 (LoopType.ofIndex k) }
  | 39, .named k => { p with loopTypes := p.loopTypes.set 2 (LoopType.ofIndex k) }
  | 40, .named k => { p with loopTypes := p.loopTypes.set 3 (LoopType.ofIndex k) }
  | 41, .named k => { p with loopTypes := p.loopTypes.set 4 (LoopType.ofIndex k) }
  | 42, .named k => { p with loopTypes := p.loopTypes.set 5 (LoopType.ofIndex k) }
  | 43, .named k => { p with loopTypes := p.loopTypes.set 6 (LoopType.ofIndex k) }
  | 44, .named k => { p with loopTypes := p.loopTypes.set 7 (LoopType.ofIndex k) }
  | 45, .number v => { p with gasLow := v }
  | 46, .number v => { p with gasHigh := v }
  | 47, .number v => { p with preAlertCap := v }
  | 48, .number v => { p with degradedCap := v }
  | 49, .number v => { p with fallbackImport := v }
  | 50, .number v => { p with fallbackExport := v }
  | 51, .number v => { p with nominalBus := v }
  | 52, .number v => { p with recloseDelay := v }
  | 53, .number v => { p with baudCnv := v }
  | 54, .number v => { p with baudStn := v }
  | 55, .number v => { p with baudPnl := v }
  | 56, .number v => { p with baudSvc := v }
  | 57, .number v => { p with stnTimeout := v }
  | _, _ => p

/-- The value brought into a range: the nearest value inside it (section 6.5). -/
def clampTo (lo hi v : Int) : Int :=
  max lo (min hi v)

/-- The five link speeds (R157). -/
def speeds : List Int := [9600, 19200, 38400, 57600, 115200]

/-- R157: the nearest of the five speeds, the lower of two that are equally near. -/
def nearestSpeed (v : Int) : Int :=
  speeds.foldl (fun best x => if |x - v| < |best - v| then x else best) 9600

/-- R43, R94: the first numbers of a table rise strictly. -/
def ascending : List Breakpoint → Bool
  | p :: q :: rest => decide (p.t < q.t) && ascending (q :: rest)
  | _ => true

/-- R172: a value clamped to its parameter's range, or none where it is not of the parameter's form or, for a named
value, not one of its values. -/
def ParamForm.clamp : ParamForm → ParamValue → Option ParamValue
  | .numeric lo hi, .number v => some (.number (clampTo lo hi v))
  | .speed, .number v => some (.number (nearestSpeed v))
  | .names count, .named k => if k < count then some (.named k) else none
  | .points _ _ top, .list b => some (.list (b.map fun q => ⟨clampTo tempLow tempHigh q.t, clampTo 0 top q.v⟩))
  | _, _ => none

/-- R43, R94: a table or curve has the number of breakpoints its parameter requires and is strictly ascending. -/
def ParamForm.shapeOk : ParamForm → ParamValue → Bool
  | .points fewest most _, .list b => fewest ≤ b.length && b.length ≤ most && ascending b
  | _, _ => true

/-- The cross-check that a write of a parameter must pass (R43, R94, R115, R172), judged on the set as the write
would leave it; true for a parameter that has none. -/
def Params.crossCheck (p : Params) (n : Nat) : Bool :=
  if n = 1 ∨ n = 2 then p.firstAddr ≤ p.lastAddr
  else if n = 4 ∨ n = 5 then p.underVolt < p.overVolt
  else if n = 8 ∨ n = 9 then p.preRise < p.heatRise
  else if n = 13 ∨ n = 14 then p.vts < p.vst
  else if n = 16 ∨ n = 17 then p.vds < p.vdt
  else if n = 24 ∨ n = 25 then p.heaterOn < p.heaterOff
  else if n = 26 ∨ n = 27 then p.chiller1Off < p.chiller1On
  else if n = 28 ∨ n = 29 then p.chiller2Off < p.chiller2On
  else if n = 34 ∨ n = 35 then p.derateStart < p.derateStop
  else if n = 45 ∨ n = 46 then p.gasLow < p.gasHigh
  else true

/-- The numbers of the 57 parameters. -/
def paramNumbers : List Nat := List.range' 1 57

/-- R176, the check CONTENT: every value lies within its range, every cross-check holds, and every table and curve
has the form its parameter requires. -/
def Params.contentOk (p : Params) : Bool :=
  paramNumbers.all fun n =>
    match paramForm n with
    | some f => f.clamp (p.get n) == some (p.get n) && f.shapeOk (p.get n) && p.crossCheck n
    | none => false

/-- The value of a parameter written out as numbers, for the bytes of the stored image. -/
def ParamValue.flat : ParamValue → List Int
  | .number v => [v]
  | .named k => [k]
  | .list b => b.length :: b.flatMap fun q => [q.t, q.v]

/-- The whole set written out as numbers, in the order of the parameter numbers. -/
def Params.flat (p : Params) : List Int :=
  paramNumbers.flatMap fun n => (p.get n).flat

/-- R173: the number of parameters whose values differ between two sets. -/
def Params.differing (p q : Params) : Nat :=
  (paramNumbers.filter fun n => p.get n != q.get n).length

/-- R176: one bit through the CRC-32 register, least significant bit first. -/
def crc32Bit (r : BitVec 32) : BitVec 32 :=
  if r.getLsbD 0 then (r >>> 1) ^^^ 0xEDB88320#32 else r >>> 1

/-- R176: the CRC-32: polynomial 0x04C11DB7, initial value 0xFFFFFFFF, bytes processed least significant bit first
(so the register runs reversed, with the polynomial 0xEDB88320), the result inverted. -/
def crc32 (bytes : List Byte) : BitVec 32 :=
  ~~~ (bytes.foldl (fun r b =>
    crc32Bit (crc32Bit (crc32Bit (crc32Bit (crc32Bit (crc32Bit (crc32Bit (crc32Bit (r ^^^ b.setWidth 32))))))))
    ) 0xFFFFFFFF#32)

/-- R174: the CRC-32 of an image that holds these values (log entry 4). -/
def imageCrc (p : Params) : BitVec 32 :=
  crc32 (Config.imageBytes p.flat)

end Sys2Proof.Machine
end

