-- ==== Sys2Proof/Machine/State.lean ====
section
/-! DEFINITION. The state of the Otrepa 2412, as plain data: every register, record, buffer, counter, timer, mode and
pin the spec gives the part, block by block, the queue of waiting commands, and the state after a power-on reset.

TIME. Uptime is a number of ms. A running timer is held as the uptime at which it expires, so its time left is the
difference and only `uptime` moves when time passes (log entry 2). -/

namespace Sys2Proof.Machine

/-! ## Addresses and pairs -/

/-- The place of a module on its chain: module address n (1 to 12) is `n - 1` (section 6.3). -/
abbrev Addr := Fin 12

/-- The module address, 1 to 12. -/
abbrev Addr.number (a : Addr) : Nat := a.val + 1

/-- One thing for each of the two strings. -/
structure PerString (α : Type) where
  one : α
  two : α
  deriving DecidableEq, Repr

/-- The thing of one string. -/
def PerString.get {α : Type} (p : PerString α) : Str → α
  | .one => p.one
  | .two => p.two

/-- The pair with the thing of one string replaced by a function of it. -/
def PerString.mod {α : Type} (p : PerString α) (c : Str) (f : α → α) : PerString α :=
  match c with
  | .one => { p with one := f p.one }
  | .two => { p with two := f p.two }

/-- One thing for each of the four links. -/
structure PerLink (α : Type) where
  cnv : α
  stn : α
  pnl : α
  svc : α
  deriving DecidableEq, Repr

/-- The thing of one link. -/
def PerLink.get {α : Type} (p : PerLink α) : Link → α
  | .cnv => p.cnv
  | .stn => p.stn
  | .pnl => p.pnl
  | .svc => p.svc

/-- The four with the thing of one link replaced by a function of it. -/
def PerLink.mod {α : Type} (p : PerLink α) (l : Link) (f : α → α) : PerLink α :=
  match l with
  | .cnv => { p with cnv := f p.cnv }
  | .stn => { p with stn := f p.stn }
  | .pnl => { p with pnl := f p.pnl }
  | .svc => { p with svc := f p.svc }

/-- The four with each thing replaced by a function of its link and of it. -/
def PerLink.mapLinks {α β : Type} (p : PerLink α) (f : Link → α → β) : PerLink β :=
  ⟨f .cnv p.cnv, f .stn p.stn, f .pnl p.pnl, f .svc p.svc⟩

/-! ## Chain controllers (chapter 1) -/

/-- R1: the unit a chain transaction addresses. -/
inductive ChainUnit where
  | head
  | module (a : Addr)
  deriving DecidableEq, Repr

/-- Sections 1.2, 1.3: the status of a unit's record. -/
inductive UnitStatus where
  | notYetRead
  | current
  | stale
  | failed
  deriving DecidableEq, Repr

/-- Section 1.2: the head record. -/
structure HeadRecord where
  status : UnitStatus
  /-- Consecutive miss count, 0 to 3. -/
  miss : Nat
  /-- Reading age in s, 0 to 65535. -/
  age : Nat
  /-- Uptime in ms at the last GOOD reply, or none. -/
  lastGood : Option Nat
  /-- String current, 0.1 A, positive is charge. -/
  current : Int
  /-- String voltage, 0.1 V. -/
  stringVoltage : Nat
  /-- Bus-side voltage, 0.1 V. -/
  busVoltage : Nat
  /-- Head-reported main contactor feedback. -/
  main : Contact
  /-- Head-reported pre-charge feedback. -/
  precharge : Contact
  deriving DecidableEq, Repr

/-- Section 1.3: a module record. Its address is its place in the chain's table, and whether it is fitted follows from
the range in force and the cycle state (`Chain.fitted`). A cell voltage of none is INVALID, a sensor reading of
none is SENSOR-FAULT. A balance set lists its cell numbers in ascending order. -/
structure ModuleRecord where
  status : UnitStatus
  cells : Vector (Option Nat) 16
  sensors : Vector (Option Int) 4
  miss : Nat
  age : Nat
  /-- Requested balance set. -/
  requested : List Nat
  /-- Applied balance set. -/
  applied : List Nat
  deriving DecidableEq, Repr

/-- Section 1.4: the cycle state. -/
inductive CycleState where
  | unfitted
  | waiting
  | running
  deriving DecidableEq, Repr

/-- R12: the cadence of a cycle. -/
inductive Cadence where
  | quiet
  | active
  | watch
  deriving DecidableEq, Repr

/-- Section 1.6: the kind of the last transaction the arbiter started; none is NONE. -/
inductive TransactionKind where
  | scan
  | probe
  deriving DecidableEq, Repr

/-- Section 1.5: a waiting request, named by its link and its sequence number. -/
structure Waiter where
  link : Link
  seq : Byte
  deriving DecidableEq, Repr

/-- Section 1.5: an entry of the probe queue. -/
structure ProbeEntry where
  addr : Addr
  waiters : List Waiter
  deriving DecidableEq, Repr

/-- R1, R15: the transaction in flight. `waiters` is the waiting list of the in-flight slot, empty for a scan
transaction. `sentSet` is the balance set its request carried. `timeout` is the uptime at which the 4 ms reply
timeout expires. -/
structure Transaction where
  kind : TransactionKind
  addressed : ChainUnit
  waiters : List Waiter
  sentSet : List Nat
  timeout : Nat
  deriving DecidableEq, Repr

/-- Section 1.4: a scan range, as two module addresses. -/
structure ScanRange where
  first : Nat
  last : Nat
  deriving DecidableEq, Repr

/-- Chapter 1: a chain controller. -/
structure Chain where
  head : HeadRecord
  /-- The twelve module records, module 1 first. -/
  modules : Vector ModuleRecord 12
  /-- Range in force (R9). -/
  range : ScanRange
  cycle : CycleState
  /-- Address of the next scan transaction. -/
  nextUnit : ChainUnit
  cadence : Cadence
  /-- Uptime at which the running or last cycle became due. -/
  due : Option Nat
  /-- Uptime at which the next cycle becomes due. -/
  nextDue : Option Nat
  /-- Uptime of the next 5000 ms check while UNFITTED (R10). -/
  unfittedCheck : Option Nat
  /-- First cycle complete: true is YES. -/
  firstDone : Bool
  /-- Probe queue, oldest entry first. -/
  probes : List ProbeEntry
  inFlight : Option Transaction
  lastKind : Option TransactionKind
  deriving DecidableEq, Repr

/-! ## Cell supervision (chapter 2) -/

/-- R27: the baseline state of a sensor. -/
inductive BaselineState where
  | unset
  | tracking
  | frozen
  deriving DecidableEq, Repr

/-- R29: the rise flag of a sensor. -/
inductive RiseFlag where
  | none
  | pre
  | heat
  deriving DecidableEq, Repr

/-- Section 2.1: what the unit holds of one sensor. -/
structure SensorTrack where
  /-- Baseline b, in 1/16 of 0.1 °C. -/
  baseline : Int
  state : BaselineState
  /-- Last rise in 0.1 °C; none is NONE. -/
  rise : Option Int
  flag : RiseFlag
  deriving DecidableEq, Repr

/-- Section 2.1: what the unit holds of one string: three hard-limit counters (0 to 3) and 48 sensors. -/
structure Supervision where
  overVolt : Nat
  underVolt : Nat
  overTemp : Nat
  sensors : Vector (Vector SensorTrack 4) 12
  deriving DecidableEq, Repr

/-! ## String controllers (chapter 3) -/

/-- Section 3.1: the LOCKED causes. -/
inductive LockCause where
  | cellOv
  | cellUv
  | cellOt
  | excursion
  | welded
  | prechargeFail
  | feedback
  deriving DecidableEq, Repr

/-- Section 3.1: the pre-charge phase; in MATCHING the pre-charge timer runs and expires at `timer`. -/
inductive PrechargePhase where
  | matching (timer : Nat)
  | handover
  deriving DecidableEq, Repr

/-- Section 3.1: the end state of OPENING. -/
inductive EndState where
  | opened
  | locked (cause : LockCause)
  deriving DecidableEq, Repr

/-- Section 3.1: the string state, with what the string controller holds in that state alone: the phase in PRECHARGE,
the end state and the expiry of the opening timer in OPENING, the cause in LOCKED. -/
inductive StringState where
  | opened
  | precharge (phase : PrechargePhase)
  | joined
  | opening (finish : EndState) (timer : Nat)
  | locked (cause : LockCause)
  deriving DecidableEq, Repr

/-- The five names of a string state, as other blocks and masters see it. -/
inductive StringName where
  | opened
  | precharge
  | joined
  | opening
  | locked
  deriving DecidableEq, Repr

/-- Chapter 3: a string controller. -/
structure StringController where
  state : StringState
  /-- Excursion counter, 0 to 5. -/
  excursions : Nat
  /-- Feedback check: the uptime at which the pending check comes due, or none when idle. -/
  check : Option Nat
  /-- Disagreement reported. -/
  disagreement : Bool
  /-- The part's own main feedback input. -/
  mainInput : Contact
  /-- The part's own pre-charge feedback input. -/
  prechargeInput : Contact
  deriving DecidableEq, Repr

/-! ## Envelope unit (chapter 4) -/

/-- Four entries in column order: string 1 charge and discharge, string 2 charge and discharge (section 4.1). -/
structure Row where
  charge1 : Nat
  discharge1 : Nat
  charge2 : Nat
  discharge2 : Nat
  deriving DecidableEq, Repr

/-- R64: the limit contribution table. -/
structure LimitTable where
  vh : Row
  td : Row
  cd : Row
  fs : Row
  ga : Row
  sc : Row
  deriving DecidableEq, Repr

/-- Chapter 4: the envelope unit. -/
structure Envelope where
  table : LimitTable
  /-- The four published limits. -/
  limits : Row
  /-- The revision, 16 bits wide and wrapping (R72). -/
  revision : BitVec 16
  /-- Time of last publication, uptime in ms, or none. -/
  published : Option Nat
  deriving DecidableEq, Repr

/-! ## Thermal plant controller (chapter 5) -/

/-- Section 5.1: the cooling mode. -/
inductive CoolingMode where
  | idle
  | run
  | purge
  | fireHold
  deriving DecidableEq, Repr

/-- Section 5.1: a chiller stage or the heater: ON or OFF, the uptime of its last change and its pending request. -/
structure DwellOutput where
  on : Bool
  lastChange : Nat
  /-- The pending request: none is NONE, true ON, false OFF. -/
  request : Option Bool
  deriving DecidableEq, Repr

/-- Section 5.1: a plant input as of the last analog sample. -/
inductive PlantInput where
  | unknown
  | value (t : Int)
  | fault
  deriving DecidableEq, Repr

/-- R80: the four plant inputs, in the order the rule names them. -/
inductive InputName where
  | inlet
  | outlet
  | container
  | outside
  deriving DecidableEq, Repr

/-- Section 5.1: the flow state. -/
inductive FlowState where
  | ok
  | pumpFault
  deriving DecidableEq, Repr

/-- Chapter 5: the thermal plant controller. The three fans always carry the same duty, held once. The damper
follows from the mode (R82). -/
structure Plant where
  mode : CoolingMode
  /-- The duty of fans 1, 2 and 3, 0 to 255. -/
  fanDuty : Nat
  pumpDuty : Nat
  /-- The PWM prescaler in force, 0 to 7. -/
  prescaler : Nat
  chiller1 : DwellOutput
  chiller2 : DwellOutput
  /-- Whether stage 2's pending OFF was placed by R87 alone. -/
  chiller2Follows : Bool
  heater : DwellOutput
  flow : FlowState
  /-- The uptime at which the running flow timer expires; none when stopped. -/
  flowTimer : Option Nat
  /-- The coolant flow switch input. -/
  flowInput : Flow
  inlet : PlantInput
  outlet : PlantInput
  container : PlantInput
  outside : PlantInput
  /-- Demand temperature; none is NONE. -/
  demand : Option Int
  deriving DecidableEq, Repr

/-! ## Fire and gas unit (chapter 6) -/

/-- R98: the state of a detector loop. -/
inductive LoopState where
  | normal
  | alarm
  | opened
  | short
  deriving DecidableEq, Repr

/-- R98, R99: a detector loop: its state, its candidate with the count 1 or 2, and the type it had at the last
evaluation (a loop written to a used type while OPEN or SHORT posts LOOP-FAULT at the next). -/
structure DetectorLoop where
  state : LoopState
  candidate : Option (LoopState × Nat)
  seenType : LoopType
  deriving DecidableEq, Repr

/-- R100: a gas channel. -/
inductive GasChannel where
  | unknown
  | valid (ppm : Nat)
  | fault
  deriving DecidableEq, Repr

/-- R102: the criterion classes, in the order of section 7.1. -/
inductive FireClass where
  | gas
  | smoke
  | heat
  | panel
  deriving DecidableEq, Repr

/-- R102: one criterion class: active, and the uptimes of its last activation and clearing. -/
structure Criterion where
  active : Bool
  activated : Option Nat
  cleared : Option Nat
  deriving DecidableEq, Repr

/-- Section 6.1: the fire stage, in its order. -/
inductive FireStage where
  | normal
  | preAlert
  | alert
  | confirmed
  | isolated
  deriving DecidableEq, Repr

/-- The named indication codes of the four masters (R161). -/
inductive Code where
  | stopped
  | standby
  | syncReady
  | running
  | fault
  | hold
  | inService
  | shed
  | quiet
  | panelAlarm
  | ventRequest
  | suppressionReleased
  | resetRequest
  | panelFault
  | absent
  | present
  deriving DecidableEq, Repr

/-- R111: a means of detection out of service. -/
inductive DetectionItem where
  | loop (number : Nat)
  | gas (channel : Nat)
  | panelLink
  deriving DecidableEq, Repr

/-- Chapter 6: the fire and gas unit. -/
structure FireUnit where
  loops : Vector DetectorLoop 8
  gas1 : GasChannel
  gas2 : GasChannel
  /-- Panel code in use; none is UNKNOWN. -/
  panelCode : Option Code
  gas : Criterion
  smoke : Criterion
  heat : Criterion
  panel : Criterion
  stage : FireStage
  /-- Stage entry time, uptime in ms. -/
  entered : Nat
  /-- Quiet since, uptime in ms, or none. -/
  quietSince : Option Nat
  /-- The uptime at which the running isolation timer expires; none when stopped. -/
  isolationTimer : Option Nat
  incompleteReported : Bool
  degraded : Bool
  /-- R111, R114: the items the latest pass counted. -/
  counted : List DetectionItem
  deriving DecidableEq, Repr

/-! ## Record store (chapter 7) -/

/-- Section 7.1: the trigger of a snapshot. -/
inductive Trigger where
  | alertEntry
  | confirmedEntry
  deriving DecidableEq, Repr

/-- Section 7.1: an entry of the hottest-sensor list. -/
structure HotSensor where
  str : Str
  addr : Addr
  /-- Sensor number, 1 to 4. -/
  sensor : Nat
  reading : Int
  rise : Option Int
  deriving DecidableEq, Repr

/-- Section 8.1: the agreement state. -/
inductive AgreementState where
  | none
  | offered
  | resolved
  | mismatch
  | lapsed
  deriving DecidableEq, Repr

/-- Section 9.1: the breaker permit state. -/
inductive PermitState where
  | opened
  | closePending
  | closed
  | tripped
  | lockedOut
  deriving DecidableEq, Repr

/-- Section 7.1: a snapshot. A gas reading of none is FAULT. -/
structure Snapshot where
  sequence : Nat
  /-- Seconds of uptime. -/
  uptime : Nat
  trigger : Trigger
  classes : List FireClass
  hottest : List HotSensor
  gas1 : Option Nat
  gas2 : Option Nat
  limits : Row
  revision : BitVec 16
  string1 : StringName × Option LockCause
  string2 : StringName × Option LockCause
  agreement : AgreementState
  permit : PermitState
  mode : CoolingMode
  deriving DecidableEq, Repr

/-- Section 7.1: the snapshot store. -/
structure SnapshotStore where
  slot1 : Option Snapshot
  slot2 : Option Snapshot
  slot3 : Option Snapshot
  slot4 : Option Snapshot
  lastSequence : Nat
  freezes : Nat
  deriving DecidableEq, Repr

/-- Section 7.5: the protection trip counters, one a cause. -/
structure TripCounters where
  cellOv : Nat
  cellUv : Nat
  cellOt : Nat
  excursion : Nat
  prechargeFail : Nat
  welded : Nat
  feedback : Nat
  deriving DecidableEq, Repr

/-- Section 7.4: a temperature histogram. -/
structure Histogram where
  bin1 : Nat
  bin2 : Nat
  bin3 : Nat
  bin4 : Nat
  bin5 : Nat
  bin6 : Nat
  count : Nat
  deriving DecidableEq, Repr

/-- Sections 7.3 to 7.5: the service statistics of one string. -/
structure StringStats where
  chargeThroughput : Nat
  dischargeThroughput : Nat
  chargeResidue : Nat
  dischargeResidue : Nat
  histogram : Histogram
  chainMisses : Nat
  trips : TripCounters
  excursions : Nat
  deriving DecidableEq, Repr

/-- Section 7.5: the service statistics of one link. -/
structure LinkStats where
  crcBad : Nat
  dropped : Nat
  deriving DecidableEq, Repr

/-- Chapter 7: the record store. -/
structure RecordStore where
  snapshots : SnapshotStore
  strings : PerString StringStats
  links : PerLink LinkStats
  deriving DecidableEq, Repr

/-! ## Grid agreement unit (chapter 8) -/

/-- Section 8.1: the remote condition of an offer. -/
inductive RemoteCondition where
  | ok
  | linkFailure
  | offline
  | agreementError
  deriving DecidableEq, Repr

/-- Section 8.1: a schedule segment. -/
structure Segment where
  start : Nat
  importLimit : Nat
  exportLimit : Nat
  deriving DecidableEq, Repr

/-- Section 8.1: an offer record. A CNV offer carries no minimum import, no minute and no segments: they stand at 0,
none and the empty list, and nothing reads them. -/
structure Offer where
  toggle : Bool
  condition : RemoteCondition
  importLimit : Nat
  exportLimit : Nat
  ramp : Nat
  minImport : Nat
  minute : Option Nat
  segments : List Segment
  deriving DecidableEq, Repr

/-- R132: the resolved values. -/
structure Resolved where
  importPower : Nat
  exportPower : Nat
  ramp : Nat
  deriving DecidableEq, Repr

/-- R132: the mismatch flags. -/
structure MismatchFlags where
  minImport : Bool
  condition : Bool
  rampDiffers : Bool
  deriving DecidableEq, Repr

/-- R137: the site minute clock: the minute, and the uptime of the next minute boundary. -/
structure MinuteClock where
  minute : Nat
  boundary : Nat
  deriving DecidableEq, Repr

/-- Section 8.1: the source of the bus voltage in use. -/
inductive BusSource where
  | head1
  | head2
  | nominal
  deriving DecidableEq, Repr

/-- Chapter 8: the grid agreement unit. -/
structure Agreement where
  cnvOffer : Option Offer
  stnOffer : Option Offer
  state : AgreementState
  resolved : Option Resolved
  flags : MismatchFlags
  /-- Last taken toggle of CNV; none is NONE. -/
  cnvToggle : Option Bool
  /-- Last taken toggle of STN; none is NONE. -/
  stnToggle : Option Bool
  /-- Station lapse: true is YES. -/
  lapse : Bool
  clock : Option MinuteClock
  /-- Bus voltage in use with its source, or NONE. -/
  bus : Option (Nat × BusSource)
  basisImport : Nat
  basisExport : Nat
  /-- Number of JOINED strings used at the last computation; none before the first. -/
  countUsed : Option Nat
  /-- GA values last delivered. -/
  gaCharge : Nat
  gaDischarge : Nat
  deriving DecidableEq, Repr

/-! ## Grid permit unit (chapter 9) -/

/-- Section 9.1: the cause of a trip. -/
inductive TripCause where
  | fire
  | shed
  | noString
  | converterFault
  | converterSilent
  | agreementLost
  | external
  deriving DecidableEq, Repr

/-- Section 9.1: a trip record. -/
structure TripRecord where
  cause : TripCause
  /-- Seconds of uptime. -/
  uptime : Nat
  agreement : AgreementState
  stage : FireStage
  bus : Option Nat
  current1 : Option Int
  current2 : Option Int
  deriving DecidableEq, Repr

/-- Chapter 9: the grid permit unit. Timers hold the uptime at which they expire. -/
structure Permit where
  state : PermitState
  releasePending : Bool
  closeTimer : Option Nat
  releaseTimer : Option Nat
  recloseTimer : Option Nat
  /-- The uptime at which the running trip pulse ends. -/
  pulse : Option Nat
  /-- Trip times, oldest first, uptimes in ms. -/
  tripTimes : List Nat
  /-- Trip record ring, oldest first. -/
  ring : List TripRecord
  cnvCode : Option Code
  stnCode : Option Code
  /-- The breaker feedback input. -/
  breaker : Contact
  deriving DecidableEq, Repr

/-! ## Station links (chapter 10) -/

/-- Section 10.7: the notice kinds, in their fixed order. -/
inductive NoticeKind where
  | envelopeChanged
  | stringState
  | fireStage
  | agreement
  | breaker
  | snapshot
  | fault
  | codeLost
  | overrun
  | restart
  deriving DecidableEq, Repr

/-- R145: the detail of a BREAKER notice. -/
inductive BreakerDetail where
  | trip (cause : TripCause)
  | connect
  | closed
  | closeTimeout
  | disconnect
  | released
  | releaseTimeout
  | reclose
  | clearLock
  | unpermittedClose
  deriving DecidableEq, Repr

/-- R108: a condition of R107 that does not hold. -/
inductive IsolationGap where
  | mainClosed (c : Str)
  | prechargeClosed (c : Str)
  | stringIn (c : Str)
  | breakerClosed
  deriving DecidableEq, Repr

/-- R176: the cause of a CONFIG-FAULT. -/
inductive ConfigCause where
  | crc
  | format
  | content
  deriving DecidableEq, Repr

/-- Section 6.7: the three resets. -/
inductive ResetKind where
  | powerOn
  | resetLine
  | siteReset
  deriving DecidableEq, Repr

/-- R167 and the posting rules: the detail of a notice. -/
inductive NoticeDetail where
  /-- ENVELOPE-CHANGED carries none (R72). -/
  | envelope
  /-- STRING-STATE (R44). -/
  | string (c : Str) (state : StringName) (cause : Option LockCause)
  /-- FIRE-STAGE (R104): the new stage, the old, the classes active and the classes recent. -/
  | fireStage (new old : FireStage) (active recent : List FireClass)
  /-- AGREEMENT (R131). -/
  | agreement (state : AgreementState) (flags : MismatchFlags)
  /-- BREAKER (R145). -/
  | breaker (old new : PermitState) (what : BreakerDetail)
  /-- SNAPSHOT (R119). -/
  | snapshot (slot sequence : Nat) (trigger : Trigger)
  /-- FAULT, unit loss (R8). -/
  | unitLoss (c : Str) (lost : ChainUnit) (status : UnitStatus)
  /-- FAULT, FEEDBACK-DISAGREE (R58): the head's pair and the part's own. -/
  | feedbackDisagree (c : Str) (headMain headPrecharge ownMain ownPrecharge : Contact)
  /-- FAULT, INPUT-FAULT (R80). -/
  | inputFault (input : InputName)
  /-- FAULT, PUMP-FAULT (R85). -/
  | pumpFault
  /-- FAULT, LOOP-FAULT (R99). -/
  | loopFault (number : Nat) (state : LoopState)
  /-- FAULT, GAS-FAULT (R100). -/
  | gasFault (channel : Nat)
  /-- FAULT, ISOLATION-INCOMPLETE (R108). -/
  | isolationIncomplete (gaps : List IsolationGap)
  /-- FAULT, DEGRADED (R111). -/
  | degraded (items : List DetectionItem)
  /-- FAULT, CONFIG-FAULT (R176). -/
  | configFault (cause : ConfigCause)
  /-- CODE-LOST (R163). -/
  | codeLost (l : Link) (code : Code)
  /-- OVERRUN (R165). -/
  | overrun (l : Link)
  /-- RESTART (R171). -/
  | restart (kind : ResetKind)
  deriving DecidableEq, Repr

/-- R167: a pending notice: the detail of the latest posting and the posting count, 1 to 255. -/
structure Posting where
  detail : NoticeDetail
  count : Nat
  deriving DecidableEq, Repr

/-- R158: a request, as its telegram carried it. -/
structure Request where
  kind : Byte
  seq : Byte
  payload : List Byte
  deriving DecidableEq, Repr

/-- Section 6.6: the answer codes, in the numbering of R158. -/
inductive AnswerCode where
  | done
  | clamped
  | refusedPort
  | refusedState
  | busy
  | badFormat
  | unknownKind
  deriving DecidableEq, Repr

/-- R159: one field of an answer's content: a number (eight bytes), a field that holds NONE, UNKNOWN, INVALID,
SENSOR-FAULT, FAULT, ABSENT or EMPTY in place of a number (eight bytes), or one byte: a named value by its place
in its list, or the count that opens a set or list. -/
inductive Item where
  | number (v : Int)
  | nothing
  | byte (n : Nat)
  deriving DecidableEq, Repr

/-- R158, R166: an answer composed for a link. `ofHead` says that it answers the request at the head of the queue;
the others answer PROBE-MODULE requests that left the queue at their delivery. -/
structure Answer where
  kind : Byte
  seq : Byte
  code : AnswerCode
  content : List Item
  ofHead : Bool
  deriving DecidableEq, Repr

/-- R169: the site codes, in the order of their numbers 0 to 7. -/
inductive SiteCode where
  | startUp
  | safe
  | ready
  | connected
  | derated
  | fireAlert
  | fireIsolated
  | configFault
  deriving DecidableEq, Repr

/-- R170: the site mode. -/
inductive SiteMode where
  | auto
  | maintenance
  deriving DecidableEq, Repr

/-- Chapter 10: what the station links hold for one link. -/
structure LinkState where
  /-- Request queue, oldest first. -/
  queue : List Request
  /-- The request at the head has been delivered and waits for its answer (COMMIT, R166). -/
  waiting : Bool
  /-- Answers composed and not yet sent whole; the first is being sent. -/
  out : List Answer
  /-- Taken indication code; none is UNKNOWN. -/
  taken : Option Code
  /-- The named code of the last valid status word, where it counts toward a take (R162). -/
  candidate : Option Code
  /-- Change buffer: first unread change (R163). -/
  firstChange : Option Code
  /-- Change buffer: latest change (R163). -/
  latestChange : Option Code
  /-- Pending set, one place a kind in the fixed order (R167). -/
  notices : Vector (Option Posting) 10
  /-- Mask: bit k is the kind at place k (R159, kind 22). -/
  mask : BitVec 10
  /-- The uptime at which the silence timer expires; none while SILENT. -/
  silence : Option Nat
  /-- The link speed in force, baud. -/
  speed : Nat
  /-- The site code last sent on the link. -/
  sent : SiteCode
  deriving DecidableEq, Repr

/-! ## Configuration store (chapter 11) -/

/-- R174, R176: the stored image: its values, whether its format number is that of this part, whether its CRC-32
over the whole image is correct, and the CRC-32 it carries. -/
structure Image where
  values : Params
  formatOk : Bool
  crcOk : Bool
  crc : BitVec 32
  deriving DecidableEq, Repr

/-- Chapter 11: the configuration store. -/
structure ConfigStore where
  working : Params
  /-- The stored image; none where no image is present. -/
  image : Option Image
  /-- Configuration state: true is CONFIG-FAULT. -/
  fault : Bool
  /-- Commit state: the copy being written while WRITING, none in IDLE. -/
  writing : Option Params
  /-- CRC-32 of the stored image as last checked or written. -/
  crc : Option (BitVec 32)
  /-- Cause of the last CONFIG-FAULT entry. -/
  cause : Option ConfigCause
  deriving DecidableEq, Repr

/-! ## The part -/

/-- R175: where the part stands between supply, reset line and start-up load. -/
inductive Phase where
  /-- The supply is below its threshold. -/
  | off
  /-- In reset, the reset line asserted. -/
  | held
  /-- The start-up load runs. -/
  | loading
  /-- The reset is complete. -/
  | running
  deriving DecidableEq, Repr

/-- The uptimes at which the periodic events of the part next come: the envelope tick (R70), the analog sample (R80),
the fire evaluation (R97), the permit evaluation (R149), the second of the reading ages (R6) and the second of the
histogram sample (R124). -/
structure Clocks where
  envelope : Nat
  sample : Nat
  fire : Nat
  permit : Nat
  age : Nat
  histogram : Nat
  deriving DecidableEq, Repr

/-- The state of the part. -/
@[ext]
structure State where
  phase : Phase
  /-- The reset line input: true while asserted. -/
  resetLine : Bool
  /-- The reset that started last. -/
  resetKind : ResetKind
  /-- The SITE-RESET answer has been sent whole and its reset has not started yet (R178). -/
  siteResetDue : Bool
  /-- Uptime in ms since the completion of the last reset. -/
  uptime : Nat
  clocks : Clocks
  chains : PerString Chain
  supervision : PerString Supervision
  strings : PerString StringController
  envelope : Envelope
  plant : Plant
  fire : FireUnit
  store : RecordStore
  agreement : Agreement
  permit : Permit
  links : PerLink LinkState
  siteMode : SiteMode
  stationCap : Nat
  serviceCap : Nat
  config : ConfigStore
  /-- The MODEL's own field: how many free choices of order have been drawn (log entry 3). -/
  choices : Nat
  /-- The commands that wait, first in first out. -/
  pending : List Instr
  deriving DecidableEq, Repr

/-- No command of this block stops the machine: the spec names no such event, so the type is empty. -/
inductive Fault where
  deriving DecidableEq, Repr

/-- Why a command has no meaning. -/
inductive Refusal where
  /-- Raised only by an arm of `exec` whose command has no meaning yet; no arm does. Safe: the run stops. -/
  | notModelled (mnemonic : String)
  deriving DecidableEq, Repr

/-! ## Values after reset -/

/-- R10, R19: the head record after a reset or of an UNFITTED chain. -/
def HeadRecord.cleared : HeadRecord where
  status := .notYetRead
  miss := 0
  age := 65535
  lastGood := none
  current := 0
  stringVoltage := 0
  busVoltage := 0
  main := .opened
  precharge := .opened

/-- R9, R19: a cleared module record. -/
def ModuleRecord.cleared : ModuleRecord where
  status := .notYetRead
  cells := Vector.replicate 16 none
  sensors := Vector.replicate 4 none
  miss := 0
  age := 65535
  requested := []
  applied := []

/-- R19: a chain controller after any reset, with a range in force. -/
def Chain.atReset (range : ScanRange) : Chain where
  head := .cleared
  modules := Vector.replicate 12 .cleared
  range := range
  cycle := .waiting
  nextUnit := .head
  cadence := .quiet
  due := none
  nextDue := none
  unfittedCheck := none
  firstDone := false
  probes := []
  inFlight := none
  lastKind := none

/-- R33: a sensor that is UNSET. The baseline is not used until it is formed (section 2.9); it stands at 0 (log
entry 5). -/
def SensorTrack.unset : SensorTrack where
  baseline := 0
  state := .unset
  rise := none
  flag := .none

/-- Section 2.9: the cell supervision of one string after any reset. -/
def Supervision.atReset : Supervision where
  overVolt := 0
  underVolt := 0
  overTemp := 0
  sensors := Vector.replicate 12 (Vector.replicate 4 .unset)

/-- R61: a string controller after a power-on, its feedback inputs reading OPEN (log entry 5). -/
def StringController.atPowerOn : StringController where
  state := .opened
  excursions := 0
  check := none
  disagreement := false
  mainInput := .opened
  prechargeInput := .opened

/-- Four equal entries. -/
def Row.all (n : Nat) : Row := ⟨n, n, n, n⟩

/-- R79: the envelope unit after any reset. -/
def Envelope.atReset : Envelope where
  table := { vh := .all 0, td := .all 0, cd := .all 4000, fs := .all 4000, ga := .all 0, sc := .all 4000 }
  limits := .all 0
  revision := 0
  published := none

/-- R96: an output with a dwell, after any reset: OFF, changed at the reset, nothing pending. -/
def DwellOutput.atReset : DwellOutput := ⟨false, 0, none⟩

/-- R96: the thermal plant after any reset; the flow switch input keeps its level. -/
def Plant.atReset (flowInput : Flow) (prescaler : Nat) : Plant where
  mode := .idle
  fanDuty := 0
  pumpDuty := 0
  prescaler := prescaler
  chiller1 := .atReset
  chiller2 := .atReset
  chiller2Follows := false
  heater := .atReset
  flow := .ok
  flowTimer := none
  flowInput := flowInput
  inlet := .unknown
  outlet := .unknown
  container := .unknown
  outside := .unknown
  demand := none

/-- R116: a criterion class after any reset. -/
def Criterion.atReset : Criterion := ⟨false, none, none⟩

/-- R116: the fire and gas unit after any reset. -/
def FireUnit.atReset : FireUnit where
  loops := Vector.replicate 8 ⟨.normal, none, .unused⟩
  gas1 := .unknown
  gas2 := .unknown
  panelCode := none
  gas := .atReset
  smoke := .atReset
  heat := .atReset
  panel := .atReset
  stage := .normal
  entered := 0
  quietSince := none
  isolationTimer := none
  incompleteReported := false
  degraded := false
  counted := []

/-- R122: the snapshot store after a power-on. -/
def SnapshotStore.empty : SnapshotStore := ⟨none, none, none, none, 0, 0⟩

/-- R128: the statistics of one string, cleared. -/
def StringStats.zero : StringStats where
  chargeThroughput := 0
  dischargeThroughput := 0
  chargeResidue := 0
  dischargeResidue := 0
  histogram := ⟨0, 0, 0, 0, 0, 0, 0⟩
  chainMisses := 0
  trips := ⟨0, 0, 0, 0, 0, 0, 0⟩
  excursions := 0

/-- R128: the statistics of one link, cleared. -/
def LinkStats.zero : LinkStats := ⟨0, 0⟩

/-- R122, R128: the record store after a power-on. -/
def RecordStore.empty : RecordStore where
  snapshots := .empty
  strings := ⟨.zero, .zero⟩
  links := ⟨.zero, .zero, .zero, .zero⟩

/-- R132: no mismatch flag set. -/
def MismatchFlags.none : MismatchFlags := ⟨false, false, false⟩

/-- R144: the grid agreement unit after any reset. -/
def Agreement.atReset : Agreement where
  cnvOffer := none
  stnOffer := none
  state := .none
  resolved := none
  flags := .none
  cnvToggle := none
  stnToggle := none
  lapse := false
  clock := none
  bus := none
  basisImport := 0
  basisExport := 0
  countUsed := none
  gaCharge := 0
  gaDischarge := 0

/-- R156: the grid permit unit after a power-on, the breaker feedback input reading OPEN (log entry 5). -/
def Permit.atPowerOn : Permit where
  state := .opened
  releasePending := false
  closeTimer := none
  releaseTimer := none
  recloseTimer := none
  pulse := none
  tripTimes := []
  ring := []
  cnvCode := none
  stnCode := none
  breaker := .opened

/-- R171: a link right after a reset's start: nothing queued, nothing taken, nothing pending; the completion of the
reset posts RESTART and starts the silence timer. That the pending set is empty and the attention line withdrawn between the
two is a DESIGN CHOICE (log entry 30). -/
def LinkState.atReset (speed : Nat) (sent : SiteCode) : LinkState where
  queue := []
  waiting := false
  out := []
  taken := none
  candidate := none
  firstChange := none
  latestChange := none
  notices := Vector.replicate 10 none
  mask := 0
  silence := none
  speed := speed
  sent := sent

/-- The uptimes of the first periodic events after the completion of a reset (R70, R80, R97, R149, R6, R124). -/
def Clocks.atReset : Clocks := ⟨100, 500, 100, 100, 1000, 1000⟩

/-- R174: the image a completed commit leaves. -/
def Image.written (p : Params) : Image := ⟨p, true, true, imageCrc p⟩

/-- R175: the part at the start of a power-on's load, its stored image a sound one of the defaults (log entry 5). -/
def State.powerOnLoading : State where
  phase := .loading
  resetLine := false
  resetKind := .powerOn
  siteResetDue := false
  uptime := 0
  clocks := .atReset
  chains := ⟨.atReset ⟨1, 12⟩, .atReset ⟨1, 12⟩⟩
  supervision := ⟨.atReset, .atReset⟩
  strings := ⟨.atPowerOn, .atPowerOn⟩
  envelope := .atReset
  plant := .atReset .noFlow 2
  fire := .atReset
  store := .empty
  agreement := .atReset
  permit := .atPowerOn
  links := ⟨.atReset 19200 .startUp, .atReset 19200 .startUp, .atReset 19200 .startUp, .atReset 19200 .startUp⟩
  siteMode := .auto
  stationCap := 4000
  serviceCap := 4000
  config :=
    { working := .defaults
      image := some (.written .defaults)
      fault := false
      writing := none
      crc := none
      cause := none }
  choices := 0
  pending := []

/-- R13, R17: a chain whose first cycle has just become due at uptime 0, its head transaction started. -/
def Chain.firstCycle (c : Chain) : Chain :=
  { c with
    cycle := .running
    due := some 0
    nextDue := some 5000
    lastKind := some .scan
    inFlight := some ⟨.scan, .head, [], [], 4⟩ }

/-- R164, R171: a link at the completion of a power-on: RESTART pending once, the silence timer running. -/
def LinkState.atPowerOn (silence : Nat) : LinkState :=
  { LinkState.atReset 19200 .startUp with
    notices := (Vector.replicate 10 none).set 9 (some ⟨.restart .powerOn, 1⟩)
    silence := some silence }

/-- The part right after a power-on reset: at the completion of its start-up load, which found a sound image of the
defaults (log entries 5 and 6). Every block stands at the values its chapter gives for after a power-on (R19, section
2.9, R61, R79, R96, R116, R122, R128, R144, R156, R171, R179); the first cycle of both chains has become due (R13), so
the head transactions run (R17), and the feedback checks come due 200 ms later (R61). -/
def State.reset : State :=
  { State.powerOnLoading with
    phase := .running
    chains := ⟨(Chain.atReset ⟨1, 12⟩).firstCycle, (Chain.atReset ⟨1, 12⟩).firstCycle⟩
    strings := ⟨{ StringController.atPowerOn with check := some 200 }, { StringController.atPowerOn with check := some 200 }⟩
    links := ⟨.atPowerOn 2000, .atPowerOn 120000, .atPowerOn 10000, .atPowerOn 5000⟩
    config := { State.powerOnLoading.config with crc := some (imageCrc .defaults) } }

end Sys2Proof.Machine
end

