-- ==== Sys2Proof/Machine/Flags.lean ====
section
/-! DEFINITION. The flags, classifications and small computations of the spec, as functions of plain values: nothing here
reads or changes the state of the part. -/

namespace Sys2Proof.Machine

/-! ## Arithmetic (section 6.2) -/

/-- Section 7.5: one more on a saturating 32-bit counter. -/
def countUp (n : Nat) : Nat :=
  min 4294967295 (n + 1)

/-- R66: a breakpoint list evaluated at `x`; a list with no breakpoint, which no parameter holds, gives 0. -/
def interpolate (x : Int) : List Breakpoint → Int
  | [] => 0
  | [p] => p.v
  | p :: q :: rest =>
    if x < p.t then p.v
    else if x < q.t then p.v + Int.fdiv ((q.v - p.v) * (x - p.t)) (q.t - p.t)
    else interpolate x (q :: rest)

/-! ## Balance sets -/

/-- Section 1.3: the cell numbers 1 to 16 of a list as a set, in ascending order; other numbers are not stored (R4). -/
def cellSet (cells : List Nat) : List Nat :=
  (List.range' 1 16).filter fun n => cells.contains n

/-- R35: the candidates in the order of choice: higher voltage first, between equals the lower cell number. The list
holds cell numbers with their voltages. -/
def insertCandidate (x : Nat × Nat) : List (Nat × Nat) → List (Nat × Nat)
  | [] => [x]
  | y :: rest =>
    if x.2 > y.2 ∨ (x.2 = y.2 ∧ x.1 < y.1) then x :: y :: rest else y :: insertCandidate x rest

/-- R35: the four candidates with the highest voltages, as a balance set. -/
def chooseFour (candidates : List (Nat × Nat)) : List Nat :=
  cellSet (((candidates.foldr insertCandidate []).take 4).map Prod.fst)

/-- R35: the candidates of a module's cells: not INVALID, and above both the string minimum plus the window and the
floor. -/
def candidates (cells : Vector (Option Nat) 16) (least : Nat) (window floor : Int) : List (Nat × Nat) :=
  (cells.toList.zipIdx 1).filterMap fun (v, n) =>
    match v with
    | some mv => if (mv : Int) > least + window ∧ (mv : Int) > floor then some (n, mv) else none
    | none => none

/-- The greatest of a list, or none. -/
def greatest (l : List Int) : Option Int :=
  l.max?

/-- The least of a list, or none. -/
def least (l : List Int) : Option Int :=
  l.min?

/-! ## Records (chapters 1 and 2) -/

/-- R35: a module's valid sensor readings, in sensor order. -/
def ModuleRecord.validSensors (m : ModuleRecord) : List Int :=
  m.sensors.toList.filterMap id

/-- R35: the module's hottest valid sensor reading. -/
def ModuleRecord.hottest (m : ModuleRecord) : Option Int :=
  greatest m.validSensors

/-- R20: the record holds a cell marked INVALID. -/
def ModuleRecord.hasInvalid (m : ModuleRecord) : Bool :=
  m.cells.toList.any Option.isNone

/-- R25: the cell temperatures of a module, one for each sensor's four cells: the sensor's reading, or the module's
hottest valid reading in its place. -/
def ModuleRecord.cellTemps (m : ModuleRecord) : List Int :=
  m.sensors.toList.filterMap fun x =>
    match x with
    | some t => some t
    | none => m.hottest

/-- Section 1.3: a module address lies in the range in force and the chain is not UNFITTED. -/
def Chain.fitted (c : Chain) (a : Addr) : Bool :=
  c.cycle != .unfitted && c.range.first ≤ a.number && a.number ≤ c.range.last

/-- The fitted modules of a chain, in ascending address order. -/
def Chain.fittedModules (c : Chain) : List (Addr × ModuleRecord) :=
  (List.finRange 12).filterMap fun a => if c.fitted a then some (a, c.modules[a]) else none

/-- The fitted modules whose status is CURRENT. -/
def Chain.currentModules (c : Chain) : List ModuleRecord :=
  (c.fittedModules.map Prod.snd).filter fun m => m.status == .current

/-- R46: the head record and every fitted module record are CURRENT. -/
def Chain.allCurrent (c : Chain) : Bool :=
  c.head.status == .current && c.fittedModules.all fun (_, m) => m.status == .current

/-- R35, R37, R39, R46: some cell of a fitted module, in whatever status, is INVALID. -/
def Chain.anyInvalid (c : Chain) : Bool :=
  c.fittedModules.any fun (_, m) => m.hasInvalid

/-- R25: the hottest valid temperature of the string; none is NONE. -/
def Chain.hottest (c : Chain) : Option Int :=
  greatest (c.currentModules.flatMap ModuleRecord.validSensors)

/-- R25: the coldest cell temperature of the string; none is NONE. -/
def Chain.coldest (c : Chain) : Option Int :=
  least (c.currentModules.flatMap ModuleRecord.cellTemps)

/-- R38: every valid cell voltage of the fitted modules. -/
def Chain.voltages (c : Chain) : List Nat :=
  c.fittedModules.flatMap fun (_, m) => m.cells.toList.filterMap id

/-- R35: the string minimum, the lowest valid cell voltage of any fitted CURRENT module. -/
def Chain.stringMinimum (c : Chain) : Option Nat :=
  (c.currentModules.flatMap fun m => m.cells.toList.filterMap id).min?

/-- R34: some sensor of the string has the rise flag PRE or HEAT. -/
def Supervision.anyRise (v : Supervision) : Bool :=
  v.sensors.toList.any fun m => m.toList.any fun t => t.flag != .none

/-- R34: some sensor of the string has the rise flag HEAT. -/
def Supervision.anyHeat (v : Supervision) : Bool :=
  v.sensors.toList.any fun m => m.toList.any fun t => t.flag == .heat

/-! ## Hard limits (section 2.2) -/

/-- R22: a complete cycle breaches the over-voltage limit. -/
def Chain.breachOv (c : Chain) (p : Params) : Bool :=
  c.currentModules.any fun m => m.cells.toList.any fun v => v.any fun mv => (mv : Int) > p.overVolt

/-- R22: a complete cycle breaches the under-voltage limit. -/
def Chain.breachUv (c : Chain) (p : Params) : Bool :=
  c.currentModules.any fun m => m.cells.toList.any fun v => v.any fun mv => (mv : Int) < p.underVolt

/-- R22: a complete cycle breaches the over-temperature limit. -/
def Chain.breachOt (c : Chain) (p : Params) : Bool :=
  c.currentModules.any fun m => m.sensors.toList.any fun x => x.any fun t => t > p.overTemp

/-- R23: a hard-limit counter after a cycle. -/
def nextCounter (breach : Bool) (n : Nat) : Nat :=
  if breach then (if n < 3 then n + 1 else 3) else 0

/-- R23: a counter reached 3 in an update, having stood at 2. -/
def reachesThree (breach : Bool) (n : Nat) : Bool :=
  breach && n == 2

/-! ## Rise (section 2.4) -/

/-- The absolute heat level, 70.0 °C (section 2.1). -/
def absoluteHeat : Int := 700

/-- R29: the rise flag from the last rise and the reading. -/
def riseFlag (p : Params) (r x : Int) : RiseFlag :=
  if r ≥ p.heatRise ∨ x ≥ absoluteHeat then .heat
  else if r ≥ p.preRise then .pre
  else .none

/-- R28: the baseline after a TRACKING update. -/
def trackBaseline (p : Params) (b x : Int) : Int :=
  b + Int.tdiv (16 * x - b) (2 ^ p.filterShift.toNat)

/-- Section 2.4: the rise of a reading against a baseline. -/
def riseOf (b x : Int) : Int :=
  x - Int.fdiv b 16

/-- R27 to R31: a sensor after the evaluation of a reading; none is SENSOR-FAULT. -/
def SensorTrack.evaluate (p : Params) (k : SensorTrack) : Option Int → SensorTrack
  | none => { k with rise := none, flag := .none }
  | some x =>
    match k.state with
    | .unset => { baseline := 16 * x, state := .tracking, rise := some 0, flag := riseFlag p 0 x }
    | .tracking =>
      let b := trackBaseline p k.baseline x
      let r := riseOf b x
      { baseline := b, state := if r ≥ p.preRise then .frozen else .tracking, rise := some r, flag := riseFlag p r x }
    | .frozen =>
      let r := riseOf k.baseline x
      { k with
        state := if r < Int.fdiv p.preRise 2 then .tracking else .frozen
        rise := some r
        flag := riseFlag p r x }

/-! ## The VH and TD rows (sections 2.6, 2.7) -/

/-- R38: the VH charge entry from the highest cell voltage. -/
def vhCharge (p : Params) (highest : Nat) : Nat :=
  if (highest : Int) ≤ p.vts then p.imaxC.toNat
  else if (highest : Int) ≥ p.vst then 0
  else (Int.fdiv (p.imaxC * (p.vst - highest)) (p.vst - p.vts)).toNat

/-- R39: the VH discharge entry from the lowest cell voltage. -/
def vhDischarge (p : Params) (lowest : Nat) : Nat :=
  if (lowest : Int) ≥ p.vdt then p.imaxD.toNat
  else if (lowest : Int) ≤ p.vds then 0
  else (Int.fdiv (p.imaxD * (lowest - p.vds)) (p.vdt - p.vds)).toNat

/-- R39: whether both VH entries are 0 whatever the voltages: a fitted module not CURRENT, or an INVALID cell. -/
def Chain.vhForcedZero (c : Chain) : Bool :=
  (c.fittedModules.any fun (_, m) => m.status != .current) || c.anyInvalid

/-- R38, R39: the VH charge and discharge entries of a string. -/
def Chain.vh (c : Chain) (p : Params) : Nat × Nat :=
  if c.vhForcedZero then (0, 0)
  else match c.voltages.max?, c.voltages.min? with
    | some highest, some lowest => (vhCharge p highest, vhDischarge p lowest)
    | _, _ => (0, 0)

/-- R41: whether both TD entries are 0 whatever the tables give. -/
def Chain.tdForcedZero (c : Chain) : Bool :=
  (c.currentModules.any fun m => (m.sensors.toList.filter Option.isNone).length ≥ 2) || c.hottest.isNone

/-- R40, R41: the TD charge and discharge entries of a string. -/
def Chain.td (c : Chain) (p : Params) : Nat × Nat :=
  if c.tdForcedZero then (0, 0)
  else match c.coldest, c.hottest with
    | some tc, some th =>
      ((min (interpolate tc p.chargeTable) (interpolate th p.chargeTable)).toNat,
        (min (interpolate tc p.dischargeTable) (interpolate th p.dischargeTable)).toNat)
    | _, _ => (0, 0)

/-! ## String states (section 3.1) -/

/-- The name of a string state. -/
def StringState.name : StringState → StringName
  | .opened => .opened
  | .precharge _ => .precharge
  | .joined => .joined
  | .opening _ _ => .opening
  | .locked _ => .locked

/-- The LOCKED cause, none in any other state. -/
def StringState.cause : StringState → Option LockCause
  | .locked k => some k
  | _ => none

/-- R44: the main contactor drive of a state and phase. -/
def StringState.mainDrive : StringState → Bool
  | .precharge .handover => true
  | .joined => true
  | .opening _ _ => true
  | _ => false

/-- R44: the pre-charge contactor drive of a state. -/
def StringState.prechargeDrive : StringState → Bool
  | .precharge _ => true
  | _ => false

/-- R9, R10, R54, R107: the string is OPEN or LOCKED. -/
def StringState.apart : StringState → Bool
  | .opened => true
  | .locked _ => true
  | _ => false

/-- The state LOCKED or OPEN that an end state names (R51). -/
def EndState.state : EndState → StringState
  | .opened => .opened
  | .locked k => .locked k

/-- R56: the result of a feedback check. -/
inductive CheckResult where
  | agree
  | welded
  | feedback
  deriving DecidableEq, Repr

/-- R56: what a drive expects its feedback to read. -/
def expected (drive : Bool) : Contact :=
  if drive then .closed else .opened

/-- R56: the result of comparing the two feedback inputs with the drives; WELDED is found first. -/
def StringController.checkResult (k : StringController) : CheckResult :=
  if k.mainInput = .closed ∧ k.state.mainDrive = false then .welded
  else if k.mainInput = expected k.state.mainDrive ∧ k.prechargeInput = expected k.state.prechargeDrive then .agree
  else .feedback

/-- R55: the bound of an excursion above a published limit. -/
def excursionBound (limit : Nat) : Int :=
  limit + max 50 (limit / 10 : Nat)

/-- R55: a current is a charge or a discharge excursion of the two published limits. -/
def isExcursion (current : Int) (charge discharge : Nat) : Bool :=
  current > excursionBound charge || -current > excursionBound discharge

/-! ## The limit contribution table (chapter 4) -/

/-- The charge entry of a string. -/
def Row.charge (r : Row) : Str → Nat
  | .one => r.charge1
  | .two => r.charge2

/-- The discharge entry of a string. -/
def Row.discharge (r : Row) : Str → Nat
  | .one => r.discharge1
  | .two => r.discharge2

/-- A row with the two entries of one string replaced (R42). -/
def Row.setString (r : Row) (c : Str) (charge discharge : Nat) : Row :=
  match c with
  | .one => { r with charge1 := charge, discharge1 := discharge }
  | .two => { r with charge2 := charge, discharge2 := discharge }

/-- One value for each direction, the same for both strings (R64). -/
def Row.both (charge discharge : Nat) : Row := ⟨charge, discharge, charge, discharge⟩

/-- Two rows entry by entry. -/
def Row.zip (f : Nat → Nat → Nat) (a b : Row) : Row :=
  ⟨f a.charge1 b.charge1, f a.discharge1 b.discharge1, f a.charge2 b.charge2, f a.discharge2 b.discharge2⟩

/-- R67: the smallest of the six entries of each column. -/
def LimitTable.lowest (t : LimitTable) : Row :=
  t.vh.zip min (t.td.zip min (t.cd.zip min (t.fs.zip min (t.ga.zip min t.sc))))

/-- R67: the targets of the four entries: the column minimum of a JOINED string, 0 of any other. -/
def targets (t : LimitTable) (joined1 joined2 : Bool) : Row :=
  { charge1 := if joined1 then t.lowest.charge1 else 0
    discharge1 := if joined1 then t.lowest.discharge1 else 0
    charge2 := if joined2 then t.lowest.charge2 else 0
    discharge2 := if joined2 then t.lowest.discharge2 else 0 }

/-- R70: one published limit moved by a tick. -/
def tickLimit (step target limit : Nat) : Nat :=
  if target < limit then target else min target (limit + step)

/-- R67: the governing row of an entry. -/
inductive Governing where
  | vh
  | td
  | cd
  | fs
  | ga
  | sc
  | stringGate
  deriving DecidableEq, Repr

/-- R67: the first row in the order VH, TD, CD, FS, GA, SC whose entry equals the column minimum, or STRING-GATE. -/
def governing (t : LimitTable) (joined : Bool) (entry : Row → Nat) : Governing :=
  if ¬ joined then .stringGate
  else if entry t.vh = entry t.lowest then .vh
  else if entry t.td = entry t.lowest then .td
  else if entry t.cd = entry t.lowest then .cd
  else if entry t.fs = entry t.lowest then .fs
  else if entry t.ga = entry t.lowest then .ga
  else .sc

/-! ## Thermal plant (chapter 5) -/

/-- R80: a temperature reading stored, or FAULT outside −400..1500. -/
def plantInput (t : Int) : PlantInput :=
  if tempLow ≤ t ∧ t ≤ tempHigh then .value t else .fault

/-- The value of a plant input, where it has one. -/
def PlantInput.value? : PlantInput → Option Int
  | .value t => some t
  | _ => none

/-- The higher of two values, where there are any. -/
def higher : Option Int → Option Int → Option Int
  | some a, some b => some (max a b)
  | some a, none => some a
  | none, b => b

/-- The lower of two values, where there are any. -/
def lower : Option Int → Option Int → Option Int
  | some a, some b => some (min a b)
  | some a, none => some a
  | none, b => b

/-- R82: the damper of a mode: true is OPEN. -/
def CoolingMode.damperOpen : CoolingMode → Bool
  | .purge => true
  | _ => false

/-- R83: the fan duty of RUN. -/
def runFanDuty (p : Params) : Option Int → Nat
  | none => 255
  | some t =>
    let d := interpolate t p.fanCurve
    if 0 < d ∧ d < p.fanMin then p.fanMin.toNat else d.toNat

/-- R93: the coolant derate of an inlet value and a flow state. -/
def coolantDerate (p : Params) (inlet : PlantInput) (flow : FlowState) : Nat :=
  match inlet with
  | .value t =>
    let d := interpolate t [⟨p.derateStart, 4000⟩, ⟨p.derateStop, 0⟩]
    match flow with
    | .ok => d.toNat
    | .pumpFault => (min d p.pumpFaultCap).toNat
  | _ => 0

/-- R86: the minimum dwell of a chiller stage after its last change, in ms: 180 s after ON, 300 s after OFF. -/
def chillerDwell (on : Bool) : Nat :=
  if on then 180000 else 300000

/-- R91: the heater dwell, in ms. -/
def heaterDwell : Nat := 60000

/-! ## Fire and gas (chapter 6) -/

/-- R98: the sample state of a loop resistance in ohms. -/
def sampleState (ohms : Nat) : LoopState :=
  if ohms < 200 then .short
  else if ohms < 1500 then .alarm
  else if ohms ≤ 12000 then .normal
  else .opened

/-- R98: a loop after one sample: the debounce over three samples. -/
def DetectorLoop.sample (d : DetectorLoop) (x : LoopState) : DetectorLoop :=
  if x = d.state then { d with candidate := none }
  else match d.candidate with
    | some (y, n) =>
      if x = y then
        if n = 1 then { d with candidate := some (x, 2) } else { d with state := x, candidate := none }
      else { d with candidate := some (x, 1) }
    | none => { d with candidate := some (x, 1) }

/-- R99: the loop is broken: OPEN or SHORT. -/
def LoopState.broken : LoopState → Bool
  | .opened => true
  | .short => true
  | _ => false

/-- R99: a used loop type. -/
def LoopType.used : LoopType → Bool
  | .unused => false
  | _ => true

/-- R100: a gas conversion stored as VALID with its reading, or as FAULT. -/
def gasSample (ppm : Int) : GasChannel :=
  if 0 ≤ ppm ∧ ppm ≤ 2000 then .valid ppm.toNat else .fault

/-- R100: a channel is VALID with a reading at or above a threshold. -/
def GasChannel.atLeast (g : GasChannel) (threshold : Int) : Bool :=
  match g with
  | .valid ppm => (ppm : Int) ≥ threshold
  | _ => false

/-- R102: a class updated at an uptime. -/
def Criterion.update (k : Criterion) (active : Bool) (now : Nat) : Criterion :=
  if active = k.active then k
  else if active then { k with active := true, activated := some now }
  else { k with active := false, cleared := some now }

/-- R103: the confirmation window, in ms. -/
def confirmationWindow : Nat := 120000

/-- R103: a class is recent: active, or cleared less than 120 s ago. -/
def Criterion.recent (k : Criterion) (now : Nat) : Bool :=
  k.active || k.cleared.any fun t => now < t + confirmationWindow

/-- 'ALERT or higher' (section 6.1). -/
def FireStage.alertOrHigher : FireStage → Bool
  | .alert => true
  | .confirmed => true
  | .isolated => true
  | _ => false

/-- The stage is CONFIRMED or ISOLATED. -/
def FireStage.fire : FireStage → Bool
  | .confirmed => true
  | .isolated => true
  | _ => false

/-- R112: the FS row of a stage, before the degraded cap. -/
def stageRow (p : Params) : FireStage → Nat × Nat
  | .normal => (4000, 4000)
  | .preAlert => (p.preAlertCap.toNat, p.preAlertCap.toNat)
  | .alert => (0, p.preAlertCap.toNat)
  | .confirmed => (0, 0)
  | .isolated => (0, 0)

/-- R112: the FS row of a stage and the DEGRADED condition. -/
def fsRow (p : Params) (g : FireStage) (degraded : Bool) : Row :=
  let r := stageRow p g
  if degraded then Row.both (min r.1 p.degradedCap.toNat) (min r.2 p.degradedCap.toNat) else Row.both r.1 r.2

/-! ## Grid agreement (chapter 8) -/

/-- R132: the mismatch flags of two offers under a station lapse. -/
def mismatch (cnv stn : Offer) (lapse : Bool) : MismatchFlags :=
  { condition := cnv.condition != .ok || (stn.condition != .ok && !(stn.condition == .offline && lapse))
    minImport := stn.minImport > cnv.importLimit
    rampDiffers := cnv.ramp != stn.ramp }

/-- R132: the state, flags and resolved values that the offers held and the station lapse give. -/
def resolution (cnv stn : Option Offer) (lapse : Bool) : AgreementState × MismatchFlags × Option Resolved :=
  match cnv, stn with
  | none, none => (.none, .none, none)
  | some _, none => (.offered, .none, none)
  | none, some _ => (.offered, .none, none)
  | some c, some t =>
    let f := mismatch c t lapse
    if f.condition || f.minImport then (.mismatch, f, none)
    else
      (if lapse then .lapsed else .resolved, f,
        some ⟨min t.importLimit c.importLimit, min t.exportLimit c.exportLimit, min c.ramp t.ramp⟩)

/-- R138: the segment in force at a minute: the last one that starts at or before it, or the last of the list. -/
def segmentAt (segments : List Segment) (minute : Nat) : Option Segment :=
  match (segments.filter fun g => g.start ≤ minute).getLast? with
  | some g => some g
  | none => segments.getLast?

/-- R141: the per-string current of a power in 0.1 kW, at a bus voltage in 0.1 V, shared among `n` JOINED strings. -/
def perString (power v n : Nat) : Nat :=
  min 4000 (power * 10000 / v / max 1 n)

/-! ## Grid permit (chapter 9) -/

/-- R150, R154: trips apply in CLOSE-PENDING and CLOSED only. -/
def PermitState.connected : PermitState → Bool
  | .closePending => true
  | .closed => true
  | _ => false

/-- R145: the permit line. -/
def Permit.line (q : Permit) : Bool :=
  match q.state with
  | .closePending => true
  | .closed => !q.releasePending
  | _ => false

/-- R145: the trip line. -/
def Permit.tripLine (q : Permit) : Bool := q.pulse.isSome

/-- R151: a list with a value appended as its newest entry, the oldest dropped first where it already holds `most`. -/
def appendRing {α : Type} (most : Nat) (l : List α) (x : α) : List α :=
  (if l.length ≥ most then l.drop 1 else l) ++ [x]

/-- R151: the lockout test: three trip times, the oldest 600 s or less before the newest. -/
def lockout (times : List Nat) : Bool :=
  match times with
  | [a, _, c] => c ≤ a + 600000
  | _ => false

/-! ## Notices and codes (chapter 10) -/

/-- Section 10.7: the place of a kind in the fixed order. -/
def NoticeKind.place : NoticeKind → Fin 10
  | .envelopeChanged => 0
  | .stringState => 1
  | .fireStage => 2
  | .agreement => 3
  | .breaker => 4
  | .snapshot => 5
  | .fault => 6
  | .codeLost => 7
  | .overrun => 8
  | .restart => 9

/-- R161: the named code of a link's code value. -/
def namedCode : Link → Nat → Code
  | .cnv, 1 => .standby
  | .cnv, 2 => .syncReady
  | .cnv, 3 => .running
  | .cnv, 4 => .fault
  | .cnv, _ => .stopped
  | .stn, 1 => .inService
  | .stn, 2 => .shed
  | .stn, _ => .hold
  | .pnl, 0 => .quiet
  | .pnl, 1 => .panelAlarm
  | .pnl, 2 => .ventRequest
  | .pnl, 3 => .suppressionReleased
  | .pnl, 4 => .resetRequest
  | .pnl, _ => .panelFault
  | .svc, 1 => .present
  | .svc, _ => .absent

/-- R167: the attention line: a pending kind is not masked. -/
def LinkState.attention (k : LinkState) : Bool :=
  (List.finRange 10).any fun i => k.notices[i].isSome && !k.mask.getLsbD i

/-- R169: a published limit lies below half of its maximum. -/
def belowHalf (limit : Nat) (maximum : Int) : Bool :=
  2 * (limit : Int) < maximum

end Sys2Proof.Machine
end

