-- ==== Sys2Proof/Machine/Operands.lean ====
section
/-! DEFINITION. What the bytes of a request mean and how the fields of an answer become bytes: R158, R159, and the
permission table of section 10.6. -/

namespace Sys2Proof.Machine

/-! ## Reading a payload (R159) -/

/-- R159: a two-byte number, high byte first. -/
def number2 (hi lo : Byte) : Nat :=
  256 * hi.toNat + lo.toNat

/-- R159: a two-byte temperature, signed in two's complement, high byte first. -/
def signed2 (hi lo : Byte) : Int :=
  (BitVec.ofNat 16 (number2 hi lo)).toInt

/-- R159: a four-byte SET-PARAM value, signed in two's complement, high byte first. -/
def signed4 (a b c d : Byte) : Int :=
  (BitVec.ofNat 32 (65536 * number2 a b + number2 c d)).toInt

/-- A string byte: 1 or 2. -/
def strOf (b : Byte) : Option Str :=
  if b = 1 then some .one else if b = 2 then some .two else none

/-- A module address byte: 1 to 12. -/
def addrOf (b : Byte) : Option Addr :=
  if h : b.toNat - 1 < 12 ∧ b ≠ 0 then some ⟨b.toNat - 1, h.1⟩ else none

/-- R159, kinds 2 and 3: a string and a module address. -/
def parseModule : List Byte → Option (Str × Addr)
  | [s, a] => match strOf s, addrOf a with
    | some c, some d => some (c, d)
    | _, _ => none
  | _ => none

/-- R159, kinds 4 to 6, and 20 naming a string: one string byte. -/
def parseString : List Byte → Option Str
  | [s] => strOf s
  | _ => none

/-- What RESET-BASELINE names: one module or all, one sensor or all (R32). -/
structure SensorChoice where
  str : Str
  addr : Option Addr
  sensor : Option (Fin 4)
  deriving DecidableEq, Repr

/-- R32, R159, kind 19: a string, a module (0 for ALL), a sensor (0 for ALL). -/
def parseSensors : List Byte → Option SensorChoice
  | [s, m, k] =>
    match strOf s with
    | none => none
    | some c =>
      if m.toNat ≤ 12 ∧ k.toNat ≤ 4 then
        some ⟨c, addrOf m, if h : k.toNat - 1 < 4 ∧ k ≠ 0 then some ⟨k.toNat - 1, h.1⟩ else none⟩
      else none
  | _ => none

/-- R159: the remote condition byte. -/
def conditionOf (b : Byte) : Option RemoteCondition :=
  match b.toNat with
  | 0 => some .ok
  | 1 => some .linkFailure
  | 2 => some .offline
  | 3 => some .agreementError
  | _ => none

/-- R129: the toggle byte. -/
def toggleOf (b : Byte) : Option Bool :=
  if b = 0 then some false else if b = 1 then some true else none

/-- R159: the segments of an extension list, six bytes each; none for a list cut short. -/
def parseSegments : List Byte → Option (List Segment)
  | [] => some []
  | a :: b :: c :: d :: e :: f :: rest =>
    (parseSegments rest).map (⟨number2 a b, number2 c d, number2 e f⟩ :: ·)
  | _ => none

/-- R129: start minutes strictly ascending. -/
def segmentsAscend : List Segment → Bool
  | p :: q :: rest => decide (p.start < q.start) && segmentsAscend (q :: rest)
  | _ => true

/-- R129: the numeric values of an offer clamped. -/
def Offer.clamp (o : Offer) : Offer :=
  { o with
    importLimit := min 50000 o.importLimit
    exportLimit := min 50000 o.exportLimit
    minImport := min 50000 o.minImport
    ramp := max 1 (min 50000 o.ramp)
    segments := o.segments.map fun g => { g with importLimit := min 50000 g.importLimit, exportLimit := min 50000 g.exportLimit } }

/-- R129, R159: a CNV offer as sent, or none where it is BAD-FORMAT. -/
def parseCnvOffer : List Byte → Option Offer
  | [t, k, i1, i2, e1, e2, r1, r2] =>
    match toggleOf t, conditionOf k with
    | some tog, some cond => some ⟨tog, cond, number2 i1 i2, number2 e1 e2, number2 r1 r2, 0, none, []⟩
    | _, _ => none
  | _ => none

/-- R129, R159: an STN offer as sent, or none where it is BAD-FORMAT: a wrong length, toggle, condition or minute
flag; more than 6 segments; a minute above 1439; start minutes not strictly ascending. -/
def parseStnOffer : List Byte → Option Offer
  | t :: k :: i1 :: i2 :: e1 :: e2 :: r1 :: r2 :: n1 :: n2 :: mf :: m1 :: m2 :: count :: rest =>
    match toggleOf t, conditionOf k, toggleOf mf, parseSegments rest with
    | some tog, some cond, some present, some segs =>
      let minute := if present then some (number2 m1 m2) else none
      if segs.length = count.toNat ∧ segs.length ≤ 6 ∧ (minute.all fun m => m ≤ 1439)
          ∧ (segs.all fun g => g.start ≤ 1439) ∧ segmentsAscend segs then
        some ⟨tog, cond, number2 i1 i2, number2 e1 e2, number2 r1 r2, number2 n1 n2, minute, segs⟩
      else none
    | _, _, _, _ => none
  | _ => none

/-- R129: an OFFER as sent on a link. -/
def parseOffer (l : Link) (payload : List Byte) : Option Offer :=
  match l with
  | .cnv => parseCnvOffer payload
  | .stn => parseStnOffer payload
  | _ => none

/-- R159, kind 23: the breakpoints of a table or curve, four bytes each: a temperature and a current or duty. The first is
signed, the second is not, a DESIGN CHOICE (log entry 27). -/
def parsePoints : List Byte → Option (List Breakpoint)
  | [] => some []
  | a :: b :: c :: d :: rest => (parsePoints rest).map (⟨signed2 a b, number2 c d⟩ :: ·)
  | _ => none

/-- R159, R172: the value a SET-PARAM carries, where it has its parameter's form. -/
def parseValue : ParamForm → List Byte → Option ParamValue
  | .numeric _ _, [a, b, c, d] => some (.number (signed4 a b c d))
  | .speed, [a, b, c, d] => some (.number (signed4 a b c d))
  | .names _, [a] => some (.named a.toNat)
  | .points _ _ _, count :: rest =>
    match parsePoints rest with
    | some l => if l.length = count.toNat then some (.list l) else none
    | none => none
  | _, _ => none

/-! ## Kinds and permissions (section 10.6) -/

/-- How the permission table allows a kind on a link. -/
inductive Permission where
  | yes
  | never
  | onlyAuto
  | onlyMaintenance
  deriving DecidableEq, Repr

/-- The permission table: the entry of each kind on each link. -/
def permission (kind : Nat) (l : Link) : Permission :=
  match kind, l with
  | 1, _ => .yes
  | 2, .cnv => .yes
  | 2, .svc => .yes
  | 3, .svc => .yes
  | 4, _ => .yes
  | 5, .cnv => .onlyAuto
  | 5, .svc => .onlyMaintenance
  | 6, .cnv => .yes
  | 6, .stn => .yes
  | 6, .svc => .yes
  | 7, .cnv => .yes
  | 7, .stn => .yes
  | 8, .svc => .yes
  | 9, .cnv => .yes
  | 9, .stn => .yes
  | 9, .svc => .yes
  | 10, .stn => .onlyAuto
  | 10, .svc => .onlyMaintenance
  | 11, .cnv => .yes
  | 11, .stn => .yes
  | 11, .svc => .yes
  | 12, .stn => .yes
  | 12, .svc => .onlyMaintenance
  | 13, .pnl => .yes
  | 14, _ => .yes
  | 15, .stn => .yes
  | 15, .pnl => .yes
  | 15, .svc => .yes
  | 16, .svc => .yes
  | 17, .stn => .yes
  | 17, .svc => .yes
  | 18, .svc => .yes
  | 19, .svc => .yes
  | 20, .svc => .yes
  | 21, _ => .yes
  | 22, _ => .yes
  | 23, .svc => .yes
  | 24, .svc => .yes
  | 25, .svc => .yes
  | 26, .svc => .yes
  | 27, .svc => .yes
  | _, _ => .never

/-- R166: what the serving link finds of a request before its block sees it: a refusal code, or none. -/
def portRefusal (kind : Byte) (l : Link) (mode : SiteMode) : Option AnswerCode :=
  if !knownKind kind then some .unknownKind
  else match permission kind.toNat l, mode with
    | .never, _ => some .refusedPort
    | .onlyAuto, .maintenance => some .refusedState
    | .onlyMaintenance, .auto => some .refusedState
    | _, _ => none

/-! ## The fields of an answer (R159) -/

/-- A number. -/
def num (n : Nat) : Item := .number n

/-- A number, or a field that holds none. -/
def numOr : Option Nat → Item
  | some n => num n
  | none => .nothing

/-- A signed number, or a field that holds none. -/
def intOr : Option Int → Item
  | some v => .number v
  | none => .nothing

/-- A value the defining table lists as 'NO or YES', 'off, on' or 'withdrawn, asserted' (log entry 20). -/
def noYes (b : Bool) : Item := .byte (if b then 1 else 0)

/-- A value the defining table lists as 'YES or NO' or 'ON or OFF'. -/
def yesNo (b : Bool) : Item := .byte (if b then 0 else 1)

/-- A set or list: a count byte, then its members. -/
def listOf {α : Type} (f : α → List Item) (l : List α) : List Item :=
  .byte l.length :: l.flatMap f

/-- The number of a string. -/
def strNumber : Str → Nat
  | .one => 1
  | .two => 2

/-- OPEN or CLOSED. -/
def contactItem (c : Contact) : Item := .byte c.ctorIdx

/-- A unit's address: 0 for the head unit. -/
def ChainUnit.number : ChainUnit → Nat
  | .head => 0
  | .module a => a.number

/-- The LOCKED cause, none last in its list (section 3.1). -/
def causeItem : Option LockCause → Item
  | some k => .byte k.ctorIdx
  | none => .byte 7

/-- A string state, with the LOCKED cause where LOCKED (R77). -/
def stateItems (n : StringName) (k : Option LockCause) : List Item :=
  .byte n.ctorIdx :: (match n with
    | .locked => [causeItem k]
    | _ => [])

/-- The number of an indication code in its link's list (R161). -/
def Code.number : Code → Nat
  | .stopped => 0
  | .standby => 1
  | .syncReady => 2
  | .running => 3
  | .fault => 4
  | .hold => 0
  | .inService => 1
  | .shed => 2
  | .quiet => 0
  | .panelAlarm => 1
  | .ventRequest => 2
  | .suppressionReleased => 3
  | .resetRequest => 4
  | .panelFault => 5
  | .absent => 0
  | .present => 1

/-- A code in use, UNKNOWN after the last of its list. -/
def codeItem (unknown : Nat) : Option Code → Item
  | some c => .byte c.number
  | none => .byte unknown

/-- The four entries of a row. -/
def Row.items (r : Row) : List Item :=
  [num r.charge1, num r.discharge1, num r.charge2, num r.discharge2]

/-- A set of classes. -/
def classItems (l : List FireClass) : List Item :=
  listOf (fun k => [.byte k.ctorIdx]) l

/-- The mismatch flags as a set, in the order MIN-IMPORT, CONDITION, RAMP-DIFFERS. -/
def MismatchFlags.items (f : MismatchFlags) : List Item :=
  listOf (fun n => [.byte n])
    ((if f.minImport then [0] else []) ++ (if f.condition then [1] else []) ++ (if f.rampDiffers then [2] else []))

/-- The link's number in the order of the permission table. -/
def linkNumber (l : Link) : Nat := l.ctorIdx

/-- R145: a BREAKER detail: the trip causes of section 9.1, then the details in the order R145 lists them. -/
def BreakerDetail.number : BreakerDetail → Nat
  | .trip k => k.ctorIdx
  | .connect => 7
  | .closed => 8
  | .closeTimeout => 9
  | .disconnect => 10
  | .released => 11
  | .releaseTimeout => 12
  | .reclose => 13
  | .clearLock => 14
  | .unpermittedClose => 15

/-- R108: a gap of the isolation: its kind, then the string where it names one. No list numbers the kinds; main feedback 0,
pre-charge feedback 1, string 2 and breaker feedback 3 are a DESIGN CHOICE (log entry 20). -/
def IsolationGap.items : IsolationGap → List Item
  | .mainClosed c => [.byte 0, num (strNumber c)]
  | .prechargeClosed c => [.byte 1, num (strNumber c)]
  | .stringIn c => [.byte 2, num (strNumber c)]
  | .breakerClosed => [.byte 3]

/-- R111: an item out of service: its kind, then its number where it has one. No list numbers the kinds; loop 0, gas channel
1 and PNL link 2 are a DESIGN CHOICE (log entry 20). -/
def DetectionItem.items : DetectionItem → List Item
  | .loop n => [.byte 0, num n]
  | .gas n => [.byte 1, num n]
  | .panelLink => [.byte 2]

/-- The detail of a notice as the posting rule gives it; a FAULT detail opens with its source, in the order R167 lists
the sources, CONFIG-FAULT last. -/
def NoticeDetail.items : NoticeDetail → List Item
  | .envelope => []
  | .string c n k => num (strNumber c) :: stateItems n k
  | .fireStage new old active recent =>
    [.byte new.ctorIdx, .byte old.ctorIdx] ++ classItems active ++ classItems recent
  | .agreement g f => .byte g.ctorIdx :: f.items
  | .breaker old new what => [.byte old.ctorIdx, .byte new.ctorIdx, .byte what.number]
  | .snapshot slot n t => [num slot, num n, .byte t.ctorIdx]
  | .unitLoss c u g => [.byte 0, num (strNumber c), num u.number, .byte g.ctorIdx]
  | .feedbackDisagree c a b d e =>
    [.byte 1, num (strNumber c), contactItem a, contactItem b, contactItem d, contactItem e]
  | .inputFault n => [.byte 2, .byte n.ctorIdx]
  | .pumpFault => [.byte 3]
  | .loopFault n g => [.byte 4, num n, .byte g.ctorIdx]
  | .gasFault n => [.byte 5, num n]
  | .isolationIncomplete gaps => .byte 6 :: listOf IsolationGap.items gaps
  | .degraded l => .byte 7 :: listOf DetectionItem.items l
  | .configFault k => [.byte 8, .byte k.ctorIdx]
  | .codeLost l k => [.byte (linkNumber l), .byte k.number]
  | .overrun l => [.byte (linkNumber l)]
  | .restart k => [.byte k.ctorIdx]

/-! ## The bytes of an answer (R158, R159) -/

/-- A number in eight bytes, two's complement, high byte first. -/
def eightBytes (v : BitVec 64) : List Byte :=
  [(v >>> 56).setWidth 8, (v >>> 48).setWidth 8, (v >>> 40).setWidth 8, (v >>> 32).setWidth 8,
    (v >>> 24).setWidth 8, (v >>> 16).setWidth 8, (v >>> 8).setWidth 8, v.setWidth 8]

/-- R159: the bytes of one field. -/
def Item.bytes : Item → List Byte
  | .number v => eightBytes (BitVec.ofInt 64 v)
  | .nothing => eightBytes 0x8000000000000000#64
  | .byte n => [BitVec.ofNat 8 n]

/-- R158: the numbers of the answer codes. -/
def AnswerCode.number : AnswerCode → Nat
  | .done => 0
  | .clamped => 1
  | .refusedPort => 2
  | .refusedState => 3
  | .busy => 4
  | .badFormat => 5
  | .unknownKind => 6

/-- R158: content cut into the parts of at most 58 bytes an answer is sent in; `fuel` bounds the number of parts. -/
def cutParts : Nat → List Byte → List (List Byte)
  | 0, l => [l]
  | fuel + 1, l => if l.length ≤ 58 then [l] else l.take 58 :: cutParts fuel (l.drop 58)

/-- R158: the content of an answer, byte by byte, in its parts. -/
def Answer.parts (a : Answer) : List (List Byte) :=
  let l := a.content.flatMap Item.bytes
  cutParts l.length l

/-- R158: the part byte: the part number in bits 0 to 6, bit 7 set on the last part. -/
def partByte (i : Nat) (last : Bool) : Byte :=
  BitVec.ofNat 8 (i % 128 + if last then 128 else 0)

/-- R158: the telegrams an answer is sent as, one a part, flags included. -/
def Answer.telegrams (a : Answer) : List (List Byte) :=
  let n := a.parts.length
  a.parts.mapIdx fun i part =>
    telegramFrame a.kind a.seq (BitVec.ofNat 8 a.code.number :: partByte i (i + 1 == n) :: part)

/-- R158: the two bytes of the status word the part sends for a site code. -/
def SiteCode.word (g : SiteCode) : List Byte :=
  [statusMark, statusByte g.ctorIdx]

end Sys2Proof.Machine
end

