-- ==== Sys2Proof/Machine/Ops.lean ====
section
/-! DEFINITION. The operations every block shares: the passing of time, access to one string's or one link's part of the
state, posting a notice, counting an event, the free order of independent receivers, and the serving and answering of
a request. -/

namespace Sys2Proof.Machine

/-! ## Time (log entry 2) -/

/-- Uptime reaches `t`, if it has not passed it. -/
def State.atTime (s : State) (t : Nat) : State :=
  { s with uptime := max s.uptime t }

/-- The time left until an expiry. -/
def State.timeLeft (s : State) (expiry : Option Nat) : Option Nat :=
  expiry.map fun t => t - s.uptime

/-- Seconds of uptime, rounded down (R117, section 9.1). -/
def State.seconds (s : State) : Nat := s.uptime / 1000

/-! ## One string's, one link's part of the state -/

/-- The chain controller of a string. -/
def State.chain (s : State) (c : Str) : Chain := s.chains.get c

/-- The string controller of a string. -/
def State.string (s : State) (c : Str) : StringController := s.strings.get c

/-- The cell supervision of a string. -/
def State.cells (s : State) (c : Str) : Supervision := s.supervision.get c

/-- The state of a link. -/
def State.link (s : State) (l : Link) : LinkState := s.links.get l

/-- A chain controller changed. -/
def State.modChain (s : State) (c : Str) (f : Chain → Chain) : State :=
  { s with chains := s.chains.mod c f }

/-- A string controller changed. -/
def State.modString (s : State) (c : Str) (f : StringController → StringController) : State :=
  { s with strings := s.strings.mod c f }

/-- The cell supervision of a string changed. -/
def State.modCells (s : State) (c : Str) (f : Supervision → Supervision) : State :=
  { s with supervision := s.supervision.mod c f }

/-- A link changed. -/
def State.modLink (s : State) (l : Link) (f : LinkState → LinkState) : State :=
  { s with links := s.links.mod l f }

/-- A module record changed. -/
def State.modModule (s : State) (c : Str) (a : Addr) (f : ModuleRecord → ModuleRecord) : State :=
  s.modChain c fun k => { k with modules := vmod a f k.modules }

/-- The working parameter set. -/
def State.params (s : State) : Params := s.config.working

/-- R44: the number of JOINED strings. -/
def State.joinedCount (s : State) : Nat :=
  (if s.strings.one.state = .joined then 1 else 0) + (if s.strings.two.state = .joined then 1 else 0)

/-! ## Notices (R167) -/

/-- R167: a notice posted on one link. -/
def LinkState.post (k : LinkState) (n : NoticeKind) (d : NoticeDetail) : LinkState :=
  { k with
    notices := vmod n.place (fun o =>
      match o with
      | none => some ⟨d, 1⟩
      | some p => some ⟨d, min 255 (p.count + 1)⟩) k.notices }

/-- R167: a notice posted by any block is posted on every link. -/
def State.post (s : State) (n : NoticeKind) (d : NoticeDetail) : State :=
  { s with links := s.links.mapLinks fun _ k => k.post n d }

/-! ## Service statistics (R126) -/

/-- The service statistics of a string changed. -/
def State.modStats (s : State) (c : Str) (f : StringStats → StringStats) : State :=
  { s with store := { s.store with strings := s.store.strings.mod c f } }

/-- The service statistics of a link changed. -/
def State.modLinkStats (s : State) (l : Link) (f : LinkStats → LinkStats) : State :=
  { s with store := { s.store with links := s.store.links.mod l f } }

/-- R126: one more on the protection trip counter of a cause. -/
def TripCounters.count (t : TripCounters) : LockCause → TripCounters
  | .cellOv => { t with cellOv := countUp t.cellOv }
  | .cellUv => { t with cellUv := countUp t.cellUv }
  | .cellOt => { t with cellOt := countUp t.cellOt }
  | .excursion => { t with excursion := countUp t.excursion }
  | .welded => { t with welded := countUp t.welded }
  | .prechargeFail => { t with prechargeFail := countUp t.prechargeFail }
  | .feedback => { t with feedback := countUp t.feedback }

/-- R126: one more protection trip of a string. -/
def State.countTrip (s : State) (c : Str) (k : LockCause) : State :=
  s.modStats c fun t => { t with trips := t.trips.count k }

/-! ## The free order of independent receivers (log entry 3) -/

/-- The blocks that the orders of one step can leave different agree in two states. -/
def State.agreesWith (a b : State) : Bool :=
  a.envelope = b.envelope && a.agreement = b.agreement && a.permit = b.permit && a.strings = b.strings
    && a.links = b.links && a.store = b.store && a.plant = b.plant && a.fire = b.fire && a.choices = b.choices

/-- One of several states a step may lead to. Where they do not differ there is no choice; where they do, the next
free choice decides, and it is counted. -/
def State.oneOf (first : State) (others : List State) : State :=
  if others.all first.agreesWith then first
  else
    let all := first :: others
    let n := all.foldl (fun m t => max m t.choices) 0
    { all.getD (Config.pick n % all.length) first with choices := n + 1 }

/-- A list of effects one after the other. -/
def State.through (s : State) (effects : List (State → State)) : State :=
  effects.foldl (fun t f => f t) s

/-- Effects of receivers that hold different state and act in no fixed order (R113): every one is taken, whole, once,
in one of the orders there are. -/
def State.inAnyOrder (s : State) (effects : List (State → State)) : State :=
  match effects.permutations' with
  | [] => s
  | p :: rest => State.oneOf (s.through p) (rest.map s.through)

/-! ## Serving and answering requests (R166) -/

/-- R166: the link can serve the request: it stands at the head of the queue, no answer is being sent and none is
waited for, and no SITE-RESET holds the head of the SVC queue. A READ-PARAM behind a COMMIT waits with every other request
there, though R173 says it is served while a commit runs: DEDUCED (log entry 24). -/
def State.canServe (s : State) (l : Link) (r : Request) : Bool :=
  s.phase == .running && (s.link l).queue.head? == some r && (s.link l).out.isEmpty && !(s.link l).waiting
    && !(l == .svc && s.siteResetDue)

/-- R158: the kind byte of an answer: its request's kind with bit 7 set. -/
def answerKind (kind : Byte) : Byte := kind ||| 0x80

/-- R166: an answer composed; it is sent once the answers before it have been sent whole. -/
def State.answer (s : State) (l : Link) (a : Answer) : State :=
  s.modLink l fun k => { k with out := k.out ++ [a] }

/-- R166: the answer to the request at the head of the queue. -/
def State.answerHead (s : State) (l : Link) (r : Request) (code : AnswerCode) (content : List Item) : State :=
  s.answer l ⟨answerKind r.kind, r.seq, code, content, true⟩

/-- What a block does with a delivered request. -/
inductive Served where
  /-- It is answered at once. -/
  | now (code : AnswerCode) (content : List Item)
  /-- It waits for its answer at the head of the queue (COMMIT). -/
  | later
  /-- It leaves the queue at its delivery (PROBE-MODULE into a waiting list). -/
  | leaves
  deriving DecidableEq, Repr

/-- R166: the serving of a request. A request refused by the link is answered so; any other is delivered to its block.
A command whose request the link cannot serve is no event of the part and changes nothing (log entry 1). A refusal by the
link itself carries what `refused` takes from the state. -/
def State.serveWith (s : State) (l : Link) (r : Request) (refused : State → List Item)
    (block : State → State × Served) : State :=
  if s.canServe l r then
    match portRefusal r.kind l s.siteMode with
    | some code => s.answerHead l r code (refused s)
    | none =>
      match block s with
      | (t, .now code content) => t.answerHead l r code content
      | (t, .later) => t.modLink l fun k => { k with waiting := true }
      | (t, .leaves) => t.modLink l fun k => { k with queue := k.queue.drop 1 }
  else s

/-- R166: the serving of a request whose refusal by the link itself carries nothing, a DESIGN CHOICE (log entry 20). -/
def State.serve (s : State) (l : Link) (r : Request) (block : State → State × Served) : State :=
  s.serveWith l r (fun _ => []) block

/-- A block's answer that a request carrying a payload where it must carry none is BAD-FORMAT (R159). -/
def noPayload (payload : List Byte) (block : State → State × Served) (s : State) : State × Served :=
  if payload = [] then block s else (s, .now .badFormat [])

/-- The waiting requests of a probe answered, in waiting-list order (R15). -/
def State.answerWaiters (s : State) (waiters : List Waiter) (code : AnswerCode) (content : List Item) : State :=
  waiters.foldl (fun t w => t.answer w.link ⟨answerKind 3, w.seq, code, content, false⟩) s

end Sys2Proof.Machine
end

