-- ==== Sys2Proof/Machine/Records.lean ====
section
/-! DEFINITION. The record store (chapter 7): the freezing and placing of snapshots, throughput integration, the
temperature histograms, and the commands of the chapter. -/

namespace Sys2Proof.Machine

/-! ## Snapshots (section 7.1) -/

/-- R118: the valid sensor readings of a module, each with its place and the sensor's last rise. -/
def moduleSensors (c : Str) (v : Supervision) (x : Addr × ModuleRecord) : List HotSensor :=
  (List.finRange 4).filterMap fun k =>
    (x.2.sensors[k]).map fun t => ⟨c, x.1, k.val + 1, t, (v.sensors[x.1])[k].rise⟩

/-- R118: the readings of a string that make up its hottest valid temperature, in module and sensor order. -/
def State.stringSensors (s : State) (c : Str) : List HotSensor :=
  ((s.chain c).fittedModules.filter fun x => x.2.status == .current).flatMap (moduleSensors c (s.cells c))

/-- R118: a reading put in its place: higher readings first, equal ones as they came. -/
def insertHot (x : HotSensor) : List HotSensor → List HotSensor
  | [] => [x]
  | y :: rest => if x.reading ≥ y.reading then x :: y :: rest else y :: insertHot x rest

/-- R118: the hottest-sensor list. -/
def State.hottestSensors (s : State) : List HotSensor :=
  ((s.stringSensors .one ++ s.stringSensors .two).foldr insertHot []).take 3

/-- R117: a channel's reading if VALID, none (FAULT) otherwise. -/
def GasChannel.reading : GasChannel → Option Nat
  | .valid ppm => some ppm
  | _ => none

/-- R117: what a freeze order captures from the state a pass decided on; the record store gives it its sequence
number. -/
def State.capture (s : State) (trigger : Trigger) (classes : List FireClass) (sequence : Nat) : Snapshot where
  sequence := sequence
  uptime := s.seconds
  trigger := trigger
  classes := classes
  hottest := s.hottestSensors
  gas1 := s.fire.gas1.reading
  gas2 := s.fire.gas2.reading
  limits := s.envelope.limits
  revision := s.envelope.revision
  string1 := (s.strings.one.state.name, s.strings.one.state.cause)
  string2 := (s.strings.two.state.name, s.strings.two.state.cause)
  agreement := s.agreement.state
  permit := s.permit.state
  mode := s.plant.mode

/-- R119: the slot a snapshot is placed in: the lowest empty one of slots 1 to 3, or slot 4. -/
def SnapshotStore.place (k : SnapshotStore) (x : Snapshot) : SnapshotStore × Nat :=
  if k.slot1.isNone then ({ k with slot1 := some x }, 1)
  else if k.slot2.isNone then ({ k with slot2 := some x }, 2)
  else if k.slot3.isNone then ({ k with slot3 := some x }, 3)
  else ({ k with slot4 := some x }, 4)

/-- R117, R119: a freeze order taken: the snapshot numbered, placed and counted. -/
def SnapshotStore.freeze (k : SnapshotStore) (order : Nat → Snapshot) : SnapshotStore × Nat :=
  let n := countUp k.lastSequence
  let p := k.place (order n)
  ({ p.1 with lastSequence := n, freezes := countUp k.freezes }, p.2)

/-- R117, R119: what the record store does with a freeze order, SNAPSHOT posted. -/
def State.freeze (s : State) (order : Nat → Snapshot) : State :=
  let n := countUp s.store.snapshots.lastSequence
  let p := s.store.snapshots.freeze order
  { s with store := { s.store with snapshots := p.1 } }.post .snapshot (.snapshot p.2 n (order n).trigger)

/-! ## Throughput (R123) -/

/-- R123: the units of 0.1 A × 1 ms in one count of 0.1 Ah. -/
def chargeUnit : Nat := 3600000

/-- R123: a throughput counter and its residue after a charge `q`. -/
def throughput (counter residue q : Nat) : Nat × Nat :=
  (min 4294967295 (counter + (residue + q) / chargeUnit), (residue + q) % chargeUnit)

/-- R123: a head reply's current and interval integrated. -/
def StringStats.integrate (t : StringStats) (current : Int) (interval : Nat) : StringStats :=
  let q := current.natAbs * interval
  if current = 0 ∨ interval = 0 then t
  else if current > 0 then
    let r := throughput t.chargeThroughput t.chargeResidue q
    { t with chargeThroughput := r.1, chargeResidue := r.2 }
  else
    let r := throughput t.dischargeThroughput t.dischargeResidue q
    { t with dischargeThroughput := r.1, dischargeResidue := r.2 }

/-! ## Temperature histograms (section 7.4) -/

/-- R125: the sum of the six bins. -/
def Histogram.sum (h : Histogram) : Nat :=
  h.bin1 + h.bin2 + h.bin3 + h.bin4 + h.bin5 + h.bin6

/-- Section 7.4: the largest value a bin holds. -/
def binMost : Nat := 16777214

/-- R125: a histogram halved. -/
def Histogram.halve (h : Histogram) : Histogram :=
  { bin1 := h.bin1 / 2
    bin2 := h.bin2 / 2
    bin3 := h.bin3 / 2
    bin4 := h.bin4 / 2
    bin5 := h.bin5 / 2
    bin6 := h.bin6 / 2
    count := h.bin1 / 2 + h.bin2 / 2 + h.bin3 / 2 + h.bin4 / 2 + h.bin5 / 2 + h.bin6 / 2 }

/-- R124: the bin of a temperature, 0 for bin 1. -/
def binOf (t : Int) : Fin 6 :=
  if t < 0 then 0 else if t < 150 then 1 else if t < 300 then 2 else if t < 400 then 3 else if t < 500 then 4 else 5

/-- Section 7.4: the value of a bin. -/
def Histogram.bin (h : Histogram) : Fin 6 → Nat
  | 0 => h.bin1
  | 1 => h.bin2
  | 2 => h.bin3
  | 3 => h.bin4
  | 4 => h.bin5
  | 5 => h.bin6

/-- R124: one more in a bin and in the sample count. -/
def Histogram.add (h : Histogram) (i : Fin 6) : Histogram :=
  let k := { h with count := h.count + 1 }
  match i with
  | 0 => { k with bin1 := h.bin1 + 1 }
  | 1 => { k with bin2 := h.bin2 + 1 }
  | 2 => { k with bin3 := h.bin3 + 1 }
  | 3 => { k with bin4 := h.bin4 + 1 }
  | 4 => { k with bin5 := h.bin5 + 1 }
  | 5 => { k with bin6 := h.bin6 + 1 }

/-- R124, R125: a sample of a temperature. -/
def Histogram.sample (h : Histogram) (t : Int) : Histogram :=
  (if h.bin (binOf t) ≥ binMost then h.halve else h).add (binOf t)

/-- R124: the temperature a string is sampled at, none where it takes no sample. -/
def State.histogramTemp (s : State) (c : Str) : Option Int :=
  let h := (s.chain c).head
  if h.status = .current ∧ |h.current| ≥ 50 then (s.chain c).hottest else none

/-- R124: one string judged at a sample. -/
def State.sampleString (s : State) (c : Str) : State :=
  match s.histogramTemp c with
  | some t => s.modStats c fun x => { x with histogram := x.histogram.sample t }
  | none => s

/-- HISTOGRAM_SAMPLE (R124): at each whole second of uptime, each string in turn. -/
def histogramSample (s : State) : State :=
  if s.phase = .running then
    (({ s.atTime s.clocks.histogram with
        clocks := { s.clocks with histogram := s.clocks.histogram + 1000 } }).sampleString .one).sampleString .two
  else s

/-- HISTOGRAM_SAMPLE. -/
def execHistogramSample (s : State) : Host.Outcome State Fault Refusal :=
  .next (histogramSample s)

/-! ## READ-SNAPSHOT, CLEAR-SNAPSHOTS (section 7.2) -/

/-- R120: an entry of the hottest-sensor list. -/
def HotSensor.items (h : HotSensor) : List Item :=
  [num (strNumber h.str), num h.addr.number, num h.sensor, .number h.reading, intOr h.rise]

/-- R120: every field of a snapshot. -/
def Snapshot.items (x : Snapshot) : List Item :=
  [num x.sequence, num x.uptime, .byte x.trigger.ctorIdx]
    ++ classItems x.classes
    ++ listOf HotSensor.items x.hottest
    ++ [numOr x.gas1, numOr x.gas2]
    ++ x.limits.items ++ [num x.revision.toNat]
    ++ stateItems x.string1.1 x.string1.2 ++ stateItems x.string2.1 x.string2.2
    ++ [.byte x.agreement.ctorIdx, .byte x.permit.ctorIdx, .byte x.mode.ctorIdx]

/-- Section 7.1: the four slots, in order. -/
def SnapshotStore.slots (k : SnapshotStore) : List (Option Snapshot) :=
  [k.slot1, k.slot2, k.slot3, k.slot4]

/-- R120: a slot in the SUMMARY. -/
def summaryItems : Option Snapshot → List Item
  | some x => [num x.sequence, .byte x.trigger.ctorIdx]
  | none => [.nothing]

/-- R120: the content of the SUMMARY answer. -/
def SnapshotStore.summary (k : SnapshotStore) : List Item :=
  num (k.slots.filter Option.isSome).length :: k.slots.flatMap summaryItems ++ [num k.freezes, num k.lastSequence]

/-- R120: the content of the answer that names a slot. -/
def slotItems (n : Nat) : Option Snapshot → List Item
  | some x => num n :: x.items
  | none => [num n, .nothing]

/-- R120: READ-SNAPSHOT as the record store takes it: 1 to 4 for a slot, 0 for SUMMARY. -/
def readSnapshotBlock (payload : List Byte) (s : State) : State × Served :=
  let k := s.store.snapshots
  match payload with
  | [b] =>
    match b.toNat with
    | 0 => (s, .now .done k.summary)
    | 1 => (s, .now .done (slotItems 1 k.slot1))
    | 2 => (s, .now .done (slotItems 2 k.slot2))
    | 3 => (s, .now .done (slotItems 3 k.slot3))
    | 4 => (s, .now .done (slotItems 4 k.slot4))
    | _ => (s, .now .badFormat [])
  | _ => (s, .now .badFormat [])

/-- READ_SNAPSHOT (kind 15, R120). -/
def readSnapshot (l : Link) (seq : Byte) (payload : List Byte) (s : State) : State :=
  s.serve l ⟨15, seq, payload⟩ (readSnapshotBlock payload)

/-- READ_SNAPSHOT. -/
def execReadSnapshot (l : Link) (seq : Byte) (payload : List Byte) (s : State) : Host.Outcome State Fault Refusal :=
  .next (readSnapshot l seq payload s)

/-- R121: every slot empty, no freeze since the clear; the last sequence number stays. -/
def SnapshotStore.clear (k : SnapshotStore) : SnapshotStore :=
  { SnapshotStore.empty with lastSequence := k.lastSequence }

/-- R121: CLEAR-SNAPSHOTS as the record store takes it. -/
def clearSnapshotsBlock (s : State) : State × Served :=
  if s.fire.stage = .normal then
    ({ s with store := { s.store with snapshots := s.store.snapshots.clear } }, .now .done [])
  else (s, .now .refusedState [])

/-- CLEAR_SNAPSHOTS (kind 16, R121). -/
def clearSnapshots (l : Link) (seq : Byte) (payload : List Byte) (s : State) : State :=
  s.serve l ⟨16, seq, payload⟩ (noPayload payload clearSnapshotsBlock)

/-- CLEAR_SNAPSHOTS. -/
def execClearSnapshots (l : Link) (seq : Byte) (payload : List Byte) (s : State) : Host.Outcome State Fault Refusal :=
  .next (clearSnapshots l seq payload s)

/-! ## READ-STATS, CLEAR-STATS (section 7.6) -/

/-- R127: the statistics of one string. The trip counters stand in the order of section 7.5's table, PRECHARGE-FAIL before
WELDED, not in that of section 3.1's list of causes, a DESIGN CHOICE (log entry 20). -/
def StringStats.items (t : StringStats) : List Item :=
  [num t.chargeThroughput, num t.dischargeThroughput, num t.chargeResidue, num t.dischargeResidue,
    num t.histogram.bin1, num t.histogram.bin2, num t.histogram.bin3, num t.histogram.bin4, num t.histogram.bin5,
    num t.histogram.bin6, num t.histogram.count, num t.chainMisses,
    num t.trips.cellOv, num t.trips.cellUv, num t.trips.cellOt, num t.trips.excursion, num t.trips.prechargeFail,
    num t.trips.welded, num t.trips.feedback, num t.excursions]

/-- R127: the statistics of one link. -/
def LinkStats.items (t : LinkStats) : List Item := [num t.crcBad, num t.dropped]

/-- R127: the content of a READ-STATS answer; the uptime in seconds (log entry 20). -/
def State.statsItems (s : State) : List Item :=
  s.store.strings.one.items ++ s.store.strings.two.items
    ++ s.store.links.cnv.items ++ s.store.links.stn.items ++ s.store.links.pnl.items ++ s.store.links.svc.items
    ++ [num s.seconds]

/-- READ_STATS (kind 17, R127). -/
def readStats (l : Link) (seq : Byte) (payload : List Byte) (s : State) : State :=
  s.serve l ⟨17, seq, payload⟩ (noPayload payload fun t => (t, .now .done t.statsItems))

/-- READ_STATS. -/
def execReadStats (l : Link) (seq : Byte) (payload : List Byte) (s : State) : Host.Outcome State Fault Refusal :=
  .next (readStats l seq payload s)

/-- R128: every field of the service statistics becomes 0. -/
def RecordStore.clearStats (r : RecordStore) : RecordStore :=
  { RecordStore.empty with snapshots := r.snapshots }

/-- R128: CLEAR-STATS as the record store takes it. -/
def clearStatsBlock (s : State) : State × Served :=
  ({ s with store := s.store.clearStats }, .now .done [])

/-- CLEAR_STATS (kind 18, R128). -/
def clearStats (l : Link) (seq : Byte) (payload : List Byte) (s : State) : State :=
  s.serve l ⟨18, seq, payload⟩ (noPayload payload clearStatsBlock)

/-- CLEAR_STATS. -/
def execClearStats (l : Link) (seq : Byte) (payload : List Byte) (s : State) : Host.Outcome State Fault Refusal :=
  .next (clearStats l seq payload s)

end Sys2Proof.Machine
end

