-- ==== Sys2Proof/Machine/Envelope.lean ====
section
/-! DEFINITION. The envelope unit (chapter 4) and the caps of section 4.5: the downward computation, the tick,
publication, the updates of the limit contribution table, and the commands ENVELOPE-TICK, SET-CAP and
READ-ENVELOPE. -/

namespace Sys2Proof.Machine

/-- A string is JOINED. -/
def State.isJoined (s : State) (c : Str) : Bool := (s.string c).state = .joined

/-- R67: the four targets, formed from the table and the string states as they stand. -/
def State.targets (s : State) : Row :=
  Machine.targets s.envelope.table (s.isJoined .one) (s.isJoined .two)

/-- R72: a computation gives new published limits; a publication is made where at least one changed. -/
def State.publish (s : State) (limits : Row) : State :=
  if limits = s.envelope.limits then s
  else
    { s with
      envelope :=
        { s.envelope with
          limits := limits
          revision := s.envelope.revision + 1
          published := some s.uptime } }.post .envelopeChanged .envelope

/-- R68: the downward computation: each published limit above its target is set to its target. -/
def State.downward (s : State) : State :=
  s.publish (s.envelope.limits.zip min s.targets)

/-- R70: the tick: each published limit falls to its target, or rises toward it by at most the ramp step. -/
def State.tick (s : State) : State :=
  s.publish (s.targets.zip (tickLimit s.params.rampStep.toNat) s.envelope.limits)

/-- R65: an update of the limit contribution table: its entries stored, then one downward computation. -/
def State.updateTable (s : State) (f : LimitTable → LimitTable) : State :=
  { s with envelope := { s.envelope with table := f s.envelope.table } }.downward

/-- R42, R65: the four entries of a cycle complete. -/
def State.updateVhTd (s : State) (c : Str) (vh td : Nat × Nat) : State :=
  s.updateTable fun t => { t with vh := t.vh.setString c vh.1 vh.2, td := t.td.setString c td.1 td.2 }

/-- R93: all four CD entries. -/
def State.updateCd (s : State) (n : Nat) : State :=
  s.updateTable fun t => { t with cd := .all n }

/-- R112: all four FS entries. -/
def State.updateFs (s : State) (r : Row) : State :=
  s.updateTable fun t => { t with fs := r }

/-- R141: all four GA entries. -/
def State.updateGa (s : State) (charge discharge : Nat) : State :=
  s.updateTable fun t => { t with ga := .both charge discharge }

/-- R75: SC, 0 in CONFIG-FAULT. -/
def State.siteCap (s : State) : Nat :=
  if s.config.fault then 0 else min s.stationCap s.serviceCap

/-- R75: SC delivered in all four SC entries. -/
def State.deliverSc (s : State) : State :=
  s.updateTable fun t => { t with sc := .all s.siteCap }

/-- R76, R170: the return to AUTO: the service cap becomes 4000, and SC is delivered where the cap was below. -/
def State.returnToAuto (s : State) : State :=
  if s.siteMode = .maintenance then
    if s.serviceCap < 4000 then { s with siteMode := .auto, serviceCap := 4000 }.deliverSc
    else { s with siteMode := .auto, serviceCap := 4000 }
  else s

/-! ## Commands -/

/-- ENVELOPE_TICK (R70): the tick comes 100 ms after the last. -/
def envelopeTick (s : State) : State :=
  if s.phase = .running then
    ({ s.atTime s.clocks.envelope with clocks := { s.clocks with envelope := s.clocks.envelope + 100 } }).tick
  else s

/-- ENVELOPE_TICK. -/
def execEnvelopeTick (s : State) : Host.Outcome State Fault Refusal :=
  .next (envelopeTick s)

/-- R74: what the answer to a taken SET-CAP carries: both caps and the SC value. -/
def State.capItems (s : State) : List Item :=
  [num s.stationCap, num s.serviceCap, num s.siteCap]

/-- R74: a cap stored; SC is delivered where the cap changed. -/
def State.storeCap (s : State) (l : Link) (v : Nat) : State :=
  match l with
  | .svc => if v = s.serviceCap then s else { s with serviceCap := v }.deliverSc
  | _ => if v = s.stationCap then s else { s with stationCap := v }.deliverSc

/-- R74: SET-CAP as the links take it: a value above 4000 is clamped. -/
def setCapBlock (l : Link) (payload : List Byte) (s : State) : State × Served :=
  match payload with
  | [hi, lo] =>
    let t := s.storeCap l (min 4000 (number2 hi lo))
    (t, .now (if number2 hi lo > 4000 then .clamped else .done) t.capItems)
  | _ => (s, .now .badFormat [])

/-- SET_CAP (kind 12, R74). -/
def setCap (l : Link) (seq : Byte) (payload : List Byte) (s : State) : State :=
  s.serve l ⟨12, seq, payload⟩ (setCapBlock l payload)

/-- SET_CAP. -/
def execSetCap (l : Link) (seq : Byte) (payload : List Byte) (s : State) : Host.Outcome State Fault Refusal :=
  .next (setCap l seq payload s)

/-- R77: the target and the governing row of an entry. -/
def State.entryItems (s : State) (c : Str) (entry : Row → Nat) : List Item :=
  [num (entry s.targets), .byte (governing s.envelope.table (s.isJoined c) entry).ctorIdx]

/-- R77: the content of a READ-ENVELOPE answer. -/
def State.envelopeItems (s : State) : List Item :=
  s.envelope.limits.items
    ++ [num s.envelope.revision.toNat, numOr s.envelope.published]
    ++ s.entryItems .one Row.charge1 ++ s.entryItems .one Row.discharge1
    ++ s.entryItems .two Row.charge2 ++ s.entryItems .two Row.discharge2
    ++ s.envelope.table.vh.items ++ s.envelope.table.td.items ++ s.envelope.table.cd.items
    ++ s.envelope.table.fs.items ++ s.envelope.table.ga.items ++ s.envelope.table.sc.items
    ++ [num s.stationCap, num s.serviceCap, .byte s.siteMode.ctorIdx]
    ++ stateItems s.strings.one.state.name s.strings.one.state.cause
    ++ stateItems s.strings.two.state.name s.strings.two.state.cause
    ++ [.byte s.fire.stage.ctorIdx, .byte s.agreement.state.ctorIdx, .byte s.permit.state.ctorIdx]

/-- READ_ENVELOPE (kind 1, R77). -/
def readEnvelope (l : Link) (seq : Byte) (payload : List Byte) (s : State) : State :=
  s.serve l ⟨1, seq, payload⟩ (noPayload payload fun t => (t, .now .done t.envelopeItems))

/-- READ_ENVELOPE. -/
def execReadEnvelope (l : Link) (seq : Byte) (payload : List Byte) (s : State) : Host.Outcome State Fault Refusal :=
  .next (readEnvelope l seq payload s)

end Sys2Proof.Machine
end

