-- ==== Sys2Proof/Machine/Permit.lean ====
section
/-! DEFINITION. The grid permit unit (chapter 9): trips and unpermitted closes, and the commands CONNECT, DISCONNECT,
CLEAR-LOCK of the breaker, the breaker feedback, the unit's timers and its evaluation. -/

namespace Sys2Proof.Machine

/-- The grid permit unit changed. -/
def State.modPermit (s : State) (f : Permit → Permit) : State :=
  { s with permit := f s.permit }

/-- R145: the trip pulse, in ms. -/
def tripPulse : Nat := 200

/-- R145: BREAKER posted with the old state, the new state and a detail. -/
def State.postBreaker (s : State) (old : PermitState) (what : BreakerDetail) : State :=
  s.post .breaker (.breaker old s.permit.state what)

/-- Section 9.1: the string current of a head record, none where the head is not CURRENT. -/
def State.headCurrent (s : State) (c : Str) : Option Int :=
  if (s.chain c).head.status = .current then some (s.chain c).head.current else none

/-- R151, step 3: the record of a trip taken now. -/
def State.tripRecord (s : State) (k : TripCause) : TripRecord where
  cause := k
  uptime := s.seconds
  agreement := s.agreement.state
  stage := s.fire.stage
  bus := s.agreement.bus.map Prod.fst
  current1 := s.headCurrent .one
  current2 := s.headCurrent .two

/-- R151: the permit unit after a trip taken at an uptime. -/
def Permit.tripped (q : Permit) (now recloseDelay : Nat) (r : TripRecord) : Permit :=
  let times := appendRing 3 q.tripTimes now
  { q with
    state := if lockout times then .lockedOut else .tripped
    releasePending := false
    closeTimer := none
    releaseTimer := none
    recloseTimer := if lockout times then none else some (now + recloseDelay)
    pulse := some (now + tripPulse)
    tripTimes := times
    ring := appendRing 8 q.ring r }

/-- R150, R151: a trip; it happens only in CLOSE-PENDING and CLOSED. -/
def State.trip (s : State) (k : TripCause) : State :=
  if s.permit.state.connected then
    (s.modPermit fun q => q.tripped s.uptime (1000 * s.params.recloseDelay.toNat) (s.tripRecord k)).postBreaker
      s.permit.state (.trip k)
  else s

/-- R154: an unpermitted close: a trip pulse is started and BREAKER posted; the state does not change. -/
def State.unpermittedClose (s : State) : State :=
  (s.modPermit fun q => { q with pulse := some (s.uptime + tripPulse) }).postBreaker s.permit.state .unpermittedClose

/-- R150, R154: the forced trip with cause FIRE: a trip in CLOSE-PENDING and CLOSED; in any other state a pulse as for an
unpermitted close where the breaker feedback reads CLOSED (log entry 15). -/
def State.forcedTrip (s : State) : State :=
  if s.permit.state.connected then s.trip .fire
  else if s.permit.breaker = .closed then s.unpermittedClose
  else s

/-- R150: the NO-STRING trip, judged at a change of string state after which no string is JOINED. -/
def State.noStringTrip (s : State) : State :=
  if s.joinedCount = 0 then s.trip .noString else s

/-! ## Reporting -/

/-- Section 9.1: the fields of a trip record. -/
def TripRecord.items (r : TripRecord) : List Item :=
  [.byte r.cause.ctorIdx, num r.uptime, .byte r.agreement.ctorIdx, .byte r.stage.ctorIdx, numOr r.bus,
    intOr r.current1, intOr r.current2]

/-- R155: the permit report; the times left on the timers are in ms, a DESIGN CHOICE (log entry 20). -/
def State.permitItems (s : State) : List Item :=
  [.byte s.permit.state.ctorIdx, noYes s.permit.releasePending, noYes s.permit.line, noYes s.permit.tripLine,
    contactItem s.permit.breaker, numOr (s.timeLeft s.permit.closeTimer), numOr (s.timeLeft s.permit.releaseTimer),
    numOr (s.timeLeft s.permit.recloseTimer)]
    ++ listOf (fun t => [num t]) s.permit.tripTimes
    ++ listOf TripRecord.items s.permit.ring
    ++ [codeItem 5 s.permit.cnvCode, codeItem 3 s.permit.stnCode]

/-! ## CONNECT, DISCONNECT, CLEAR-LOCK -/

/-- R146: the connect conditions of a request from a link. -/
def State.connectConditions (s : State) (l : Link) : Bool :=
  s.agreement.state = .resolved && s.joinedCount ≥ 1
    && (s.fire.stage = .normal || s.fire.stage = .preAlert)
    && (l != .stn || s.permit.stnCode = some .inService)
    && s.permit.cnvCode != some .fault && s.permit.stnCode != some .shed
    && s.permit.breaker = .opened

/-- R146: the permit granted: CLOSE-PENDING for at most 30 s. -/
def State.grant (s : State) : State :=
  (s.modPermit fun q => { q with state := .closePending, closeTimer := some (s.uptime + 30000) }).postBreaker
    s.permit.state .connect

/-- R146: what CONNECT does and how it is answered, the first case that applies deciding. -/
def State.connectAnswer (s : State) (l : Link) : State × AnswerCode :=
  match s.permit.state with
  | .closePending => (s, .done)
  | .closed => (s, if s.permit.releasePending then .refusedState else .done)
  | .tripped => (s, .refusedState)
  | .lockedOut => (s, .refusedState)
  | .opened => if s.connectConditions l then (s.grant, .done) else (s, .refusedState)

/-- R155: an answer that carries the permit report. -/
def reported (x : State × AnswerCode) : State × Served :=
  (x.1, .now x.2 x.1.permitItems)

/-- R155, R166: the serving of a request whose every answer, a refusal by the link too, carries the permit report. -/
def State.serveReported (s : State) (l : Link) (r : Request) (block : State → State × AnswerCode) : State :=
  s.serveWith l r State.permitItems fun t => reported (block t)

/-- CONNECT (kind 10, R146, R155). -/
def connect (l : Link) (seq : Byte) (payload : List Byte) (s : State) : State :=
  s.serveReported l ⟨10, seq, payload⟩ fun t =>
    if payload = [] then t.connectAnswer l else (t, .badFormat)

/-- CONNECT. -/
def execConnect (l : Link) (seq : Byte) (payload : List Byte) (s : State) : Host.Outcome State Fault Refusal :=
  .next (connect l seq payload s)

/-- R148: what DISCONNECT does in each permit state. -/
def State.disconnect (s : State) : State :=
  match s.permit.state with
  | .closePending =>
    (s.modPermit fun q => { q with state := .opened, closeTimer := none }).postBreaker .closePending .disconnect
  | .closed =>
    if s.permit.releasePending then s
    else
      (s.modPermit fun q => { q with releasePending := true, releaseTimer := some (s.uptime + 5000) }).postBreaker
        .closed .disconnect
  | _ => s

/-- DISCONNECT (kind 11, R148, R155). -/
def disconnect (l : Link) (seq : Byte) (payload : List Byte) (s : State) : State :=
  s.serveReported l ⟨11, seq, payload⟩ fun t =>
    if payload = [] then (t.disconnect, .done) else (t, .badFormat)

/-- DISCONNECT. -/
def execDisconnect (l : Link) (seq : Byte) (payload : List Byte) (s : State) : Host.Outcome State Fault Refusal :=
  .next (disconnect l seq payload s)

/-- R153: what CLEAR-LOCK naming the breaker does and how it is answered. -/
def State.clearBreaker (s : State) : State × AnswerCode :=
  match s.permit.state with
  | .opened => (s, .done)
  | .lockedOut =>
    if s.permit.breaker = .opened then
      ((s.modPermit fun q => { q with state := .opened, tripTimes := [] }).postBreaker .lockedOut .clearLock, .done)
    else (s, .refusedState)
  | _ => (s, .refusedState)

/-- CLEAR_LOCK_BREAKER (kind 20 with payload byte 0, R153, R155). A payload that does not name the breaker is the other
row's request. -/
def clearLockBreaker (l : Link) (seq : Byte) (payload : List Byte) (s : State) : State :=
  if payload = [0] then s.serveReported l ⟨20, seq, payload⟩ State.clearBreaker else s

/-- CLEAR_LOCK_BREAKER. -/
def execClearLockBreaker (l : Link) (seq : Byte) (payload : List Byte) (s : State) :
    Host.Outcome State Fault Refusal :=
  .next (clearLockBreaker l seq payload s)

/-! ## The breaker feedback and the timers -/

/-- R147, R148, R150, R154: a change of the breaker feedback, already stored, judged. -/
def State.judgeBreaker (s : State) : State :=
  match s.permit.breaker, s.permit.state with
  | .closed, .closePending =>
    (s.modPermit fun q => { q with state := .closed, releasePending := false, closeTimer := none }).postBreaker
      .closePending .closed
  | .closed, .closed => s
  | .closed, _ => s.unpermittedClose
  | .opened, .closed =>
    if s.permit.releasePending then
      (s.modPermit fun q => { q with state := .opened, releasePending := false, releaseTimer := none }).postBreaker
        .closed .released
    else s.trip .external
  | .opened, _ => s

/-- BREAKER_FEEDBACK_CHANGE: the input takes a level; a level it already had is no change. While the part is not
running the level is only stored: the completion of the reset judges it (R156). -/
def breakerFeedbackChange (level : Contact) (s : State) : State :=
  if level = s.permit.breaker then s
  else if s.phase = .running then (s.modPermit fun q => { q with breaker := level }).judgeBreaker
  else s.modPermit fun q => { q with breaker := level }

/-- BREAKER_FEEDBACK_CHANGE. -/
def execBreakerFeedbackChange (level : Contact) (s : State) : Host.Outcome State Fault Refusal :=
  .next (breakerFeedbackChange level s)

/-- R147: the close-pending timer has expired: the permit is withdrawn, with CLOSE-TIMEOUT. -/
def State.closeTimeout (s : State) : State :=
  if s.permit.state = .closePending then
    (s.modPermit fun q => { q with state := .opened, closeTimer := none }).postBreaker .closePending .closeTimeout
  else s.modPermit fun q => { q with closeTimer := none }

/-- CLOSE_PENDING_TIMER_EXPIRY (R147). -/
def closePendingTimerExpiry (s : State) : State :=
  match s.permit.closeTimer with
  | some t => (s.atTime t).closeTimeout
  | none => s

/-- CLOSE_PENDING_TIMER_EXPIRY. -/
def execClosePendingTimerExpiry (s : State) : Host.Outcome State Fault Refusal :=
  .next (closePendingTimerExpiry s)

/-- R148: the release timer has expired: with the feedback still CLOSED a trip pulse is started, with
RELEASE-TIMEOUT. -/
def State.releaseTimeout (s : State) : State :=
  if s.permit.breaker = .closed then
    (s.modPermit fun q => { q with releaseTimer := none, pulse := some (s.uptime + tripPulse) }).postBreaker
      s.permit.state .releaseTimeout
  else s.modPermit fun q => { q with releaseTimer := none }

/-- RELEASE_TIMER_EXPIRY (R148). -/
def releaseTimerExpiry (s : State) : State :=
  match s.permit.releaseTimer with
  | some t => (s.atTime t).releaseTimeout
  | none => s

/-- RELEASE_TIMER_EXPIRY. -/
def execReleaseTimerExpiry (s : State) : Host.Outcome State Fault Refusal :=
  .next (releaseTimerExpiry s)

/-- R152: the reclose timer has expired: TRIPPED becomes OPEN, with RECLOSE. -/
def State.recloseExpired (s : State) : State :=
  if s.permit.state = .tripped then
    (s.modPermit fun q => { q with state := .opened, recloseTimer := none }).postBreaker .tripped .reclose
  else s.modPermit fun q => { q with recloseTimer := none }

/-- RECLOSE_TIMER_EXPIRY (R152). -/
def recloseTimerExpiry (s : State) : State :=
  match s.permit.recloseTimer with
  | some t => (s.atTime t).recloseExpired
  | none => s

/-- RECLOSE_TIMER_EXPIRY. -/
def execRecloseTimerExpiry (s : State) : Host.Outcome State Fault Refusal :=
  .next (recloseTimerExpiry s)

/-- TRIP_PULSE_END (R145): the trip line is withdrawn. -/
def tripPulseEnd (s : State) : State :=
  match s.permit.pulse with
  | some t => (s.atTime t).modPermit fun q => { q with pulse := none }
  | none => s

/-- TRIP_PULSE_END. -/
def execTripPulseEnd (s : State) : Host.Outcome State Fault Refusal :=
  .next (tripPulseEnd s)

/-! ## The evaluation (R149) -/

/-- R149, R163: the codes waiting in a link's change buffer: the first unread change, then the latest. -/
def LinkState.waitingCodes (k : LinkState) : List Code :=
  k.firstChange.toList ++ k.latestChange.toList

/-- R163: a change buffer emptied. -/
def LinkState.emptyBuffer (k : LinkState) : LinkState :=
  { k with firstChange := none, latestChange := none }

/-- R149, R150: the pass of a CNV code. -/
def State.cnvPass (s : State) (k : Code) : State :=
  let t := s.modPermit fun q => { q with cnvCode := some k }
  if k = .fault then t.trip .converterFault else t

/-- R149, R150: the pass of an STN code. -/
def State.stnPass (s : State) (k : Code) : State :=
  let t := s.modPermit fun q => { q with stnCode := some k }
  if k = .shed then t.trip .shed else t

/-- The ways two lists can be taken one into the other, each kept in its own order. -/
def weave {α : Type} (xs : List α) : List α → List (List α)
  | [] => [xs]
  | y :: ys =>
    (List.range (xs.length + 1)).flatMap fun i =>
      (weave (xs.drop i) ys).map fun w => xs.take i ++ y :: w

/-- R149: the passes of one evaluation: CNV codes and STN codes each in their own order, the two links in any order. -/
def State.codePasses (s : State) : State :=
  let cnv := s.links.cnv.waitingCodes.map fun k (t : State) => t.cnvPass k
  let stn := s.links.stn.waitingCodes.map fun k (t : State) => t.stnPass k
  let t := (s.modLink .cnv LinkState.emptyBuffer).modLink .stn LinkState.emptyBuffer
  match weave cnv stn with
  | [] => t
  | p :: rest => State.oneOf (t.through p) (rest.map t.through)

/-- PERMIT_EVALUATION (R149): it comes 100 ms after the last. -/
def permitEvaluation (s : State) : State :=
  if s.phase = .running then
    ({ s.atTime s.clocks.permit with clocks := { s.clocks with permit := s.clocks.permit + 100 } }).codePasses
  else s

/-- PERMIT_EVALUATION. -/
def execPermitEvaluation (s : State) : Host.Outcome State Fault Refusal :=
  .next (permitEvaluation s)

end Sys2Proof.Machine
end

