-- ==== Sys2Proof/Machine/Agreement.lean ====
section
/-! DEFINITION. The grid agreement unit (chapter 8): offers, resolution, the site minute clock and the GA row. -/

namespace Sys2Proof.Machine

/-- The grid agreement unit changed. -/
def State.modAgreement (s : State) (f : Agreement → Agreement) : State :=
  { s with agreement := f s.agreement }

/-! ## The GA row (section 8.6) -/

/-- R138: the segment in force; none where no schedule is in force. -/
def State.segmentInForce (s : State) : Option Segment :=
  match s.agreement.clock, s.agreement.stnOffer with
  | some k, some o => segmentAt o.segments k.minute
  | _, _ => none

/-- R140: the power basis, import and export. -/
def State.powerBasis (s : State) : Nat × Nat :=
  match s.agreement.state with
  | .resolved =>
    match s.agreement.resolved, s.segmentInForce with
    | some r, some g => (min g.importLimit r.importPower, min g.exportLimit r.exportPower)
    | some r, none => (r.importPower, r.exportPower)
    | none, _ => (0, 0)
  | .lapsed => (s.params.fallbackImport.toNat, s.params.fallbackExport.toNat)
  | _ => (0, 0)

/-- R141, step 1: the bus voltage that a computation would now form, with its source. -/
def State.busVoltage (s : State) : Nat × BusSource :=
  if s.chains.one.head.status = .current then (max 1000 s.chains.one.head.busVoltage, .head1)
  else if s.chains.two.head.status = .current then (max 1000 s.chains.two.head.busVoltage, .head2)
  else (max 1000 s.params.nominalBus.toNat, .nominal)

/-- R140, R141: the computation of GA, and its delivery to the envelope unit. The count it used is held as counted, 0 with no
string JOINED, a DESIGN CHOICE (log entry 22). -/
def State.computeGa (s : State) : State :=
  let basis := s.powerBasis
  let v := s.busVoltage
  let n := s.joinedCount
  let charge := perString basis.1 v.1 n
  let discharge := perString basis.2 v.1 n
  (s.modAgreement fun a =>
    { a with
      basisImport := basis.1
      basisExport := basis.2
      bus := some v
      countUsed := some n
      gaCharge := charge
      gaDischarge := discharge }).updateGa charge discharge

/-- R139: the head replies after which GA is computed: the bus voltage in use is NONE, or the voltage that would now be
formed differs from it by 1.0 V or more. -/
def State.busMoved (s : State) : Bool :=
  match s.agreement.bus with
  | none => true
  | some (v, _) => v + 10 ≤ s.busVoltage.1 || s.busVoltage.1 + 10 ≤ v

/-- R139: what the grid agreement unit does with a head reply of either string. -/
def State.agreementHeadReply (s : State) : State :=
  if s.busMoved then s.computeGa else s

/-! ## Resolution (section 8.3) -/

/-- R150: the agreement states whose entry is a trip. -/
def AgreementState.lost : AgreementState → Bool
  | .none => true
  | .offered => true
  | .mismatch => true
  | _ => false

/-- R132, R133: the agreement resolved afresh; a change of state is handed at once to the grid permit unit. -/
def State.resolveAgreement (s : State) : State :=
  let r := resolution s.agreement.cnvOffer s.agreement.stnOffer s.agreement.lapse
  let t := s.modAgreement fun a => { a with state := r.1, flags := r.2.1, resolved := r.2.2 }
  if r.1 ≠ s.agreement.state ∧ r.1.lost then t.trip .agreementLost else t

/-- The notice AGREEMENT, with the state and the mismatch flags (R131). -/
def State.postAgreement (s : State) : State :=
  s.post .agreement (.agreement s.agreement.state s.agreement.flags)

/-! ## Offers (section 8.2) -/

/-- R131, step 4: the station lapse after an STN offer. -/
def lapseAfter (o : Offer) (before : AgreementState) (lapse : Bool) : Bool :=
  if o.condition = .offline then (if before = .resolved ∨ before = .lapsed then true else lapse) else false

/-- R131, steps 1 to 4: the offer put in its party's place. -/
def Agreement.hold (a : Agreement) (l : Link) (o : Offer) (now : Nat) : Agreement :=
  match l with
  | .cnv => { a with cnvOffer := some o, cnvToggle := some o.toggle }
  | _ =>
    { a with
      stnOffer := some o
      stnToggle := some o.toggle
      clock := match o.minute with
        | some m => some ⟨m, now + 60000⟩
        | none => a.clock
      lapse := lapseAfter o a.state a.lapse }

/-- R131: an offer taken. -/
def State.takeOffer (s : State) (l : Link) (o : Offer) : State :=
  ((s.modAgreement fun a => a.hold l o s.uptime).resolveAgreement.postAgreement).computeGa

/-- R130: the last taken toggle of a party. -/
def Agreement.toggle (a : Agreement) : Link → Option Bool
  | .cnv => a.cnvToggle
  | _ => a.stnToggle

/-- R129, R132: the acceptance: the toggle of the offer, the agreement state, the mismatch flags, and the resolved ramp or
NONE. R129 lists the first three and R132 has the ramp reported here too; that it comes last is a DESIGN CHOICE (log entry
29). -/
def State.acceptance (s : State) (o : Offer) : List Item :=
  [num (if o.toggle then 1 else 0), .byte s.agreement.state.ctorIdx] ++ s.agreement.flags.items
    ++ [numOr (s.agreement.resolved.map Resolved.ramp)]

/-- R129, R130: OFFER as the grid agreement unit takes it. -/
def offerBlock (l : Link) (payload : List Byte) (s : State) : State × Served :=
  match parseOffer l payload with
  | none => (s, .now .badFormat [])
  | some raw =>
    let o := raw.clamp
    let t := if s.agreement.toggle l = some o.toggle then s else s.takeOffer l o
    (t, .now (if o = raw then .done else .clamped) (t.acceptance o))

/-- OFFER (kind 7, R129 to R131). -/
def offer (l : Link) (seq : Byte) (payload : List Byte) (s : State) : State :=
  s.serve l ⟨7, seq, payload⟩ (offerBlock l payload)

/-- OFFER. -/
def execOffer (l : Link) (seq : Byte) (payload : List Byte) (s : State) : Host.Outcome State Fault Refusal :=
  .next (offer l seq payload s)

/-! ## Silence and restart (section 8.4) -/

/-- R134, R139: the STN link has become silent (log entry 14). -/
def State.stationLapse (s : State) : State :=
  let t := s.modAgreement fun a => { a with lapse := true }
  match s.agreement.state with
  | .resolved => (t.modAgreement fun a => { a with state := .lapsed }).postAgreement.computeGa
  | .lapsed => t
  | _ => t.computeGa

/-- R135: the CNV link has become silent: the CNV offer is discarded. -/
def State.discardCnvOffer (s : State) : State :=
  let t := (s.modAgreement fun a => { a with cnvOffer := none, cnvToggle := none }).resolveAgreement
  (if t.agreement.state ≠ s.agreement.state then t.postAgreement else t).computeGa

/-- R136: both offers discarded, the state NONE; the site minute clock is kept. -/
def State.restartAgreement (s : State) : State :=
  let t := (s.modAgreement fun a =>
    { a with cnvOffer := none, stnOffer := none, cnvToggle := none, stnToggle := none, lapse := false }).resolveAgreement
  (if s.agreement.state ≠ .none then t.postAgreement else t).computeGa

/-- AGREEMENT_RESTART (kind 8, R136). -/
def agreementRestart (l : Link) (seq : Byte) (payload : List Byte) (s : State) : State :=
  s.serve l ⟨8, seq, payload⟩ (noPayload payload fun t => (t.restartAgreement, .now .done []))

/-- AGREEMENT_RESTART. -/
def execAgreementRestart (l : Link) (seq : Byte) (payload : List Byte) (s : State) :
    Host.Outcome State Fault Refusal :=
  .next (agreementRestart l seq payload s)

/-! ## The site minute clock (R137) -/

/-- R137: the clock one minute on, from 1439 to 0, the next boundary 60 s later. -/
def MinuteClock.advance (k : MinuteClock) : MinuteClock :=
  ⟨if k.minute ≥ 1439 then 0 else k.minute + 1, k.boundary + 60000⟩

/-- MINUTE_BOUNDARY (R137): the clock advances and GA is computed. -/
def minuteBoundary (s : State) : State :=
  match s.agreement.clock with
  | some k => ((s.atTime k.boundary).modAgreement fun a => { a with clock := some k.advance }).computeGa
  | none => s

/-- MINUTE_BOUNDARY. -/
def execMinuteBoundary (s : State) : Host.Outcome State Fault Refusal :=
  .next (minuteBoundary s)

/-! ## Reading (R143) -/

/-- Section 8.1: the fields an offer carries, by its party, or ABSENT. -/
def offerItems (l : Link) : Option Offer → List Item
  | none => [.nothing]
  | some o =>
    [.byte (linkNumber l), num (if o.toggle then 1 else 0), .byte o.condition.ctorIdx, num o.importLimit,
      num o.exportLimit]
      ++ (if l = .stn then [num o.minImport] else [])
      ++ [num o.ramp]
      ++ (if l = .stn then
        numOr o.minute :: listOf (fun g => [num g.start, num g.importLimit, num g.exportLimit]) o.segments
        else [])

/-- R143: the content of a READ-AGREEMENT answer. -/
def State.agreementItems (s : State) : List Item :=
  let a := s.agreement
  [.byte a.state.ctorIdx] ++ a.flags.items ++ [yesNo a.lapse]
    ++ [numOr (a.resolved.map Resolved.importPower), numOr (a.resolved.map Resolved.exportPower),
      numOr (a.resolved.map Resolved.ramp)]
    ++ [numOr (a.cnvToggle.map fun b => if b then 1 else 0), numOr (a.stnToggle.map fun b => if b then 1 else 0)]
    ++ offerItems .cnv a.cnvOffer ++ offerItems .stn a.stnOffer
    ++ [numOr (a.clock.map MinuteClock.minute), numOr (a.clock.map fun k => (k.boundary - s.uptime) / 1000)]
    ++ [numOr (s.segmentInForce.map Segment.start), num a.basisImport, num a.basisExport]
    ++ (match a.bus with
      | some (v, src) => [num v, .byte src.ctorIdx]
      | none => [.nothing])
    ++ [numOr a.countUsed, num a.gaCharge, num a.gaDischarge]

/-- READ_AGREEMENT (kind 9, R143). -/
def readAgreement (l : Link) (seq : Byte) (payload : List Byte) (s : State) : State :=
  s.serve l ⟨9, seq, payload⟩ (noPayload payload fun t => (t, .now .done t.agreementItems))

/-- READ_AGREEMENT. -/
def execReadAgreement (l : Link) (seq : Byte) (payload : List Byte) (s : State) : Host.Outcome State Fault Refusal :=
  .next (readAgreement l seq payload s)

end Sys2Proof.Machine
end

