-- ==== Sys2Proof/Machine/Strings.lean ====
section
/-! DEFINITION. The string controllers (chapter 3): the change of a string's state and what it is reported to, the
protective opening request, the unit loss, the head reply, the feedback check, and the chapter's commands. -/

namespace Sys2Proof.Machine

/-! ## A change of string state (R44, R56, R69) -/

/-- R44, R69, R139, R150: a change of string state is reported to the envelope unit (one downward computation), to the
grid permit unit (the NO-STRING trip) and, where it changed the number of JOINED strings, to the grid agreement unit.
The three act in any order (R73, R142); where the number did not change, no order can be told from another. That no tick
comes between the change and the GA update is a DESIGN CHOICE (log entry 25). -/
def State.reportString (s : State) (before : Nat) : State :=
  if s.joinedCount = before then s.downward.noStringTrip
  else if s.joinedCount = 0 ∧ s.permit.state.connected then
    s.inAnyOrder [State.downward, State.computeGa, State.noStringTrip]
  else s.inAnyOrder [State.downward, State.computeGa]

/-- R44: a new state or phase of a string. A change of either drive schedules a feedback check 200 ms ahead (R56). A
change of state, or of the LOCKED cause, posts STRING-STATE and is reported; a change of phase or of the end state is
neither. -/
def State.setString (s : State) (c : Str) (new : StringState) : State :=
  let old := (s.string c).state
  let driven := old.mainDrive != new.mainDrive || old.prechargeDrive != new.prechargeDrive
  let t := s.modString c fun k =>
    { k with state := new, check := if driven then some (s.uptime + 200) else k.check }
  if old.name = new.name ∧ old.cause = new.cause then t
  else (t.post .stringState (.string c new.name new.cause)).reportString s.joinedCount

/-- R50 to R53: the opening timer, in ms. -/
def openingTime : Nat := 2000

/-- R52: a protective opening request, acted on in the state the string holds. -/
def State.protect (s : State) (c : Str) (k : LockCause) : State :=
  match (s.string c).state with
  | .joined =>
    (if k = .excursion then s.countTrip c .excursion else s).setString c (.opening (.locked k) (s.uptime + openingTime))
  | .opening .opened t => s.setString c (.opening (.locked k) t)
  | .opening (.locked _) _ => s
  | .precharge (.matching _) => s.setString c (.locked k)
  | .precharge .handover => s.setString c (.opening (.locked k) (s.uptime + openingTime))
  | .opened => s.setString c (.locked k)
  | .locked _ => s

/-- R53: a unit loss, acted on at once. -/
def State.unitLost (s : State) (c : Str) : State :=
  match (s.string c).state with
  | .joined => s.setString c (.opening .opened (s.uptime + openingTime))
  | .precharge (.matching _) => s.setString c .opened
  | .precharge .handover => s.setString c (.opening .opened (s.uptime + openingTime))
  | _ => s

/-- R54: a string not OPEN or LOCKED is forced straight to OPEN. -/
def State.forceOpen (s : State) (c : Str) : State :=
  if (s.string c).state.apart then s else s.setString c .opened

/-- R51: the main contactor opens and the string enters its end state. -/
def State.finishOpening (s : State) (c : Str) : State :=
  match (s.string c).state with
  | .opening finish _ => s.setString c finish.state
  | _ => s

/-! ## The head reply -/

/-- R58: the head-reported contactor values compared with the part's own inputs; the first reply at which they differ
posts FAULT. -/
def State.compareFeedback (s : State) (c : Str) : State :=
  let h := (s.chain c).head
  let k := s.string c
  if h.main = k.mainInput ∧ h.precharge = k.prechargeInput then
    s.modString c fun k => { k with disagreement := false }
  else if k.disagreement then s
  else (s.modString c fun k => { k with disagreement := true }).post .fault
    (.feedbackDisagree c h.main h.precharge k.mainInput k.prechargeInput)

/-- R47: the string voltage and the bus-side voltage lie within the match window. -/
def State.matched (s : State) (c : Str) : Bool :=
  let h := (s.chain c).head
  |(h.stringVoltage : Int) - h.busVoltage| ≤ s.params.matchWindow

/-- R55: the excursion check of a head reply of a JOINED string. -/
def State.checkExcursion (s : State) (c : Str) : State :=
  if isExcursion (s.chain c).head.current (s.envelope.limits.charge c) (s.envelope.limits.discharge c) then
    let n := (s.string c).excursions + 1
    let t := s.modStats c fun x => { x with excursions := countUp x.excursions }
    if n ≥ 5 then (t.protect c .excursion).modString c fun k => { k with excursions := 0 }
    else t.modString c fun k => { k with excursions := n }
  else s.modString c fun k => { k with excursions := 0 }

/-- R47, R51, R55: what a head reply does in the state the string holds. -/
def State.stateHeadReply (s : State) (c : Str) : State :=
  match (s.string c).state with
  | .precharge (.matching _) => if s.matched c then s.setString c (.precharge .handover) else s
  | .opening _ _ => if |(s.chain c).head.current| < 100 then s.finishOpening c else s
  | .joined => s.checkExcursion c
  | _ => s

/-- R47, R51, R55, R58: what the string controller does with a head reply of its string. -/
def State.stringHeadReply (s : State) (c : Str) : State :=
  (s.compareFeedback c).stateHeadReply c

/-! ## JOIN-STRING, RELEASE-STRING -/

/-- R46: the join conditions. -/
def State.joinConditions (s : State) (c : Str) : Bool :=
  (s.chain c).allCurrent && !(s.chain c).anyInvalid
    && (s.cells c).overVolt == 0 && (s.cells c).underVolt == 0 && (s.cells c).overTemp == 0
    && (s.fire.stage = .normal || s.fire.stage = .preAlert) && !s.config.fault

/-- R46: the pre-charge timer, in ms. -/
def prechargeTime : Nat := 10000

/-- R46: what JOIN-STRING does to a string and how it is answered, the first case that applies deciding. -/
def State.join (s : State) (c : Str) : State × AnswerCode :=
  match (s.string c).state with
  | .precharge _ => (s, .done)
  | .joined => (s, .done)
  | .locked _ => (s, .refusedState)
  | .opening _ _ => (s, .refusedState)
  | .opened =>
    if s.joinConditions c then
      ((s.modString c fun k => { k with excursions := 0 }).setString c (.precharge (.matching (s.uptime + prechargeTime))),
        .done)
    else (s, .refusedState)

/-- R46, R50, R59: a request that names one string, with an answer of no content; BAD-FORMAT where it names none. -/
def onString (payload : List Byte) (act : State → Str → State × AnswerCode) (s : State) : State × Served :=
  match parseString payload with
  | some c => ((act s c).1, .now (act s c).2 [])
  | none => (s, .now .badFormat [])

/-- JOIN_STRING (kind 5, R46). -/
def joinString (l : Link) (seq : Byte) (payload : List Byte) (s : State) : State :=
  s.serve l ⟨5, seq, payload⟩ (onString payload State.join)

/-- JOIN_STRING. -/
def execJoinString (l : Link) (seq : Byte) (payload : List Byte) (s : State) : Host.Outcome State Fault Refusal :=
  .next (joinString l seq payload s)

/-- R50: what RELEASE-STRING does in each state of the string. -/
def State.release (s : State) (c : Str) : State :=
  match (s.string c).state with
  | .precharge _ => s.setString c .opened
  | .joined => s.setString c (.opening .opened (s.uptime + openingTime))
  | _ => s

/-- RELEASE_STRING (kind 6, R50): always DONE for a string 1 or 2. -/
def releaseString (l : Link) (seq : Byte) (payload : List Byte) (s : State) : State :=
  s.serve l ⟨6, seq, payload⟩ (onString payload fun t c => (t.release c, .done))

/-- RELEASE_STRING. -/
def execReleaseString (l : Link) (seq : Byte) (payload : List Byte) (s : State) : Host.Outcome State Fault Refusal :=
  .next (releaseString l seq payload s)

/-! ## The timers -/

/-- R48: the pre-charge timer has expired in MATCHING: LOCKED with cause PRECHARGE-FAIL, counted. -/
def State.prechargeFailed (s : State) (c : Str) : State :=
  (s.countTrip c .prechargeFail).setString c (.locked .prechargeFail)

/-- PRECHARGE_TIMER_EXPIRY (R48). -/
def prechargeTimerExpiry (c : Str) (s : State) : State :=
  match (s.string c).state with
  | .precharge (.matching t) => (s.atTime t).prechargeFailed c
  | _ => s

/-- PRECHARGE_TIMER_EXPIRY. -/
def execPrechargeTimerExpiry (c : Str) (s : State) : Host.Outcome State Fault Refusal :=
  .next (prechargeTimerExpiry c s)

/-- OPENING_TIMER_EXPIRY (R51). -/
def openingTimerExpiry (c : Str) (s : State) : State :=
  match (s.string c).state with
  | .opening _ t => (s.atTime t).finishOpening c
  | _ => s

/-- OPENING_TIMER_EXPIRY. -/
def execOpeningTimerExpiry (c : Str) (s : State) : Host.Outcome State Fault Refusal :=
  .next (openingTimerExpiry c s)

/-! ## Feedback checking (section 3.5) -/

/-- The level a feedback input reads. -/
def StringController.input (k : StringController) : Contactor → Contact
  | .main => k.mainInput
  | .precharge => k.prechargeInput

/-- The level of a feedback input stored. -/
def StringController.setInput (k : StringController) (w : Contactor) (level : Contact) : StringController :=
  match w with
  | .main => { k with mainInput := level }
  | .precharge => { k with prechargeInput := level }

/-- FEEDBACK_INPUT_CHANGE (R56): the input takes a level; a level it already had is no change. A change while no check is
pending schedules one 200 ms ahead. While the part is not running the level is only stored. -/
def feedbackInputChange (c : Str) (w : Contactor) (level : Contact) (s : State) : State :=
  if level = (s.string c).input w then s
  else
    s.modString c fun k =>
      { k.setInput w level with
        check := if s.phase = .running ∧ k.check = none then some (s.uptime + 200) else k.check }

/-- FEEDBACK_INPUT_CHANGE. -/
def execFeedbackInputChange (c : Str) (w : Contactor) (level : Contact) (s : State) :
    Host.Outcome State Fault Refusal :=
  .next (feedbackInputChange c w level s)

/-- R57: a check that found a disagreement, as a lock cause. -/
def State.checkLocks (s : State) (c : Str) (k : LockCause) : State :=
  match (s.string c).state with
  | .locked old =>
    if k = .welded ∧ old ≠ .welded then (s.countTrip c .welded).setString c (.locked .welded) else s
  | _ => (s.countTrip c k).setString c (.locked k)

/-- R49, R57: the outcome of a feedback check. -/
def State.judgeCheck (s : State) (c : Str) : State :=
  match (s.string c).checkResult with
  | .agree => if (s.string c).state = .precharge .handover then s.setString c .joined else s
  | .welded => s.checkLocks c .welded
  | .feedback => s.checkLocks c .feedback

/-- FEEDBACK_CHECK (R56, R57): the pending check comes due. -/
def feedbackCheck (c : Str) (s : State) : State :=
  match (s.string c).check with
  | some t =>
    if s.phase = .running then
      ((s.atTime t).modString c fun k => { k with check := none }).judgeCheck c
    else s
  | none => s

/-- FEEDBACK_CHECK. -/
def execFeedbackCheck (c : Str) (s : State) : Host.Outcome State Fault Refusal :=
  .next (feedbackCheck c s)

/-! ## CLEAR-LOCK (R59) -/

/-- R59: the condition of a LOCKED cause is gone. -/
def State.causeGone (s : State) (c : Str) (k : LockCause) : Bool :=
  let x := s.string c
  x.mainInput = .opened && x.prechargeInput = .opened && x.check.isNone
    && (match k with
      | .cellOv | .cellUv | .cellOt =>
        (s.cells c).overVolt == 0 && (s.cells c).underVolt == 0 && (s.cells c).overTemp == 0
      | _ => true)

/-- R59: what CLEAR-LOCK naming a string does and how it is answered. -/
def State.clearLock (s : State) (c : Str) : State × AnswerCode :=
  match (s.string c).state with
  | .opened => (s, .done)
  | .locked k => if s.causeGone c k then (s.setString c .opened, .done) else (s, .refusedState)
  | _ => (s, .refusedState)

/-- CLEAR_LOCK_STRING (kind 20, R59): any form but the breaker's, whose payload is the one byte 0. -/
def clearLockString (l : Link) (seq : Byte) (payload : List Byte) (s : State) : State :=
  if payload = [0] then s else s.serve l ⟨20, seq, payload⟩ (onString payload State.clearLock)

/-- CLEAR_LOCK_STRING. -/
def execClearLockString (l : Link) (seq : Byte) (payload : List Byte) (s : State) : Host.Outcome State Fault Refusal :=
  .next (clearLockString l seq payload s)

/-! ## READ-STRING (R60) -/

/-- Section 3.1: the end state of OPENING: OPEN, or LOCKED with its cause. -/
def EndState.items : EndState → List Item
  | .opened => [.byte 0]
  | .locked k => [.byte 1, .byte k.ctorIdx]

/-- R60: the state, the phase in PRECHARGE, the end state in OPENING, and the LOCKED cause. -/
def StringState.items (g : StringState) : List Item :=
  [.byte g.name.ctorIdx]
    ++ (match g with
      | .precharge (.matching _) => [.byte 0]
      | .precharge .handover => [.byte 1]
      | .opening finish _ => finish.items
      | _ => [])
    ++ [causeItem g.cause]

/-- The running pre-charge timer of a state, and its running opening timer. -/
def StringState.timers : StringState → Option Nat × Option Nat
  | .precharge (.matching t) => (some t, none)
  | .opening _ t => (none, some t)
  | _ => (none, none)

/-- R60: the head record as READ-STRING reports it. -/
def HeadRecord.items (h : HeadRecord) : List Item :=
  [.byte h.status.ctorIdx, num h.miss, num h.age, .number h.current, num h.stringVoltage, num h.busVoltage,
    contactItem h.main, contactItem h.precharge]

/-- R60: the content of a READ-STRING answer; the times left on the timers are in ms, a DESIGN CHOICE (log entry 20). -/
def State.stringItems (s : State) (c : Str) : List Item :=
  let k := s.string c
  k.state.items
    ++ [numOr (s.timeLeft k.state.timers.1), numOr (s.timeLeft k.state.timers.2),
      noYes k.state.mainDrive, noYes k.state.prechargeDrive, contactItem k.mainInput, contactItem k.prechargeInput,
      num k.excursions, noYes k.disagreement]
    ++ (s.chain c).head.items
    ++ [num (s.cells c).overVolt, num (s.cells c).underVolt, num (s.cells c).overTemp,
      num (s.envelope.limits.charge c), num (s.envelope.limits.discharge c), num s.envelope.revision.toNat]

/-- READ_STRING (kind 4, R60). -/
def readString (l : Link) (seq : Byte) (payload : List Byte) (s : State) : State :=
  s.serve l ⟨4, seq, payload⟩ fun t =>
    match parseString payload with
    | some c => (t, .now .done (t.stringItems c))
    | none => (t, .now .badFormat [])

/-- READ_STRING. -/
def execReadString (l : Link) (seq : Byte) (payload : List Byte) (s : State) : Host.Outcome State Fault Refusal :=
  .next (readString l seq payload s)

end Sys2Proof.Machine
end

