-- ==== Sys2Proof/Machine/Supervision.lean ====
section
/-! DEFINITION. The cell supervision unit (chapter 2): the evaluation of a module reply, of a cycle complete, the
emptying of balance sets, and RESET-BASELINE. -/

namespace Sys2Proof.Machine

/-! ## Balance sets (section 2.5) -/

/-- A record with its requested balance set emptied. -/
def ModuleRecord.emptySet (m : ModuleRecord) : ModuleRecord :=
  { m with requested := [] }

/-- R36: every requested balance set of a chain emptied. -/
def Chain.emptySets (k : Chain) : Chain :=
  { k with modules := vmap ModuleRecord.emptySet k.modules }

/-- R37: the requested balance sets of the fitted modules of a chain emptied. -/
def Chain.emptyFittedSets (k : Chain) : Chain :=
  { k with modules := vmapIdx (fun a m => if k.fitted a then m.emptySet else m) k.modules }

/-- R36: the fire stage has entered ALERT or higher: every module of both strings. -/
def State.emptyAllSets (s : State) : State :=
  (s.modChain .one Chain.emptySets).modChain .two Chain.emptySets

/-- R36: the module's hottest valid sensor reading is at or above a balancing ceiling. -/
def ModuleRecord.tooHot (m : ModuleRecord) (ceiling : Int) : Bool :=
  m.hottest.any fun t => t ≥ ceiling

/-- R36: the modules of a chain at or above a newly written ceiling lose their requested sets. -/
def Chain.applyCeiling (k : Chain) (ceiling : Int) : Chain :=
  { k with modules := vmap (fun m => if m.tooHot ceiling then m.emptySet else m) k.modules }

/-- R36: the balancing ceiling has been written. -/
def State.ceilingWritten (s : State) : State :=
  (s.modChain .one fun k => k.applyCeiling s.params.balCeiling).modChain .two fun k => k.applyCeiling s.params.balCeiling

/-- R35: the conditions under which a selection is empty, whatever the candidates. -/
def State.noBalancing (s : State) (c : Str) (m : ModuleRecord) : Bool :=
  m.status != .current || m.hottest.isNone || m.tooHot s.params.balCeiling || s.fire.stage.alertOrHigher
    || (s.chain c).anyInvalid

/-- R35: the balancing selection of a module. -/
def State.selection (s : State) (c : Str) (m : ModuleRecord) : List Nat :=
  if s.noBalancing c m then []
  else match (s.chain c).stringMinimum with
    | some lowest => chooseFour (candidates m.cells lowest s.params.balWindow s.params.balFloor)
    | none => []

/-! ## The module reply (R20) -/

/-- R20, step 1: the module's four sensors evaluated. -/
def State.evaluateSensors (s : State) (c : Str) (a : Addr) : State :=
  let m := (s.chain c).modules[a]
  s.modCells c fun v =>
    { v with
      sensors := vmod a (fun tracks => vmapIdx (fun k t => t.evaluate s.params m.sensors[k]) tracks) v.sensors }

/-- R20, step 2 (R37): an INVALID cell in the record empties the requested sets of the fitted modules. -/
def State.judgeInvalid (s : State) (c : Str) (a : Addr) : State :=
  if ((s.chain c).modules[a]).hasInvalid then s.modChain c Chain.emptyFittedSets else s

/-- R20, step 3: the selection written as the module's requested set. -/
def State.balance (s : State) (c : Str) (a : Addr) : State :=
  let m := (s.chain c).modules[a]
  s.modModule c a fun x => { x with requested := s.selection c m }

/-- R20: the evaluation of a module reply. -/
def State.moduleReply (s : State) (c : Str) (a : Addr) : State :=
  ((s.evaluateSensors c a).judgeInvalid c a).balance c a

/-! ## The cycle complete (R21) -/

/-- R23: the cause a protective opening request names: the first counter that reached 3. -/
def namedCause (ov uv ot : Bool) : Option LockCause :=
  if ov then some .cellOv else if uv then some .cellUv else if ot then some .cellOt else none

/-- R23: the three counters after a cycle with these breaches. -/
def Supervision.count (v : Supervision) (ov uv ot : Bool) : Supervision :=
  { v with
    overVolt := nextCounter ov v.overVolt
    underVolt := nextCounter uv v.underVolt
    overTemp := nextCounter ot v.overTemp }

/-- R23: the cause named in a cycle with these breaches, from the counters before it. -/
def Supervision.reached (v : Supervision) (ov uv ot : Bool) : Option LockCause :=
  namedCause (reachesThree ov v.overVolt) (reachesThree uv v.underVolt) (reachesThree ot v.overTemp)

/-- R21: the evaluation of a cycle complete. The protective request and the row entries go to receivers that hold
different state, in either order. -/
def State.cycleComplete (s : State) (c : Str) : State :=
  let k := s.chain c
  let p := s.params
  let ov := k.breachOv p
  let uv := k.breachUv p
  let ot := k.breachOt p
  let t := s.modCells c fun v => v.count ov uv ot
  let rows : State → State := fun x => x.updateVhTd c (k.vh p) (k.td p)
  match (s.cells c).reached ov uv ot with
  | none => rows t
  | some cause => (t.countTrip c cause).inAnyOrder [fun x => x.protect c cause, rows]

/-! ## Sensors becoming UNSET (R32, R33) -/

/-- R33: the sensors of the modules a test picks become UNSET. -/
def Supervision.unset (v : Supervision) (picks : Addr → Fin 4 → Bool) : Supervision :=
  { v with sensors := vmapIdx (fun a tracks => vmapIdx (fun k t => if picks a k then .unset else t) tracks) v.sensors }

/-- R32: the sensors a RESET-BASELINE names. -/
def SensorChoice.names (x : SensorChoice) (a : Addr) (k : Fin 4) : Bool :=
  (x.addr.all fun b => a == b) && (x.sensor.all fun j => k == j)

/-- R32: RESET-BASELINE as the cell supervision unit takes it. -/
def resetBaselineBlock (payload : List Byte) (s : State) : State × Served :=
  match parseSensors payload with
  | none => (s, .now .badFormat [])
  | some x =>
    if s.fire.stage.alertOrHigher then (s, .now .refusedState [])
    else (s.modCells x.str fun v => v.unset x.names, .now .done [])

/-- RESET_BASELINE (kind 19, R32). -/
def resetBaseline (l : Link) (seq : Byte) (payload : List Byte) (s : State) : State :=
  s.serve l ⟨19, seq, payload⟩ (resetBaselineBlock payload)

/-- RESET_BASELINE. -/
def execResetBaseline (l : Link) (seq : Byte) (payload : List Byte) (s : State) : Host.Outcome State Fault Refusal :=
  .next (resetBaseline l seq payload s)

end Sys2Proof.Machine
end

