-- ==== Sys2Proof/Machine/Chains.lean ====
section
/-! DEFINITION. The chain controllers (chapter 1): the outcome of a transaction and what follows from it, the scan cycle,
the probe queue, the arbiter, and the chapter's commands. -/

namespace Sys2Proof.Machine

/-! ## Outcomes (R2) -/

/-- R2: the outcome of an ended chain transaction. -/
inductive ChainOutcome where
  | good
  | faulted
  | miss
  deriving DecidableEq, Repr

/-- R2: the reply's CRC is correct, it names the addressed unit and it has the form of that kind of unit. -/
def answersTo (r : Reply) (u : ChainUnit) : Bool :=
  match r, u with
  | .head crcOk address .., .head => crcOk && address == 0
  | .module crcOk address .., .module a => crcOk && address == a.number
  | _, _ => false

/-- R2: the reply's self-test fault flag. -/
def faulty : Reply → Bool
  | .head _ _ fault .. => fault
  | .module _ _ fault .. => fault

/-- R2: the outcome of a transaction with a unit; no reply before the timeout is none. -/
def classify (u : ChainUnit) : Option Reply → ChainOutcome
  | none => .miss
  | some r => if !answersTo r u then .miss else if faulty r then .faulted else .good

/-! ## Records under an outcome (R3 to R5) -/

/-- R3: a value clamped into a range of whole numbers from 0. -/
def clampNat (most : Nat) (v : Int) : Nat :=
  (clampTo 0 most v).toNat

/-- R3: the head record after a GOOD reply at an uptime. -/
def HeadRecord.reply (now : Nat) (current stringVoltage busVoltage : Int) (main precharge : Contact) : HeadRecord where
  status := .current
  miss := 0
  age := 0
  lastGood := some now
  current := clampTo (-6000) 6000 current
  stringVoltage := clampNat 10000 stringVoltage
  busVoltage := clampNat 10000 busVoltage
  main := main
  precharge := precharge

/-- R3: the interval from the previous head reply to a GOOD reply at an uptime, in ms. -/
def HeadRecord.interval (h : HeadRecord) (now : Nat) : Nat :=
  match h.lastGood with
  | some t => if h.status = .current ∧ now - t ≤ 65535000 then now - t else 0
  | none => 0

/-- R4: a module record after a GOOD reply. -/
def ModuleRecord.reply (m : ModuleRecord) (cells : Vector Nat 16) (sensors : Vector Int 4) (applied : List Nat) :
    ModuleRecord :=
  { m with
    status := .current
    miss := 0
    age := 0
    cells := vmap (fun v => if v ≤ 5000 then some v else none) cells
    sensors := vmap (fun t => if tempLow ≤ t ∧ t ≤ tempHigh then some t else none) sensors
    applied := cellSet applied }

/-- R5: the status and the miss count after an outcome that is not GOOD. -/
def afterLoss (o : ChainOutcome) (status : UnitStatus) (miss : Nat) : UnitStatus × Nat :=
  match o with
  | .faulted => (.failed, 0)
  | _ => if miss + 1 < 3 then (status, miss + 1) else (.stale, 3)

/-- R8: a status that a change into is a unit loss. -/
def UnitStatus.lost : UnitStatus → Bool
  | .stale => true
  | .failed => true
  | _ => false

/-- R3, R5: the head record after an outcome that is not GOOD. -/
def HeadRecord.lose (h : HeadRecord) (o : ChainOutcome) : HeadRecord :=
  { h with status := (afterLoss o h.status h.miss).1, miss := (afterLoss o h.status h.miss).2 }

/-- R4, R5, R7: a module record after an outcome that is not GOOD. -/
def ModuleRecord.lose (m : ModuleRecord) (o : ChainOutcome) : ModuleRecord :=
  { m with
    status := (afterLoss o m.status m.miss).1
    miss := (afterLoss o m.status m.miss).2
    requested := if (afterLoss o m.status m.miss).1.lost then [] else m.requested }

/-- Section 1.3: the status of a unit's record. -/
def Chain.status (k : Chain) : ChainUnit → UnitStatus
  | .head => k.head.status
  | .module a => (k.modules[a]).status

/-- R5: the record of a unit after an outcome that is not GOOD. -/
def Chain.lose (k : Chain) (u : ChainUnit) (o : ChainOutcome) : Chain :=
  match u with
  | .head => { k with head := k.head.lose o }
  | .module a => { k with modules := vmod a (fun m => m.lose o) k.modules }

/-- R8: a change of a unit's status into STALE or FAILED: the unit loss and the notice FAULT. -/
def State.judgeLoss (s : State) (c : Str) (u : ChainUnit) (before : UnitStatus) : State :=
  let now := (s.chain c).status u
  if now ≠ before ∧ now.lost then (s.unitLost c).post .fault (.unitLoss c u now) else s

/-- R3: a GOOD head reply applied, and delivered to the record store, the string controller and the grid agreement
unit, which take it independently. -/
def State.headGood (s : State) (c : Str) (current stringVoltage busVoltage : Int) (main precharge : Contact) : State :=
  let interval := (s.chain c).head.interval s.uptime
  let h := HeadRecord.reply s.uptime current stringVoltage busVoltage main precharge
  ((s.modChain c fun k => { k with head := h }).modStats c fun t => t.integrate h.current interval).inAnyOrder
    [fun t => t.stringHeadReply c, State.agreementHeadReply]

/-- R3, R4: a GOOD outcome applied. -/
def State.applyGood (s : State) (c : Str) (u : ChainUnit) (r : Reply) : State :=
  match u, r with
  | .head, .head _ _ _ current stringVoltage busVoltage main precharge =>
    s.headGood c current stringVoltage busVoltage main precharge
  | .module a, .module _ _ _ cells sensors applied =>
    (s.modModule c a fun m => m.reply cells sensors applied).moduleReply c a
  | _, _ => s

/-- R2 to R5, R8: the outcome of a transaction applied to the record of the addressed unit. -/
def State.applyOutcome (s : State) (c : Str) (u : ChainUnit) (r : Option Reply) : State :=
  match classify u r, r with
  | .good, some reply => s.applyGood c u reply
  | o, _ => (s.modChain c fun k => k.lose u o).judgeLoss c u ((s.chain c).status u)

/-! ## Clearing records (R9, R10, R33) -/

/-- R9, R33: the records of the modules a test picks cleared, and their sensors UNSET. -/
def State.clearModules (s : State) (c : Str) (picks : Addr → Bool) : State :=
  (s.modChain c fun k => { k with modules := vmapIdx (fun a m => if picks a then .cleared else m) k.modules }).modCells c
    fun v => v.unset fun a _ => picks a

/-- R9, R10: the probe entries of the addresses a test picks removed, their waiting requests answered REFUSED-STATE. The
spec orders answers within one waiting list only; between several entries removed in one step the oldest entry's come
first, a DESIGN CHOICE (log entry 31). -/
def State.removeProbes (s : State) (c : Str) (picks : Addr → Bool) : State :=
  let waiters := ((s.chain c).probes.filter fun e => picks e.addr).flatMap ProbeEntry.waiters
  (s.modChain c fun k => { k with probes := k.probes.filter fun e => !picks e.addr }).answerWaiters waiters
    .refusedState []

/-- R9: an address lies in a scan range. -/
def ScanRange.holds (r : ScanRange) (a : Addr) : Bool :=
  r.first ≤ a.number && a.number ≤ r.last

/-- R9: the configured scan range of a parameter set. -/
def Params.range (p : Params) : ScanRange := ⟨p.firstAddr.toNat, p.lastAddr.toNat⟩

/-- R9: a new range taken into force. -/
def State.takeRange (s : State) (c : Str) (r : ScanRange) : State :=
  let leaves : Addr → Bool := fun a => (s.chain c).fitted a && !r.holds a
  ((s.clearModules c leaves).removeProbes c leaves).modChain c fun k => { k with range := r }

/-- R9: the comparison of the ranges at a due moment. -/
def State.compareRange (s : State) (c : Str) : State :=
  if s.params.range ≠ (s.chain c).range ∧ (s.string c).state.apart then s.takeRange c s.params.range else s

/-- R10: the time between two checks of an UNFITTED chain, in ms. -/
def unfittedPeriod : Nat := 5000

/-- R10: the chain enters UNFITTED. -/
def State.enterUnfitted (s : State) (c : Str) : State :=
  ((s.clearModules c fun _ => true).removeProbes c fun _ => true).modChain c fun k =>
    { k with
      head := .cleared
      cycle := .unfitted
      nextUnit := .head
      nextDue := none
      unfittedCheck := some (s.uptime + unfittedPeriod) }

/-! ## The arbiter (R16, R17) -/

/-- R1: the reply timeout, in ms. -/
def replyTimeoutTime : Nat := 4

/-- R1, R7: the balance set a request to a unit carries. -/
def Chain.setFor (k : Chain) : ChainUnit → List Nat
  | .head => []
  | .module a => (k.modules[a]).requested

/-- R1: a transaction started. -/
def Chain.start (k : Chain) (now : Nat) (kind : TransactionKind) (u : ChainUnit) (waiters : List Waiter) : Chain :=
  { k with
    inFlight := some ⟨kind, u, waiters, k.setFor u, now + replyTimeoutTime⟩
    lastKind := some kind }

/-- R11: the scan transaction to the next unit started. -/
def Chain.startScan (k : Chain) (now : Nat) : Chain :=
  k.start now .scan k.nextUnit []

/-- R15: the oldest probe entry taken out of the queue and its transaction started. -/
def Chain.startProbe (k : Chain) (now : Nat) : Chain :=
  match k.probes with
  | e :: rest => { k with probes := rest }.start now .probe (.module e.addr) e.waiters
  | [] => k

/-- R16: the next transaction, the first case that applies deciding. -/
def Chain.arbitrate (k : Chain) (now : Nat) : Chain :=
  if k.probes ≠ [] ∧ k.lastKind = some .scan then k.startProbe now
  else if k.cycle = .running then k.startScan now
  else k.startProbe now

/-! ## The scan cycle (R11 to R13) -/

/-- R12: the interval of a cadence, in ms. -/
def Cadence.interval : Cadence → Nat
  | .quiet => 5000
  | .active => 1000
  | .watch => 250

/-- R12: the cadence chosen at a due moment. -/
def State.chooseCadence (s : State) (c : Str) : Cadence :=
  if s.fire.stage ≠ .normal ∨ (s.cells c).anyRise then .watch
  else if (s.string c).state.apart then .quiet
  else .active

/-- R11, R13: the cycle state becomes RUNNING. -/
def Chain.becomeDue (k : Chain) (now : Nat) (d : Cadence) : Chain :=
  { k with
    cycle := .running
    cadence := d
    nextUnit := .head
    due := some now
    nextDue := some (now + d.interval)
    unfittedCheck := none }

/-- R9 to R13: a cycle becomes due. -/
def State.dueMoment (s : State) (c : Str) : State :=
  let t := s.compareRange c
  if !t.params.fitted.names c && (t.string c).state.apart then t.enterUnfitted c
  else t.modChain c fun k => k.becomeDue t.uptime (t.chooseCadence c)

/-- R17: on an idle chain, the head transaction of a cycle that has just become due starts. -/
def State.startIfIdle (s : State) (c : Str) : State :=
  s.modChain c fun k => if k.inFlight = none ∧ k.cycle = .running then k.startScan s.uptime else k

/-- R11: the cycle is complete; the next one becomes due in the same step where its due time has come (R13). -/
def State.completeCycle (s : State) (c : Str) : State :=
  let t := (s.modChain c fun k => { k with cycle := .waiting, nextUnit := .head, firstDone := true }).cycleComplete c
  if (t.chain c).nextDue.any fun d => d ≤ t.uptime then t.dueMoment c else t

/-- R11: the unit after a unit of the cycle, none after the last. -/
def Chain.after (k : Chain) : ChainUnit → Option ChainUnit
  | .head => if h : k.range.first - 1 < 12 then some (.module ⟨k.range.first - 1, h⟩) else none
  | .module a =>
    if a.number < k.range.last then (if h : a.val + 1 < 12 then some (.module ⟨a.val + 1, h⟩) else none) else none

/-- R11: what follows from the end of a scan transaction at the level of the cycle. -/
def State.advance (s : State) (c : Str) (u : ChainUnit) : State :=
  match (s.chain c).after u with
  | some v => s.modChain c fun k => { k with nextUnit := v }
  | none => s.completeCycle c

/-! ## The end of a transaction -/

/-- R15: the cell voltages, the sensor readings and the sets of a record, as an answer carries them. -/
def ModuleRecord.readings (m : ModuleRecord) : List Item :=
  m.cells.toList.map numOr ++ m.sensors.toList.map intOr

/-- A balance set in an answer. -/
def setItems (l : List Nat) : List Item :=
  listOf (fun n => [num n]) l

/-- R15: the answer to a probe whose module is still fitted. -/
def State.probeItems (s : State) (c : Str) (a : Addr) (o : ChainOutcome) : List Item :=
  let m := (s.chain c).modules[a]
  [num (strNumber c), num a.number, .byte (if o = .miss then 1 else 0), .byte m.status.ctorIdx, num m.miss, num m.age]
    ++ m.readings ++ setItems m.applied

/-- R9, R15: the requests in the waiting list of a probe that has ended are answered. -/
def State.answerProbe (s : State) (c : Str) (a : Addr) (waiters : List Waiter) (o : ChainOutcome) (fitted : Bool) :
    State :=
  if fitted then s.answerWaiters waiters .done (s.probeItems c a o) else s.answerWaiters waiters .refusedState []

/-- R9, R15: the addressed unit is not a module that has stopped being fitted. -/
def Chain.stillFitted (k : Chain) : ChainUnit → Bool
  | .head => true
  | .module a => k.fitted a

/-- R2, R126: a MISS counted. -/
def State.countMiss (s : State) (c : Str) (o : ChainOutcome) : State :=
  if o = .miss then s.modStats c fun t => { t with chainMisses := countUp t.chainMisses } else s

/-- R1: what the outcome of a transaction leads to before the arbiter chooses: the outcome applied, then the probe
answered or the cycle moved on. -/
def State.concludeTransaction (s : State) (c : Str) (x : Transaction) (r : Option Reply) : State :=
  let fitted := (s.chain c).stillFitted x.addressed
  let o := classify x.addressed r
  let t := (s.modChain c fun k => { k with inFlight := none }).countMiss c o
  let u := if fitted then t.applyOutcome c x.addressed r else t
  match x.kind, x.addressed with
  | .probe, .module a => u.answerProbe c a x.waiters o fitted
  | .probe, .head => u
  | .scan, unit => u.advance c unit

/-- R1, R16: a transaction ends, and the arbiter chooses the next. -/
def State.endTransaction (s : State) (c : Str) (x : Transaction) (r : Option Reply) : State :=
  let t := s.concludeTransaction c x r
  t.modChain c fun k => k.arbitrate t.uptime

/-- CHAIN_REPLY (R1, R2): a reply that arrives when no transaction waits for one is ignored. A part in reset or loading
waits for none (R19). A reply that arrives while a transaction is in flight is classified as a reply to that one, a late or
second reply to the transaction before it too: DEDUCED (log entry 32). -/
def chainReply (c : Str) (r : Reply) (s : State) : State :=
  if s.phase = .running then
    (match (s.chain c).inFlight with
    | some x => s.endTransaction c x (some r)
    | none => s)
  else s

/-- CHAIN_REPLY. -/
def execChainReply (c : Str) (r : Reply) (s : State) : Host.Outcome State Fault Refusal :=
  .next (chainReply c r s)

/-- REPLY_TIMEOUT (R1, R2). -/
def replyTimeout (c : Str) (s : State) : State :=
  if s.phase = .running then
    (match (s.chain c).inFlight with
    | some x => (s.atTime x.timeout).endTransaction c x none
    | none => s)
  else s

/-- REPLY_TIMEOUT. -/
def execReplyTimeout (c : Str) (s : State) : Host.Outcome State Fault Refusal :=
  .next (replyTimeout c s)

/-! ## The reading ages (R6) -/

/-- R6: one second more on a reading age. -/
def older (age : Nat) : Nat := min 65535 (age + 1)

/-- R6: the reading ages of a chain one second on: the head record's unless the chain is UNFITTED, and those of the
fitted modules. -/
def Chain.ageSecond (k : Chain) : Chain :=
  { k with
    head := if k.cycle = .unfitted then k.head else { k.head with age := older k.head.age }
    modules := vmapIdx (fun a m => if k.fitted a then { m with age := older m.age } else m) k.modules }

/-- READING_AGE_TICK (R6). -/
def readingAgeTick (s : State) : State :=
  if s.phase = .running then
    (({ s.atTime s.clocks.age with clocks := { s.clocks with age := s.clocks.age + 1000 } }).modChain .one
      Chain.ageSecond).modChain .two Chain.ageSecond
  else s

/-- READING_AGE_TICK. -/
def execReadingAgeTick (s : State) : Host.Outcome State Fault Refusal :=
  .next (readingAgeTick s)

/-! ## Due moments -/

/-- CYCLE_DUE (R13): the next due time of a waiting chain arrives. -/
def cycleDue (c : Str) (s : State) : State :=
  if s.phase = .running ∧ (s.chain c).cycle = .waiting then
    (match (s.chain c).nextDue with
    | some t => ((s.atTime t).dueMoment c).startIfIdle c
    | none => s)
  else s

/-- CYCLE_DUE. -/
def execCycleDue (c : Str) (s : State) : Host.Outcome State Fault Refusal :=
  .next (cycleDue c s)

/-- R10: the check of an UNFITTED chain: a string now named makes a cycle due at once. -/
def State.checkUnfitted (s : State) (c : Str) (t : Nat) : State :=
  if s.params.fitted.names c then (s.dueMoment c).startIfIdle c
  else s.modChain c fun k => { k with unfittedCheck := some (t + unfittedPeriod) }

/-- UNFITTED_CHECK (R10). -/
def unfittedCheck (c : Str) (s : State) : State :=
  if s.phase = .running ∧ (s.chain c).cycle = .unfitted then
    (match (s.chain c).unfittedCheck with
    | some t => (s.atTime t).checkUnfitted c t
    | none => s)
  else s

/-- UNFITTED_CHECK. -/
def execUnfittedCheck (c : Str) (s : State) : Host.Outcome State Fault Refusal :=
  .next (unfittedCheck c s)

/-! ## PROBE-MODULE (R14) -/

/-- R14: a request added to the end of an entry's waiting list. -/
def ProbeEntry.join (e : ProbeEntry) (a : Addr) (w : Waiter) : ProbeEntry :=
  if e.addr = a then { e with waiters := e.waiters ++ [w] } else e

/-- R14: an address can be probed: the chain is not UNFITTED and the address lies in the range in force. -/
def Chain.probeable (k : Chain) (a : Addr) : Bool := k.fitted a

/-- R14, R17: a new entry at the end of the queue; on an idle chain its probe starts at once. -/
def Chain.addProbe (k : Chain) (now : Nat) (a : Addr) (w : Waiter) : Chain :=
  let q := { k with probes := k.probes ++ [⟨a, [w]⟩] }
  if k.inFlight = none then q.startProbe now else q

/-- R14: PROBE-MODULE as the chain controller takes or refuses it. -/
def State.probe (s : State) (c : Str) (a : Addr) (w : Waiter) : State × Served :=
  let k := s.chain c
  if !k.probeable a then (s, .now .refusedState [])
  else match k.probes.find? fun e => e.addr == a with
    | some e =>
      if e.waiters.length < 4 then
        (s.modChain c fun x => { x with probes := x.probes.map fun y => y.join a w }, .leaves)
      else (s, .now .busy [])
    | none =>
      if k.probes.length < 4 then (s.modChain c fun x => x.addProbe s.uptime a w, .leaves) else (s, .now .busy [])

/-- PROBE_MODULE (kind 3, R14). -/
def probeModule (l : Link) (seq : Byte) (payload : List Byte) (s : State) : State :=
  s.serve l ⟨3, seq, payload⟩ fun t =>
    match parseModule payload with
    | some (c, a) => t.probe c a ⟨l, seq⟩
    | none => (t, .now .badFormat [])

/-- PROBE_MODULE. -/
def execProbeModule (l : Link) (seq : Byte) (payload : List Byte) (s : State) : Host.Outcome State Fault Refusal :=
  .next (probeModule l seq payload s)

/-! ## READ-CELLS (R18) -/

/-- R18: the content of a READ-CELLS answer. -/
def State.cellItems (s : State) (c : Str) (a : Addr) : List Item :=
  let k := s.chain c
  let m := k.modules[a]
  [num (strNumber c), num a.number, yesNo (k.fitted a), .byte m.status.ctorIdx, num m.miss, num m.age]
    ++ m.readings ++ setItems m.requested ++ setItems m.applied ++ [.byte k.cycle.ctorIdx]

/-- READ_CELLS (kind 2, R18). -/
def readCells (l : Link) (seq : Byte) (payload : List Byte) (s : State) : State :=
  s.serve l ⟨2, seq, payload⟩ fun t =>
    match parseModule payload with
    | some (c, a) => (t, .now .done (t.cellItems c a))
    | none => (t, .now .badFormat [])

/-- READ_CELLS. -/
def execReadCells (l : Link) (seq : Byte) (payload : List Byte) (s : State) : Host.Outcome State Fault Refusal :=
  .next (readCells l seq payload s)

end Sys2Proof.Machine
end

