-- ==== Sys2Proof/Machine/Thermal.lean ====
section
/-! DEFINITION. The thermal plant controller (chapter 5): the mode choice and the outputs, the chiller stages and the heater
with their dwells, pump flow supervision, the CD row, and the chapter's commands. -/

namespace Sys2Proof.Machine

/-- The thermal plant controller changed. -/
def State.modPlant (s : State) (f : Plant → Plant) : State :=
  { s with plant := f s.plant }

/-! ## Outputs with a dwell (R86, R91) -/

/-- R86: the dwell of an output has expired at an uptime. -/
def DwellOutput.free (o : DwellOutput) (dwell : Bool → Nat) (now : Nat) : Bool :=
  o.lastChange + dwell o.on ≤ now

/-- An output changed to a state at an uptime, its pending request NONE. -/
def DwellOutput.change (on : Bool) (now : Nat) : DwellOutput := ⟨on, now, none⟩

/-- R86: a request judged against the output's state and dwell. -/
def DwellOutput.ask (o : DwellOutput) (dwell : Bool → Nat) (now : Nat) (on : Bool) : DwellOutput :=
  if on = o.on then { o with request := none }
  else if o.free dwell now then .change on now
  else { o with request := some on }

/-- R90: a chiller stage forced OFF; one already OFF keeps the time of its last change. In both its request
becomes NONE. -/
def DwellOutput.forceOff (o : DwellOutput) (now : Nat) : DwellOutput :=
  if o.on then .change false now else { o with request := none }

/-- R82: in PURGE and FIRE-HOLD the heater goes OFF at once, its dwell notwithstanding; a heater already OFF has not
changed, and its dwell runs on. -/
def DwellOutput.holdOff (o : DwellOutput) (now : Nat) : DwellOutput := o.forceOff now

/-- R91: the dwell of the heater after every change. -/
def heaterDwellOf (_ : Bool) : Nat := heaterDwell

/-! ## The chiller stages (R86, R87) -/

/-- R87: stage 1 is to change to OFF, its own dwell expired: stage 2 goes OFF with it where its dwell allows, or stage 1
waits with its request pending and stage 2 takes a pending OFF. An OFF that stage 2's own rule has already asked for is not
one that R87 placed, and outlives a cancellation of stage 1's: a DESIGN CHOICE (log entry 33). -/
def Plant.stage1Off (q : Plant) (now : Nat) : Plant :=
  if q.chiller2.on then
    if q.chiller2.free chillerDwell now then
      { q with chiller1 := .change false now, chiller2 := .change false now, chiller2Follows := false }
    else
      { q with
        chiller1 := { q.chiller1 with request := some false }
        chiller2 := { q.chiller2 with request := some false }
        chiller2Follows := q.chiller2Follows || q.chiller2.request != some false }
  else
    { q with
      chiller1 := .change false now
      chiller2 := { q.chiller2 with request := none }
      chiller2Follows := false }

/-- R87: stage 2 goes OFF, and stage 1 with it in the same step where its pending OFF waited for that. -/
def Plant.stage2Off (q : Plant) (now : Nat) : Plant :=
  { q with
    chiller2 := .change false now
    chiller2Follows := false
    chiller1 :=
      if q.chiller1.on ∧ q.chiller1.request = some false ∧ q.chiller1.free chillerDwell now then .change false now
      else q.chiller1 }

/-- R86, R87: a request for stage 1. -/
def Plant.ask1 (q : Plant) (now : Nat) (on : Bool) : Plant :=
  if on then
    if q.chiller1.on ∧ q.chiller2Follows then
      { q with
        chiller1 := q.chiller1.ask chillerDwell now true
        chiller2 := { q.chiller2 with request := none }
        chiller2Follows := false }
    else { q with chiller1 := q.chiller1.ask chillerDwell now true }
  else if q.chiller1.on ∧ q.chiller1.free chillerDwell now then q.stage1Off now
  else { q with chiller1 := q.chiller1.ask chillerDwell now false }

/-- R86, R87: a request for stage 2; a request ON while stage 1 is OFF is not made. A pending OFF that R87 placed becomes
stage 2's own where its own rule asks for OFF: a DESIGN CHOICE (log entry 33). -/
def Plant.ask2 (q : Plant) (now : Nat) (on : Bool) : Plant :=
  if on then
    if q.chiller1.on then { q with chiller2 := q.chiller2.ask chillerDwell now true, chiller2Follows := false } else q
  else if q.chiller2.on ∧ q.chiller2.free chillerDwell now then q.stage2Off now
  else { q with chiller2 := q.chiller2.ask chillerDwell now false, chiller2Follows := false }

/-- R90: both stages forced OFF, whatever their dwell. -/
def Plant.forceChillersOff (q : Plant) (now : Nat) : Plant :=
  { q with
    chiller1 := q.chiller1.forceOff now
    chiller2 := q.chiller2.forceOff now
    chiller2Follows := false }

/-- R90, R91: the entry into CONFIRMED forces both stages and the heater OFF. The heater's dwell runs from that moment,
whether it was ON or OFF: the exception of R90 is for a stage already OFF. -/
def Plant.fireOff (q : Plant) (now : Nat) : Plant :=
  { q.forceChillersOff now with heater := .change false now }

/-- R86, R87: the dwell of stage 1 expires. -/
def Plant.expire1 (q : Plant) (now : Nat) : Plant :=
  match q.chiller1.request with
  | some true => { q with chiller1 := if q.chiller1.on then { q.chiller1 with request := none } else .change true now }
  | some false => if q.chiller1.on then q.stage1Off now else { q with chiller1 := { q.chiller1 with request := none } }
  | none => q

/-- R86, R87: the dwell of stage 2 expires. -/
def Plant.expire2 (q : Plant) (now : Nat) : Plant :=
  match q.chiller2.request with
  | some true =>
    { q with
      chiller2 := if q.chiller1.on ∧ ¬ q.chiller2.on then .change true now else { q.chiller2 with request := none } }
  | some false => if q.chiller2.on then q.stage2Off now else { q with chiller2 := { q.chiller2 with request := none } }
  | none => q

/-- R86, R91: the dwell of the heater expires. -/
def Plant.expireHeater (q : Plant) (now : Nat) : Plant :=
  match q.heater.request with
  | some b => { q with heater := if b = q.heater.on then { q.heater with request := none } else .change b now }
  | none => q

/-! ## The rules that make requests (R89 to R91) -/

/-- R89: the request of a stage from a demand temperature and the stage's thresholds. -/
def stageRequest (onAt offBelow : Int) : Option Int → Option Bool
  | some t => if t ≥ onAt then some true else if t < offBelow then some false else none
  | none => none

/-- A rule's request for stage 1, where it makes one. -/
def Plant.askIf1 (q : Plant) (now : Nat) : Option Bool → Plant
  | some b => q.ask1 now b
  | none => q

/-- A rule's request for stage 2, where it makes one. -/
def Plant.askIf2 (q : Plant) (now : Nat) : Option Bool → Plant
  | some b => q.ask2 now b
  | none => q

/-- R89: the staging rule, stage 1 first. -/
def Plant.staging (q : Plant) (p : Params) (now : Nat) : Plant :=
  (q.askIf1 now (stageRequest p.chiller1On p.chiller1Off q.demand)).askIf2 now
    (stageRequest p.chiller2On p.chiller2Off q.demand)

/-- R90: the requests OFF of IDLE, PURGE and FIRE-HOLD. -/
def Plant.chillersOff (q : Plant) (now : Nat) : Plant :=
  (q.ask1 now false).ask2 now false

/-- R91: the heater rule's request from the coldest cell temperature. -/
def heaterRequest (p : Params) : Option Int → Option Bool
  | none => some false
  | some t => if t < p.heaterOn then some true else if t ≥ p.heaterOff then some false else none

/-- R91: the heater rule. -/
def Plant.heaterRule (q : Plant) (p : Params) (now : Nat) (coldest : Option Int) : Plant :=
  match heaterRequest p coldest with
  | some b => { q with heater := q.heater.ask heaterDwellOf now b }
  | none => q

/-! ## Pump flow supervision (R85) -/

/-- R85: the flow fault time and the flow recovery time, in ms. -/
def flowTime : Nat := 5000

/-- R85: the condition under which the flow timer runs. -/
def Plant.flowCondition (q : Plant) : Bool :=
  match q.flow with
  | .ok => q.pumpDuty > 0 && q.flowInput == .noFlow
  | .pumpFault => q.flowInput == .flow

/-- R85: the flow timer after a change of the flow input or of the pump duty. -/
def Plant.judgeFlow (q : Plant) (now : Nat) : Plant :=
  { q with
    flowTimer :=
      if q.flowCondition then
        (match q.flowTimer with
        | some t => some t
        | none => some (now + flowTime))
      else none }

/-- FLOW_SWITCH_CHANGE (R85): the input takes a level; a level it already had is no change. While the part is not running
the level is only stored. -/
def flowSwitchChange (level : Flow) (s : State) : State :=
  if level = s.plant.flowInput then s
  else if s.phase = .running then s.modPlant fun q => { q with flowInput := level }.judgeFlow s.uptime
  else s.modPlant fun q => { q with flowInput := level }

/-- FLOW_SWITCH_CHANGE. -/
def execFlowSwitchChange (level : Flow) (s : State) : Host.Outcome State Fault Refusal :=
  .next (flowSwitchChange level s)

/-- R85: the flow timer has expired. -/
def State.flowExpired (s : State) : State :=
  match s.plant.flow with
  | .ok =>
    (s.modPlant fun q => { q with flow := .pumpFault, flowTimer := none }.judgeFlow s.uptime).post .fault .pumpFault
  | .pumpFault => s.modPlant fun q => { q with flow := .ok, flowTimer := none }.judgeFlow s.uptime

/-- FLOW_TIMER_EXPIRY (R85). -/
def flowTimerExpiry (s : State) : State :=
  match s.plant.flowTimer with
  | some t => (s.atTime t).flowExpired
  | none => s

/-- FLOW_TIMER_EXPIRY. -/
def execFlowTimerExpiry (s : State) : Host.Outcome State Fault Refusal :=
  .next (flowTimerExpiry s)

/-! ## The mode choice (R81, R82) -/

/-- R80: the coldest cell temperature of the two strings. -/
def State.coldest (s : State) : Option Int :=
  lower (s.chain .one).coldest (s.chain .two).coldest

/-- R80: the hottest valid temperature of the container. -/
def State.hottest (s : State) : Option Int :=
  higher (s.chain .one).hottest (s.chain .two).hottest

/-- R81: the taken PNL code is VENT-REQUEST. -/
def State.venting (s : State) : Bool := s.links.pnl.taken = some .ventRequest

/-- R81: the conditions of the row RUN. -/
def State.runWanted (s : State) : Bool :=
  !s.strings.one.state.apart || !s.strings.two.state.apart
    || (s.plant.demand.any fun t => t ≥ s.params.runThreshold)
    || (s.coldest.any fun t => t < s.params.heaterOn)

/-- R81: the mode that a mode choice takes, the first row that applies. -/
def State.chosenMode (s : State) : CoolingMode :=
  if s.fire.stage.fire then (if s.venting then .purge else .fireHold)
  else if (s.fire.stage = .alert ∧ s.fire.gas.recent s.uptime) ∨ s.venting then .purge
  else if s.runWanted then .run
  else .idle

/-- R82, R83: the fan duty of a mode. -/
def fanDutyOf (p : Params) (demand : Option Int) : CoolingMode → Nat
  | .idle => 0
  | .run => runFanDuty p demand
  | .purge => 255
  | .fireHold => 0

/-- R82: the pump duty of a mode. -/
def pumpDutyOf (p : Params) : CoolingMode → Nat
  | .idle => 0
  | _ => p.pumpDuty.toNat

/-- R82, R89, R90: the chiller requests of a mode. -/
def Plant.chillerRule (q : Plant) (p : Params) (now : Nat) : CoolingMode → Plant
  | .run => q.staging p now
  | _ => q.chillersOff now

/-- R82, R91: the heater in a mode. -/
def Plant.heaterIn (q : Plant) (p : Params) (now : Nat) (coldest : Option Int) : CoolingMode → Plant
  | .idle => q.heaterRule p now coldest
  | .run => q.heaterRule p now coldest
  | _ => { q with heater := q.heater.holdOff now }

/-- R82 to R85: the outputs set for a mode. -/
def Plant.setOutputs (q : Plant) (p : Params) (now : Nat) (coldest : Option Int) (m : CoolingMode) : Plant :=
  (({ q with
      mode := m
      prescaler := p.prescaler.toNat
      fanDuty := fanDutyOf p q.demand m
      pumpDuty := pumpDutyOf p m }.chillerRule p now m).heaterIn p now coldest m).judgeFlow now

/-- R81, R82: a mode choice. -/
def State.modeChoice (s : State) : State :=
  s.modPlant fun q => q.setOutputs s.params s.uptime s.coldest s.chosenMode

/-- R90, R113: what the controller does with a change of fire stage: on the entry into CONFIRMED the forcing first, then
the mode choice. -/
def State.plantStageChange (s : State) (confirmedEntry : Bool) : State :=
  if confirmedEntry then (s.modPlant fun q => q.fireOff s.uptime).modeChoice else s.modeChoice

/-! ## The analog sample (R80) -/

/-- R80: INPUT-FAULT posted where an input has changed into FAULT. -/
def State.inputFault (s : State) (n : InputName) (before after : PlantInput) : State :=
  if after = .fault ∧ before ≠ .fault then s.post .fault (.inputFault n) else s

/-- R80, step 1: the inputs stored and the new faults posted; that they are posted in the order inlet, outlet, container,
outside is a DESIGN CHOICE (log entry 23). -/
def State.storeInputs (s : State) (inlet outlet container outside : Int) : State :=
  let q := s.plant
  let t := s.modPlant fun q =>
    { q with
      inlet := plantInput inlet
      outlet := plantInput outlet
      container := plantInput container
      outside := plantInput outside }
  (((t.inputFault .inlet q.inlet (plantInput inlet)).inputFault .outlet q.outlet (plantInput outlet)).inputFault
    .container q.container (plantInput container)).inputFault .outside q.outside (plantInput outside)

/-- R80, step 2: the demand temperature formed. -/
def State.formDemand (s : State) : State :=
  s.modPlant fun q => { q with demand := higher q.outlet.value? s.hottest }

/-- R93: CD computed and delivered. -/
def State.deliverCd (s : State) : State :=
  s.updateCd (coolantDerate s.params s.plant.inlet s.plant.flow)

/-- ANALOG_SAMPLE (R80): the sample comes 500 ms after the last. -/
def analogSample (inlet outlet container outside : Int) (s : State) : State :=
  if s.phase = .running then
    ((({ s.atTime s.clocks.sample with
        clocks := { s.clocks with sample := s.clocks.sample + 500 } }).storeInputs inlet outlet container
      outside).formDemand.modeChoice).deliverCd
  else s

/-- ANALOG_SAMPLE. -/
def execAnalogSample (inlet outlet container outside : Int) (s : State) : Host.Outcome State Fault Refusal :=
  .next (analogSample inlet outlet container outside s)

/-! ## The dwells -/

/-- R86: the uptime at which the dwell of an output expires. -/
def DwellOutput.expiry (o : DwellOutput) (dwell : Bool → Nat) : Nat :=
  o.lastChange + dwell o.on

/-- R86: the dwell of a chiller stage has expired. -/
def State.chillerExpired (s : State) (g : Stage) : State :=
  s.modPlant fun q =>
    match g with
    | .stage1 => q.expire1 s.uptime
    | .stage2 => q.expire2 s.uptime

/-- The chiller stage of a number. -/
def Plant.stage (q : Plant) : Stage → DwellOutput
  | .stage1 => q.chiller1
  | .stage2 => q.chiller2

/-- CHILLER_DWELL_EXPIRY (R86, R87). -/
def chillerDwellExpiry (g : Stage) (s : State) : State :=
  if s.phase = .running then (s.atTime ((s.plant.stage g).expiry chillerDwell)).chillerExpired g else s

/-- CHILLER_DWELL_EXPIRY. -/
def execChillerDwellExpiry (g : Stage) (s : State) : Host.Outcome State Fault Refusal :=
  .next (chillerDwellExpiry g s)

/-- R91: the dwell of the heater has expired. -/
def State.heaterExpired (s : State) : State :=
  s.modPlant fun q => q.expireHeater s.uptime

/-- HEATER_DWELL_EXPIRY (R91). -/
def heaterDwellExpiry (s : State) : State :=
  if s.phase = .running then (s.atTime (s.plant.heater.expiry heaterDwellOf)).heaterExpired else s

/-- HEATER_DWELL_EXPIRY. -/
def execHeaterDwellExpiry (s : State) : Host.Outcome State Fault Refusal :=
  .next (heaterDwellExpiry s)

/-! ## The plant section of READ-FIRE (R95) -/

/-- R95: a plant input: its value, or FAULT or UNKNOWN in place of one. -/
def PlantInput.item (i : PlantInput) : Item := intOr i.value?

/-- R95: a pending request: NONE, ON or OFF. -/
def requestItem : Option Bool → Item
  | none => .byte 0
  | some true => .byte 1
  | some false => .byte 2

/-- R95: a chiller stage or the heater; the uptime of its last change and the time left on its dwell are in ms, a DESIGN
CHOICE (log entry 20). -/
def DwellOutput.items (o : DwellOutput) (dwell : Bool → Nat) (now : Nat) : List Item :=
  [yesNo o.on, num o.lastChange, num (o.expiry dwell - now), requestItem o.request]

/-- R95: the plant section; CD before the first sample is the entry as reset, a DESIGN CHOICE (log entry 26). -/
def State.plantItems (s : State) : List Item :=
  let q := s.plant
  [.byte q.mode.ctorIdx, q.inlet.item, q.outlet.item, q.container.item, q.outside.item, intOr q.demand, intOr s.coldest,
    num q.fanDuty, num q.pumpDuty, num q.prescaler]
    ++ q.chiller1.items chillerDwell s.uptime ++ q.chiller2.items chillerDwell s.uptime
    ++ q.heater.items heaterDwellOf s.uptime
    ++ [yesNo q.mode.damperOpen, .byte q.flow.ctorIdx, .byte q.flowInput.ctorIdx, num s.envelope.table.cd.charge1]

end Sys2Proof.Machine
end

