-- ==== Sys2Proof/Machine/Links.lean ====
section
/-! DEFINITION. The station links (chapter 10): reception, indication codes, silence, the end of an answer, notices, the site
code and the site mode. The serving of requests is in Machine/Ops.lean. -/

namespace Sys2Proof.Machine

/-! ## Silence (R164) -/

/-- R164: the silence timeout of a link, in ms. -/
def silenceTime (p : Params) : Link → Nat
  | .cnv => 2000
  | .stn => 1000 * p.stnTimeout.toNat
  | .pnl => 10000
  | .svc => 5000

/-- R164: the silence timer of a link restarted at the full timeout; the link is LIVE. -/
def State.hear (s : State) (l : Link) : State :=
  s.modLink l fun k => { k with silence := some (s.uptime + silenceTime s.params l) }

/-- R164: what a link that becomes SILENT reports; the two blocks that hear of CNV take it in either order (R150). -/
def State.reportSilence (s : State) : Link → State
  | .cnv => s.inAnyOrder [State.discardCnvOffer, fun t => t.trip .converterSilent]
  | .stn => s.stationLapse
  | .pnl => s
  | .svc => s.returnToAuto

/-- R162, R164: the link becomes SILENT; no status word is held toward a take. -/
def State.fallSilent (s : State) (l : Link) : State :=
  (s.modLink l fun k => { k with silence := none, candidate := none }).reportSilence l

/-- SILENCE_TIMEOUT (R164). -/
def silenceTimeout (l : Link) (s : State) : State :=
  match (s.link l).silence with
  | some t => (s.atTime t).fallSilent l
  | none => s

/-- SILENCE_TIMEOUT. -/
def execSilenceTimeout (l : Link) (s : State) : Host.Outcome State Fault Refusal :=
  .next (silenceTimeout l s)

/-! ## Indication codes (R161 to R163) -/

/-- R163: a change placed in a link's change buffer. -/
def LinkState.placeChange (k : LinkState) (c : Code) : LinkState :=
  if k.firstChange.isNone then { k with firstChange := some c } else { k with latestChange := some c }

/-- R163: the code that a placed change replaces, where there is one. -/
def LinkState.replaced (k : LinkState) : Option Code :=
  if k.firstChange.isNone then none else k.latestChange

/-- R163: a change placed, CODE-LOST posted where it replaces an unread one. -/
def State.bufferChange (s : State) (l : Link) (c : Code) : State :=
  let t := s.modLink l fun k => k.placeChange c
  match (s.link l).replaced with
  | some lost => t.post .codeLost (.codeLost l lost)
  | none => t

/-- R162: a change of the taken code, handled at the moment it is taken. -/
def State.takeChange (s : State) (l : Link) (c : Code) : State :=
  let t := s.modLink l fun k => { k with taken := some c }
  match l with
  | .pnl => (t.bufferChange .pnl c).modeChoice
  | .cnv => t.bufferChange .cnv c
  | .stn => t.bufferChange .stn c
  | .svc => if c = .absent then t.returnToAuto else t

/-- R162: a valid status word that shows a named code. -/
def State.showCode (s : State) (l : Link) (c : Code) : State :=
  let t := (s.hear l).modLink l fun k => { k with candidate := some c }
  if (s.link l).candidate = some c ∧ (s.link l).taken ≠ some c then t.takeChange l c else t

/-- R162: a status word judged. -/
def State.judgeStatus (s : State) (l : Link) (code : Byte) : State :=
  match statusCode code with
  | some v => s.showCode l (namedCode l v)
  | none => s.modLink l fun k => { k with candidate := none }

/-- STATUS_WORD (R162); while the part is in reset or loading the links receive nothing (R175). -/
def statusWord (l : Link) (code : Byte) (s : State) : State :=
  if s.phase = .running then s.judgeStatus l code else s

/-- STATUS_WORD. -/
def execStatusWord (l : Link) (code : Byte) (s : State) : Host.Outcome State Fault Refusal :=
  .next (statusWord l code s)

/-! ## Telegrams (R160, R165) -/

/-- R165: a request offered to the request queue of a link. -/
def State.offerRequest (s : State) (l : Link) (r : Request) : State :=
  if (s.link l).queue.length < 4 then s.modLink l fun k => { k with queue := k.queue ++ [r] }
  else (s.modLinkStats l fun t => { t with dropped := countUp t.dropped }).post .overrun (.overrun l)

/-- R160: what the receiver has found, acted on. -/
def State.receiveOne (s : State) (l : Link) : Received → State
  | .bad => s.modLinkStats l fun t => { t with crcBad := countUp t.crcBad }
  | .good kind seq payload => (s.hear l).offerRequest l ⟨kind, seq, payload⟩
  | .status code => s.judgeStatus l code

/-- TELEGRAM (R160): the bytes from an opening flag to the next flag; while the part is in reset or loading the links
receive nothing (R175). -/
def telegram (l : Link) (raw : List Byte) (s : State) : State :=
  if s.phase = .running then (receive raw).foldl (fun t r => t.receiveOne l r) s else s

/-- TELEGRAM. -/
def execTelegram (l : Link) (raw : List Byte) (s : State) : Host.Outcome State Fault Refusal :=
  .next (telegram l raw s)

/-! ## The end of an answer (R165, R166) -/

/-- R178: the answer whose sending starts a SITE-RESET. -/
def startsReset (l : Link) (a : Answer) : Bool :=
  l == .svc && a.ofHead && a.kind == answerKind 27 && a.code == .done

/-- R165, R166: the first answer has been sent whole; a request it answered at the head of the queue leaves the queue. -/
def LinkState.sentAnswer (k : LinkState) (a : Answer) (rest : List Answer) : LinkState :=
  { k with out := rest, queue := if a.ofHead then k.queue.drop 1 else k.queue }

/-- ANSWER_SENT (R166). -/
def answerSent (l : Link) (s : State) : State :=
  match (s.link l).out with
  | a :: rest =>
    { s with siteResetDue := s.siteResetDue || startsReset l a }.modLink l fun k => k.sentAnswer a rest
  | [] => s

/-- ANSWER_SENT. -/
def execAnswerSent (l : Link) (s : State) : Host.Outcome State Fault Refusal :=
  .next (answerSent l s)

/-- UNKNOWN_KIND (R166): a request of a kind that is not one of the 27. -/
def unknownKind (l : Link) (kind seq : Byte) (payload : List Byte) (s : State) : State :=
  if knownKind kind then s else s.serve l ⟨kind, seq, payload⟩ fun t => (t, .now .unknownKind [])

/-- UNKNOWN_KIND. -/
def execUnknownKind (l : Link) (kind seq : Byte) (payload : List Byte) (s : State) :
    Host.Outcome State Fault Refusal :=
  .next (unknownKind l kind seq payload s)

/-! ## Notices (R168) -/

/-- R168: a notice reported: its kind, its detail and its posting count. -/
def Posting.items (place : Fin 10) (p : Posting) : List Item :=
  .byte place.val :: p.detail.items ++ [num p.count]

/-- R168: the pending kinds of a link that a test picks, in the fixed order, with their postings. -/
def LinkState.pendingWhere (k : LinkState) (picks : Fin 10 → Bool) : List (Fin 10 × Posting) :=
  (List.finRange 10).filterMap fun i => if picks i then (k.notices[i]).map (Prod.mk i) else none

/-- A kind is masked on a link. -/
def LinkState.masked (k : LinkState) (i : Fin 10) : Bool := k.mask.getLsbD i

/-- A set of notice kinds in an answer. -/
def kindItems (l : List (Fin 10)) : List Item :=
  listOf (fun i => [.byte i.val]) l

/-- The mask as a set of kinds. -/
def LinkState.maskItems (k : LinkState) : List Item :=
  kindItems ((List.finRange 10).filter k.masked)

/-- R168: the content of a READ-NOTICES answer. -/
def LinkState.noticeItems (k : LinkState) : List Item :=
  listOf (fun x => Posting.items x.1 x.2) (k.pendingWhere fun i => !k.masked i)
    ++ k.maskItems ++ kindItems ((k.pendingWhere k.masked).map Prod.fst)

/-- R168: the kinds returned leave the pending set. -/
def LinkState.readNotices (k : LinkState) : LinkState :=
  { k with notices := vmapIdx (fun i o => if k.masked i then o else none) k.notices }

/-- R168: READ-NOTICES as the links take it. -/
def readNoticesBlock (l : Link) (s : State) : State × Served :=
  (s.modLink l LinkState.readNotices, .now .done (s.link l).noticeItems)

/-- READ_NOTICES (kind 21, R168). -/
def readNotices (l : Link) (seq : Byte) (payload : List Byte) (s : State) : State :=
  s.serve l ⟨21, seq, payload⟩ (noPayload payload (readNoticesBlock l))

/-- READ_NOTICES. -/
def execReadNotices (l : Link) (seq : Byte) (payload : List Byte) (s : State) : Host.Outcome State Fault Refusal :=
  .next (readNotices l seq payload s)

/-- R168: the answer to SET-MASK carries the new mask and the pending set. -/
def LinkState.setMaskItems (k : LinkState) : List Item :=
  k.maskItems ++ kindItems ((k.pendingWhere fun _ => true).map Prod.fst)

/-- R168: SET-MASK as the links take it; bits 10 to 15 are not read. -/
def setMaskBlock (l : Link) (payload : List Byte) (s : State) : State × Served :=
  match payload with
  | [hi, lo] =>
    let t := s.modLink l fun k => { k with mask := BitVec.ofNat 10 (number2 hi lo) }
    (t, .now .done (t.link l).setMaskItems)
  | _ => (s, .now .badFormat [])

/-- SET_MASK (kind 22, R168). -/
def setMask (l : Link) (seq : Byte) (payload : List Byte) (s : State) : State :=
  s.serve l ⟨22, seq, payload⟩ (setMaskBlock l payload)

/-- SET_MASK. -/
def execSetMask (l : Link) (seq : Byte) (payload : List Byte) (s : State) : Host.Outcome State Fault Refusal :=
  .next (setMask l seq payload s)

/-! ## The site code (R169) -/

/-- R169: start-up is complete. -/
def State.startUpComplete (s : State) : Bool :=
  (s.chains.one.cycle == .unfitted || s.chains.one.firstDone)
    && (s.chains.two.cycle == .unfitted || s.chains.two.firstDone)

/-- R169: a JOINED string has a published limit below half of its maximum. -/
def State.derated (s : State) (c : Str) : Bool :=
  s.isJoined c
    && (belowHalf (s.envelope.limits.charge c) s.params.imaxC || belowHalf (s.envelope.limits.discharge c) s.params.imaxD)

/-- R169: the highest site code that applies. -/
def State.siteCode (s : State) : SiteCode :=
  if s.config.fault then .configFault
  else if s.fire.stage.fire then .fireIsolated
  else if s.fire.stage = .alert then .fireAlert
  else if s.derated .one ∨ s.derated .two then .derated
  else if s.permit.state = .closed then .connected
  else if s.isJoined .one ∨ s.isJoined .two then .ready
  else if s.startUpComplete then .safe
  else .startUp

/-- SEND_STATUS_WORD (R161, R169): the part sends a status word while it is not sending a telegram on the link. -/
def sendStatusWord (l : Link) (s : State) : State :=
  if s.phase = .running ∧ (s.link l).out = [] then s.modLink l fun k => { k with sent := s.siteCode } else s

/-- SEND_STATUS_WORD. -/
def execSendStatusWord (l : Link) (s : State) : Host.Outcome State Fault Refusal :=
  .next (sendStatusWord l s)

/-! ## The site mode (R170) -/

/-- R170: SET-SITE-MODE as the links take it: 0 for AUTO, 1 for MAINTENANCE. -/
def setSiteModeBlock (payload : List Byte) (s : State) : State × Served :=
  if payload ≠ [0] ∧ payload ≠ [1] then (s, .now .badFormat [])
  else if s.links.svc.taken ≠ some .present then (s, .now .refusedState [])
  else if payload = [0] then (s.returnToAuto, .now .done [])
  else ({ s with siteMode := .maintenance }, .now .done [])

/-- SET_SITE_MODE (kind 26, R170). -/
def setSiteMode (l : Link) (seq : Byte) (payload : List Byte) (s : State) : State :=
  s.serve l ⟨26, seq, payload⟩ (setSiteModeBlock payload)

/-- SET_SITE_MODE. -/
def execSetSiteMode (l : Link) (seq : Byte) (payload : List Byte) (s : State) : Host.Outcome State Fault Refusal :=
  .next (setSiteMode l seq payload s)

end Sys2Proof.Machine
end

