-- ==== Sys2Proof/Machine/Configuration.lean ====
section
/-! DEFINITION. The configuration store (chapter 11), the start of a reset, its completion, and the commands of the
chapter. -/

namespace Sys2Proof.Machine

/-- The configuration store changed. -/
def State.modConfig (s : State) (f : ConfigStore → ConfigStore) : State :=
  { s with config := f s.config }

/-! ## SET-PARAM (R172) -/

/-- R172: the outcome of judging a SET-PARAM: the value to store and whether it was clamped, or none for BAD-FORMAT. -/
def judgeParam (p : Params) (n : Nat) (value : List Byte) : Option (ParamValue × Bool) :=
  match paramForm n with
  | none => none
  | some f =>
    match parseValue f value with
    | none => none
    | some v =>
      match f.clamp v with
      | none => none
      | some w => if f.shapeOk w && (p.set n w).crossCheck n then some (w, w != v) else none

/-- R36, R172: a value stored in the working set; a new balancing ceiling is acted on at once. A value equal to the
working value changes nothing. -/
def State.storeParam (s : State) (n : Nat) (v : ParamValue) : State :=
  if s.params.get n = v then s
  else
    let t := s.modConfig fun k => { k with working := k.working.set n v }
    if n = 12 then t.ceilingWritten else t

/-- R172: SET-PARAM as the configuration store takes it. -/
def setParamBlock (payload : List Byte) (s : State) : State × Served :=
  match payload with
  | [] => (s, .now .badFormat [])
  | b :: value =>
    match judgeParam s.params b.toNat value with
    | none => (s, .now .badFormat [])
    | some (v, clamped) => (s.storeParam b.toNat v, .now (if clamped then .clamped else .done) [])

/-- SET_PARAM (kind 23, R172). -/
def setParam (l : Link) (seq : Byte) (payload : List Byte) (s : State) : State :=
  s.serve l ⟨23, seq, payload⟩ (setParamBlock payload)

/-- SET_PARAM. -/
def execSetParam (l : Link) (seq : Byte) (payload : List Byte) (s : State) : Host.Outcome State Fault Refusal :=
  .next (setParam l seq payload s)

/-! ## READ-PARAM (R173) -/

/-- A parameter's value in an answer. -/
def ParamValue.items : ParamValue → List Item
  | .number v => [.number v]
  | .named k => [.byte k]
  | .list b => listOf (fun q => [.number q.t, .number q.v]) b

/-- R173: the range of a parameter in an answer: two ends, the five speeds of a link speed, the numbers of the names, or the
fewest and most breakpoints with the bounds of their temperatures and values, a DESIGN CHOICE (log entry 20). -/
def ParamForm.items : ParamForm → List Item
  | .numeric lo hi => [.number lo, .number hi]
  | .speed => listOf (fun v => [.number v]) speeds
  | .names count => listOf (fun k => [.byte k]) (List.range count)
  | .points fewest most top => [num fewest, num most, .number tempLow, .number tempHigh, .number 0, .number top]

/-- R173: the value of a parameter in the stored image, NONE where the image is not usable: the eight-byte value for a named
value and a list too, a DESIGN CHOICE (log entry 20). -/
def ConfigStore.storedItems (k : ConfigStore) (n : Nat) : List Item :=
  match k.fault, k.image with
  | false, some i => (i.values.get n).items
  | _, _ => [.nothing]

/-- R173: the content of a READ-PARAM answer that names a parameter. -/
def ConfigStore.paramItems (k : ConfigStore) (n : Nat) (f : ParamForm) : List Item :=
  (k.working.get n).items ++ k.storedItems n ++ (Params.defaults.get n).items ++ f.items

/-- R173: how many parameters differ from the stored image; all of them in CONFIG-FAULT. -/
def ConfigStore.differing (k : ConfigStore) : Nat :=
  match k.fault, k.image with
  | false, some i => k.working.differing i.values
  | _, _ => 57

/-- R173: the cause of the last CONFIG-FAULT entry, none after the last of its list. -/
def configCauseItem : Option ConfigCause → Item
  | some k => .byte k.ctorIdx
  | none => .byte 3

/-- R173: the content of a READ-PARAM answer that names STATUS. -/
def ConfigStore.statusItems (k : ConfigStore) : List Item :=
  [.byte (if k.fault then 1 else 0), .byte (if k.writing.isSome then 1 else 0), numOr (k.crc.map BitVec.toNat),
    num k.differing, configCauseItem k.cause]

/-- R173: READ-PARAM as the configuration store takes it: 1 to 57 for a parameter, 0 for STATUS. -/
def readParamBlock (payload : List Byte) (s : State) : State × Served :=
  match payload with
  | [b] =>
    if b = 0 then (s, .now .done s.config.statusItems)
    else match paramForm b.toNat with
      | some f => (s, .now .done (s.config.paramItems b.toNat f))
      | none => (s, .now .badFormat [])
  | _ => (s, .now .badFormat [])

/-- READ_PARAM (kind 24, R173). -/
def readParam (l : Link) (seq : Byte) (payload : List Byte) (s : State) : State :=
  s.serve l ⟨24, seq, payload⟩ (readParamBlock payload)

/-- READ_PARAM. -/
def execReadParam (l : Link) (seq : Byte) (payload : List Byte) (s : State) : Host.Outcome State Fault Refusal :=
  .next (readParam l seq payload s)

/-! ## COMMIT (R174) -/

/-- R174: every working value equals the stored image, the configuration NORMAL. -/
def ConfigStore.unchanged (k : ConfigStore) : Bool :=
  !k.fault && (k.image.any fun i => i.values == k.working)

/-- R174: the CRC-32 of the stored image, as an answer carries it. -/
def ConfigStore.crcItems (k : ConfigStore) : List Item := [numOr (k.crc.map BitVec.toNat)]

/-- R174: COMMIT as the configuration store takes it; one that finds the store WRITING, which no master can bring about, is
BUSY (section 6.6). -/
def commitBlock (s : State) : State × Served :=
  if s.config.writing.isSome then (s, .now .busy [])
  else if s.config.unchanged then (s, .now .done s.config.crcItems)
  else (s.modConfig fun k => { k with writing := some k.working }, .later)

/-- COMMIT (kind 25, R174). -/
def commit (l : Link) (seq : Byte) (payload : List Byte) (s : State) : State :=
  s.serve l ⟨25, seq, payload⟩ (noPayload payload commitBlock)

/-- COMMIT. -/
def execCommit (l : Link) (seq : Byte) (payload : List Byte) (s : State) : Host.Outcome State Fault Refusal :=
  .next (commit l seq payload s)

/-- R174: the store after a completed write of a copy. -/
def ConfigStore.written (k : ConfigStore) (p : Params) : ConfigStore :=
  { k with
    image := some (.written p)
    writing := none
    crc := some (imageCrc p)
    fault := false }

/-- R166, R174: the COMMIT that waits at the head of the SVC queue is answered. -/
def State.answerCommit (s : State) : State :=
  match s.links.svc.queue with
  | r :: _ =>
    (s.answerHead .svc r .done s.config.crcItems).modLink .svc fun k => { k with waiting := false }
  | [] => s

/-- R174: the completion of a write. -/
def State.completeWrite (s : State) (p : Params) : State :=
  let t := s.modConfig fun k => k.written p
  (if s.config.fault then t.deliverSc else t).answerCommit

/-- COMMIT_COMPLETE (R174). -/
def commitComplete (s : State) : State :=
  match s.config.writing with
  | some p => s.completeWrite p
  | none => s

/-- COMMIT_COMPLETE. -/
def execCommitComplete (s : State) : Host.Outcome State Fault Refusal :=
  .next (commitComplete s)

/-! ## The start of a reset (R19, section 2.9, R61, R79, R96, R116, R122, R128, R144, R156, R171) -/

/-- R61: the string state a reset leaves. -/
def StringState.afterReset (g : StringState) : ResetKind → StringState
  | .powerOn => .opened
  | _ =>
    match g with
    | .locked k => .locked k
    | _ => .opened

/-- R61: a string controller at the start of a reset; its inputs keep their levels, and the feedback check is scheduled at
the completion. -/
def StringController.atReset (k : StringController) (kind : ResetKind) : StringController where
  state := k.state.afterReset kind
  excursions := 0
  check := none
  disagreement := false
  mainInput := k.mainInput
  prechargeInput := k.prechargeInput

/-- R156: the permit state a reset leaves. -/
def PermitState.afterReset (g : PermitState) : ResetKind → PermitState
  | .powerOn => .opened
  | _ =>
    match g with
    | .lockedOut => .lockedOut
    | _ => .opened

/-- R156: the grid permit unit at the start of a reset; the breaker feedback input keeps its level. -/
def Permit.atReset (q : Permit) (kind : ResetKind) : Permit :=
  { Permit.atPowerOn with
    state := q.state.afterReset kind
    ring := if kind = .powerOn then [] else q.ring
    breaker := q.breaker }

/-- R122, R128: the record store at the start of a reset. -/
def RecordStore.atReset (r : RecordStore) : ResetKind → RecordStore
  | .powerOn => .empty
  | _ => r

/-- R175: the values every block takes at the start of a reset; the phase it stands in until the completion is given. -/
def State.startReset (s : State) (kind : ResetKind) (phase : Phase) : State :=
  { s with
    phase := phase
    resetKind := kind
    siteResetDue := false
    uptime := 0
    clocks := .atReset
    chains := ⟨.atReset s.params.range, .atReset s.params.range⟩
    supervision := ⟨.atReset, .atReset⟩
    strings := ⟨s.strings.one.atReset kind, s.strings.two.atReset kind⟩
    envelope := .atReset
    plant := .atReset s.plant.flowInput s.plant.prescaler
    fire := .atReset
    store := s.store.atReset kind
    agreement := .atReset
    permit := s.permit.atReset kind
    links := s.links.mapLinks fun _ k => .atReset k.speed .startUp
    siteMode := .auto
    stationCap := 4000
    serviceCap := 4000
    config := { s.config with writing := none } }

/-! ## The start-up load (R176) -/

/-- R176: the first check that the stored image fails. -/
def imageFault : Option Image → Option ConfigCause
  | none => some .crc
  | some i =>
    if !i.crcOk then some .crc
    else if !i.formatOk then some .format
    else if !i.values.contentOk then some .content
    else none

/-- R176: the configuration store after the load: the image, or the defaults in CONFIG-FAULT. The CRC-32 that READ-PARAM
STATUS reports from here on is the one the image carries, after a failed CRC check too, a DESIGN CHOICE (log entry 4). -/
def ConfigStore.load (k : ConfigStore) : ConfigStore :=
  let cause := imageFault k.image
  { k with
    working := match cause, k.image with
      | none, some i => i.values
      | _, _ => .defaults
    fault := cause.isSome
    writing := none
    crc := k.image.map Image.crc
    cause := cause }

/-! ## The completion of a reset (R176) -/

/-- R157: the speed parameter of a link. -/
def Params.linkSpeed (p : Params) : Link → Nat
  | .cnv => p.baudCnv.toNat
  | .stn => p.baudStn.toNat
  | .pnl => p.baudPnl.toNat
  | .svc => p.baudSvc.toNat

/-- R157, R164, R171: a link at the completion: its speed in force, its silence timer started. -/
def LinkState.complete (k : LinkState) (p : Params) (l : Link) : LinkState :=
  { k with speed := p.linkSpeed l, silence := some (silenceTime p l) }

/-- R61: a string controller at the completion: the feedback check comes due 200 ms later. -/
def StringController.complete (k : StringController) : StringController :=
  { k with check := some 200 }

/-- R175: what stands ready at the completion: uptime and every clock from 0, the configured range and the link speeds in
force, the prescaler, the silence timers and the feedback checks. -/
def State.ready (s : State) : State :=
  { s with
    phase := .running
    uptime := 0
    clocks := .atReset
    chains := ⟨{ s.chains.one with range := s.params.range }, { s.chains.two with range := s.params.range }⟩
    strings := ⟨s.strings.one.complete, s.strings.two.complete⟩
    plant := { s.plant with prescaler := s.params.prescaler.toNat }
    links := s.links.mapLinks fun l k => k.complete s.params l }

/-- R10, R13: the first cycle of a fitted chain becomes due; the other enters UNFITTED. -/
def State.firstDue (s : State) (c : Str) : State :=
  (s.dueMoment c).startIfIdle c

/-- R75, R176: in CONFIG-FAULT, FAULT is posted and SC 0 is delivered. -/
def State.reportFault (s : State) : State :=
  if s.config.fault then
    (match s.config.cause with
      | some k => s.post .fault (.configFault k)
      | none => s).deliverSc
  else s

/-- R169: the site code that now applies, as the code last sent on every link. -/
def State.noteSiteCode (s : State) : State :=
  { s with links := s.links.mapLinks fun _ k => { k with sent := s.siteCode } }

/-- R156, R176: the completion of a reset. -/
def State.completeReset (s : State) : State :=
  ((((s.ready.firstDue .one).firstDue .two).post .restart (.restart s.resetKind)).reportFault.judgeBreaker).noteSiteCode

/-- START_UP_LOAD_COMPLETE (R176). -/
def startUpLoadComplete (s : State) : State :=
  if s.phase = .loading then (s.modConfig ConfigStore.load).completeReset else s

/-- START_UP_LOAD_COMPLETE. -/
def execStartUpLoadComplete (s : State) : Host.Outcome State Fault Refusal :=
  .next (startUpLoadComplete s)

/-! ## The resets (R175, R178) -/

/-- POWER_ON (R175): the supply rises into its operating range. With the reset line asserted the part stays in reset. -/
def powerOn (s : State) : State :=
  if s.phase = .off then s.startReset .powerOn (if s.resetLine then .held else .loading) else s

/-- POWER_ON. -/
def execPowerOn (s : State) : Host.Outcome State Fault Refusal :=
  .next (powerOn s)

/-- RESET_LINE_ASSERT (R175). Without supply only the level of the line is noted. -/
def resetLineAssert (s : State) : State :=
  if s.resetLine then s
  else if s.phase = .off then { s with resetLine := true }
  else { s with resetLine := true }.startReset .resetLine .held

/-- RESET_LINE_ASSERT. -/
def execResetLineAssert (s : State) : Host.Outcome State Fault Refusal :=
  .next (resetLineAssert s)

/-- RESET_LINE_RELEASE (R175): the load begins. -/
def resetLineRelease (s : State) : State :=
  { s with resetLine := false, phase := if s.phase = .held then .loading else s.phase }

/-- RESET_LINE_RELEASE. -/
def execResetLineRelease (s : State) : Host.Outcome State Fault Refusal :=
  .next (resetLineRelease s)

/-- LOSS_OF_SUPPLY (R174, R175): a commit that runs is abandoned; what the supply held is at its power-on values. -/
def lossOfSupply (s : State) : State :=
  if s.phase = .off then s else s.startReset .powerOn .off

/-- LOSS_OF_SUPPLY. -/
def execLossOfSupply (s : State) : Host.Outcome State Fault Refusal :=
  .next (lossOfSupply s)

/-- R178: the conditions of a SITE-RESET. -/
def State.resetAllowed (s : State) : Bool :=
  s.strings.one.state.apart && s.strings.two.state.apart
    && (s.permit.state = .opened || s.permit.state = .lockedOut)
    && (s.fire.stage = .normal || s.fire.stage = .preAlert)

/-- R178: SITE-RESET as the configuration store takes it. -/
def siteResetBlock (s : State) : State × Served :=
  (s, .now (if s.resetAllowed then .done else .refusedState) [])

/-- SITE_RESET (kind 27, R178). -/
def siteReset (l : Link) (seq : Byte) (payload : List Byte) (s : State) : State :=
  s.serve l ⟨27, seq, payload⟩ (noPayload payload siteResetBlock)

/-- SITE_RESET. -/
def execSiteReset (l : Link) (seq : Byte) (payload : List Byte) (s : State) : Host.Outcome State Fault Refusal :=
  .next (siteReset l seq payload s)

/-- SITE_RESET_START (R178): once the answer has been sent whole, whatever the state of the part has become; the
completion comes at once. -/
def siteResetStart (s : State) : State :=
  if s.siteResetDue then (s.startReset .siteReset .loading).completeReset else s

/-- SITE_RESET_START. -/
def execSiteResetStart (s : State) : Host.Outcome State Fault Refusal :=
  .next (siteResetStart s)

end Sys2Proof.Machine
end

