-- ==== Sys2Proof/Machine/Fire.lean ====
section
/-! DEFINITION. The fire and gas unit (chapter 6): sampling, the passes, the fire stages and what a change of stage hands
on, and the chapter's commands. -/

namespace Sys2Proof.Machine

/-- The fire and gas unit changed. -/
def State.modFire (s : State) (f : FireUnit → FireUnit) : State :=
  { s with fire := f s.fire }

/-! ## Sampling (R98 to R100) -/

/-- R99: a loop that posts LOOP-FAULT at an evaluation: a used loop, now OPEN or SHORT, whose state has changed or which
was not of a used type at the evaluation before. A type written to UNUSED and back between two evaluations is not seen, a
DESIGN CHOICE (log entry 28). -/
def loopFaulted (before after : DetectorLoop) : Bool :=
  after.seenType.used && after.state.broken && (after.state != before.state || !before.seenType.used)

/-- R98, R99: a loop after a sample, its type as of this evaluation noted. -/
def DetectorLoop.evaluate (d : DetectorLoop) (ohms : Nat) (type : LoopType) : DetectorLoop :=
  { d.sample (sampleState ohms) with seenType := type }

/-- R98: the loops after a sample. -/
def sampledLoops (p : Params) (loops : Vector DetectorLoop 8) (ohms : Vector Nat 8) : Vector DetectorLoop 8 :=
  vmapIdx (fun i d => d.evaluate ohms[i] p.loopTypes[i]) loops

/-- R98, R99: the eight loops sampled, and LOOP-FAULT posted for those it is due for, in ascending order, a DESIGN CHOICE
(log entry 23). -/
def State.sampleLoops (s : State) (ohms : Vector Nat 8) : State :=
  let after := sampledLoops s.params s.fire.loops ohms
  (List.finRange 8).foldl
    (fun t i =>
      if loopFaulted s.fire.loops[i] after[i] then t.post .fault (.loopFault (i.val + 1) (after[i]).state) else t)
    (s.modFire fun f => { f with loops := after })

/-- R100: GAS-FAULT posted where a channel has changed into FAULT. -/
def State.gasFault (s : State) (channel : Nat) (before after : GasChannel) : State :=
  if after = .fault ∧ before ≠ .fault then s.post .fault (.gasFault channel) else s

/-- R100: the two gas channels sampled, after the loops, channel 1 first (log entry 23). -/
def State.sampleGas (s : State) (g1 g2 : Int) : State :=
  ((s.modFire fun f => { f with gas1 := gasSample g1, gas2 := gasSample g2 }).gasFault 1 s.fire.gas1
    (gasSample g1)).gasFault 2 s.fire.gas2 (gasSample g2)

/-! ## What every pass of an evaluation sees alike (R97) -/

/-- R107: a string does not keep the container from being isolated. -/
def StringController.isolated (k : StringController) : Bool :=
  k.state.apart && k.mainInput == .opened && k.prechargeInput == .opened

/-- R107: the container is isolated. -/
def State.isolated (s : State) : Bool :=
  s.strings.one.isolated && s.strings.two.isolated && s.permit.breaker == .opened

/-- R97: the rise flags, string states and feedback inputs that every pass of one evaluation uses. -/
structure FireView where
  /-- A sensor of a string in PRECHARGE, JOINED or OPENING has the rise flag HEAT (R102). -/
  heatRise : Bool
  /-- A sensor of either string has the rise flag PRE or HEAT (R104). -/
  anyRise : Bool
  /-- The container is isolated (R107). -/
  isolated : Bool
  deriving DecidableEq, Repr

/-- R97: the view of an evaluation. -/
def State.fireView (s : State) : FireView where
  heatRise := (!s.strings.one.state.apart && s.supervision.one.anyHeat)
    || (!s.strings.two.state.apart && s.supervision.two.anyHeat)
  anyRise := s.supervision.one.anyRise || s.supervision.two.anyRise
  isolated := s.isolated

/-! ## Criterion classes (R102, R103) -/

/-- R102: a loop of a type is in ALARM. -/
def FireUnit.loopAlarm (f : FireUnit) (p : Params) (type : LoopType) : Bool :=
  (List.finRange 8).any fun i => p.loopTypes[i] == type && (f.loops[i]).state == .alarm

/-- R102: the four classes updated. -/
def FireUnit.updateClasses (f : FireUnit) (p : Params) (v : FireView) (now : Nat) : FireUnit :=
  { f with
    gas := f.gas.update (f.gas1.atLeast p.gasHigh || f.gas2.atLeast p.gasHigh) now
    smoke := f.smoke.update (f.loopAlarm p .smoke) now
    heat := f.heat.update (f.loopAlarm p .heat || v.heatRise) now
    panel := f.panel.update (decide (f.panelCode = some .panelAlarm)) now }

/-- The criterion of a class. -/
def FireUnit.criterion (f : FireUnit) : FireClass → Criterion
  | .gas => f.gas
  | .smoke => f.smoke
  | .heat => f.heat
  | .panel => f.panel

/-- The four classes, in the order of section 7.1. -/
def fireClasses : List FireClass := [.gas, .smoke, .heat, .panel]

/-- The classes active. -/
def FireUnit.activeClasses (f : FireUnit) : List FireClass :=
  fireClasses.filter fun k => (f.criterion k).active

/-- R103: the classes recent at an uptime. -/
def FireUnit.recentClasses (f : FireUnit) (now : Nat) : List FireClass :=
  fireClasses.filter fun k => (f.criterion k).recent now

/-! ## DEGRADED (R111) -/

/-- R111: the used loops in OPEN or SHORT. -/
def FireUnit.lostLoops (f : FireUnit) (p : Params) : List DetectionItem :=
  (List.finRange 8).filterMap fun i =>
    if (p.loopTypes[i]).used && (f.loops[i]).state.broken then some (.loop (i.val + 1)) else none

/-- R111: the means of detection out of service. -/
def FireUnit.outOfService (f : FireUnit) (p : Params) (pnlSilent : Bool) : List DetectionItem :=
  f.lostLoops p
    ++ (if f.gas1 = .fault then [.gas 1] else []) ++ (if f.gas2 = .fault then [.gas 2] else [])
    ++ (if f.panelCode = some .panelFault ∨ pnlSilent then [.panelLink] else [])

/-- R164: a link is SILENT. -/
def LinkState.silent (k : LinkState) : Bool := k.silence.isNone

/-- R111: the items counted now. -/
def State.outOfService (s : State) : List DetectionItem :=
  s.fire.outOfService s.params s.links.pnl.silent

/-- R111: DEGRADED updated and the items counted held for READ-FIRE (R114), its FAULT posted where it changes from NO to
YES. -/
def State.updateDegraded (s : State) : State :=
  let items := s.outOfService
  let now : Bool := items.length ≥ 2
  let t := s.modFire fun f => { f with degraded := now, counted := items }
  if now ∧ ¬ s.fire.degraded then t.post .fault (.degraded items) else t

/-! ## The choice of stage (R104, R105, R110) -/

/-- R104: a PRE-ALERT condition holds. -/
def FireUnit.preAlertCondition (f : FireUnit) (p : Params) (v : FireView) : Bool :=
  f.gas1.atLeast p.gasLow || f.gas2.atLeast p.gasLow || v.anyRise || decide (f.panelCode = some .ventRequest)

/-- R105: quiet since after a pass that finds its stage's condition or not. -/
def quietAfter (holds : Bool) (since : Option Nat) (now : Nat) : Option Nat :=
  if holds then none else match since with
    | some t => some t
    | none => some now

/-- R105: quiet since, updated in PRE-ALERT and ALERT. -/
def FireUnit.updateQuiet (f : FireUnit) (p : Params) (v : FireView) (now : Nat) : FireUnit :=
  match f.stage with
  | .preAlert => { f with quietSince := quietAfter (f.preAlertCondition p v) f.quietSince now }
  | .alert => { f with quietSince := quietAfter (!f.activeClasses.isEmpty) f.quietSince now }
  | _ => f

/-- R105: the quiet time, in ms. -/
def quietTime : Nat := 30000

/-- R105: quiet since is 30 s or more in the past. -/
def FireUnit.quiet (f : FireUnit) (now : Nat) : Bool :=
  f.quietSince.any fun t => t + quietTime ≤ now

/-- R110: the reset conditions hold at an uptime. -/
def FireUnit.resetConditions (f : FireUnit) (now : Nat) : Bool :=
  (f.recentClasses now).isEmpty && decide (f.panelCode ≠ some .panelAlarm)

/-- R104: the first row of the table that applies: the stage after a pass that took a code, or none. -/
def FireUnit.nextStage (f : FireUnit) (p : Params) (v : FireView) (now : Nat) (code : Option Code) : FireStage :=
  let confirmed : Bool := (f.recentClasses now).length ≥ 2 || decide (code = some .suppressionReleased)
  let condition := f.preAlertCondition p v
  let active := !f.activeClasses.isEmpty
  match f.stage with
  | .normal => if confirmed then .confirmed else if active then .alert else if condition then .preAlert else .normal
  | .preAlert => if confirmed then .confirmed else if active then .alert else if f.quiet now then .normal else .preAlert
  | .alert =>
    if confirmed then .confirmed
    else if f.quiet now then (if condition then .preAlert else .normal) else .alert
  | .confirmed =>
    if v.isolated then .isolated
    else if code = some .resetRequest ∧ f.resetConditions now then .normal else .confirmed
  | .isolated =>
    if ¬ v.isolated then .confirmed
    else if code = some .resetRequest ∧ f.resetConditions now then .normal else .isolated

/-! ## What a change of stage does (R104 to R110, R113) -/

/-- R108: the isolation allowance, in ms. -/
def isolationTime : Nat := 5000

/-- R104 to R110: the fire unit's own state at a change of stage: quiet since becomes none; the isolation timer starts at
an entry into CONFIRMED and stops at any other stage. -/
def FireUnit.enter (f : FireUnit) (g : FireStage) (now : Nat) : FireUnit :=
  { f with
    stage := g
    entered := now
    quietSince := none
    isolationTimer := if g = .confirmed then some (now + isolationTime) else none
    incompleteReported := if g = .confirmed ∨ g = .normal then false else f.incompleteReported }

/-- R105, R106: an entry into CONFIRMED from NORMAL, PRE-ALERT or ALERT. -/
def confirmedEntry (old new : FireStage) : Bool :=
  new == .confirmed && old != .isolated && old != .confirmed

/-- R105: an entry into ALERT from NORMAL or PRE-ALERT. -/
def alertEntry (old new : FireStage) : Bool :=
  new == .alert && !old.alertOrHigher

/-- R36: an entry into ALERT or higher from NORMAL or PRE-ALERT. -/
def raised (old new : FireStage) : Bool :=
  new.alertOrHigher && !old.alertOrHigher

/-- R109: the list of classes of a freeze order. -/
def FireUnit.freezeClasses (f : FireUnit) (now : Nat) : List FireClass :=
  if f.activeClasses ≠ [] then f.activeClasses
  else if f.recentClasses now ≠ [] then f.recentClasses now
  else [.panel]

/-- R105, R106, R109: the freeze order of an entry, its fields captured from the state the pass decided on. -/
def State.orderFreeze (s decided : State) (old new : FireStage) : State :=
  let classes := decided.fire.freezeClasses decided.uptime
  if confirmedEntry old new then s.freeze (decided.capture .confirmedEntry classes)
  else if alertEntry old new then s.freeze (decided.capture .alertEntry classes)
  else s

/-- R104: FIRE-STAGE posted, with the new stage, the old stage and the classes active and recent. -/
def State.postStage (s : State) (old : FireStage) : State :=
  s.post .fireStage (.fireStage s.fire.stage old s.fire.activeClasses (s.fire.recentClasses s.uptime))

/-- R104, R105: a change of stage, with all that no order of the other receivers touches: the unit's own state, the
notice, the balance sets and the snapshot. -/
def State.enterStage (s : State) (g : FireStage) : State :=
  let old := s.fire.stage
  let t := ((s.modFire fun f => f.enter g s.uptime).postStage old).orderFreeze s old g
  if raised old g then t.emptyAllSets else t

/-- R113: the receivers of a change of stage whose acting can be told apart. -/
inductive FireReceiver where
  | envelope
  | string (c : Str)
  | permit
  | plant
  deriving DecidableEq, Repr

/-- R113: what a pass hands on to a receiver. -/
abbrev FireEffect := FireReceiver × (State → State)

/-- R112: the FS update of a pass. -/
def State.fsEffect (s : State) : FireEffect :=
  let row := fsRow s.params s.fire.stage s.fire.degraded
  (.envelope, fun t => t.updateFs row)

/-- R54, R106: the forced opening of a string, where it is not OPEN or LOCKED. -/
def State.forceEffect (s : State) (c : Str) : List FireEffect :=
  if (s.string c).state.apart then [] else [(.string c, fun t => t.forceOpen c)]

/-- R106, R150: the forced trip with cause FIRE, where it has an effect. -/
def State.tripEffect (s : State) : List FireEffect :=
  if s.permit.state.connected ∨ s.permit.breaker = .closed then [(.permit, State.forcedTrip)] else []

/-- R113: what a change of stage hands on. -/
def State.stageEffects (s : State) (old : FireStage) : List FireEffect :=
  let entry := confirmedEntry old s.fire.stage
  [s.fsEffect]
    ++ (if entry then s.forceEffect .one ++ s.forceEffect .two ++ s.tripEffect else [])
    ++ [(.plant, fun t => t.plantStageChange entry)]

/-- R113: effects taken one after the other. -/
def State.take (s : State) (effects : List FireEffect) : State :=
  s.through (effects.map Prod.snd)

/-- R113: effects taken in any order. -/
def State.takeAll (s : State) (effects : List FireEffect) : State :=
  s.inAnyOrder (effects.map Prod.snd)

/-- R104, R110, R113: a change of stage, whole. -/
def State.changeStage (s : State) (g : FireStage) : State :=
  let t := s.enterStage g
  t.takeAll (t.stageEffects s.fire.stage)

/-! ## A pass (R97) -/

/-- R97, R101: the fire unit with the classes updated for a pass that takes a code. -/
def State.judgeClasses (s : State) (v : FireView) (code : Option Code) : State :=
  s.modFire fun f =>
    { f with panelCode := match code with
        | some k => some k
        | none => f.panelCode }.updateClasses s.params v s.uptime

/-- R105: quiet since updated. -/
def State.judgeQuiet (s : State) (v : FireView) : State :=
  s.modFire fun f => f.updateQuiet s.params v s.uptime

/-- R97: the decision of a pass, and what it hands on: the classes, DEGRADED, at most one change of stage, and one FS
update where the stage or DEGRADED changed. -/
def State.decidePass (s : State) (v : FireView) (code : Option Code) : State × List FireEffect :=
  let t := ((s.judgeClasses v code).updateDegraded).judgeQuiet v
  let g := t.fire.nextStage t.params v t.uptime code
  if g ≠ t.fire.stage then
    let u := t.enterStage g
    (u, u.stageEffects t.fire.stage)
  else (t, if t.fire.degraded ≠ s.fire.degraded then [t.fsEffect] else [])

/-- R97: the one pass of an evaluation that takes no code or one. -/
def State.onePass (s : State) (v : FireView) (code : Option Code) : State :=
  let d := s.decidePass v code
  d.1.takeAll d.2

/-- R113: an order of effects in which each receiver takes those of the first pass (numbered 1) before those of the
second (numbered 2). -/
def receiversInOrder : List (Nat × FireEffect) → Bool
  | [] => true
  | x :: rest => (rest.all fun y => !(y.1 < x.1 && decide (y.2.1 = x.2.1))) && receiversInOrder rest

/-- R151: no forced trip is among the effects left for after the second pass's decision. The record of a FIRE trip shows
CONFIRMED, so the trip is taken while the entry of the first pass still stands. -/
def tripTaken (left : List FireEffect) : Bool :=
  left.all fun e => decide (e.1 ≠ .permit)

/-- R113: the states that two passes can lead to once the first has decided: the receivers take some of the effects of
the first pass in an order `p`, the forced trip among them (R151), before the second decides, and the rest after it. -/
def State.secondPass (s : State) (v : FireView) (code : Code) (p : List FireEffect) : List State :=
  ((List.range (p.length + 1)).filter fun i => tripTaken (p.drop i)).flatMap fun i =>
    let d := (s.take (p.take i)).decidePass v (some code)
    d.2.permutations'.flatMap fun q =>
      ((weave ((p.drop i).map (Prod.mk 1)) (q.map (Prod.mk 2))).filter receiversInOrder).map fun order =>
        d.1.take (order.map Prod.snd)

/-- R97, R117: two passes of one evaluation. Which effects of the first pass the receivers have taken when the second
decides is not fixed. -/
def State.twoPasses (s : State) (v : FireView) (first second : Code) : State :=
  let d := s.decidePass v (some first)
  match d.2.permutations'.flatMap (d.1.secondPass v second) with
  | t :: rest => State.oneOf t rest
  | [] => d.1

/-- R97, R101: the passes of an evaluation: one for each code taken from the PNL change buffer, or one with none. -/
def State.passes (s : State) : State :=
  let t := s.modLink .pnl LinkState.emptyBuffer
  match s.links.pnl.firstChange, s.links.pnl.latestChange with
  | none, none => t.onePass t.fireView none
  | some a, none => t.onePass t.fireView (some a)
  | none, some a => t.onePass t.fireView (some a)
  | some a, some b => t.twoPasses t.fireView a b

/-- FIRE_EVALUATION (R97): it comes 100 ms after the last. -/
def fireEvaluation (loops : Vector Nat 8) (gas1 gas2 : Int) (s : State) : State :=
  if s.phase = .running then
    ((({ s.atTime s.clocks.fire with clocks := { s.clocks with fire := s.clocks.fire + 100 } }).sampleLoops
      loops).sampleGas gas1 gas2).passes
  else s

/-- FIRE_EVALUATION. -/
def execFireEvaluation (loops : Vector Nat 8) (gas1 gas2 : Int) (s : State) : Host.Outcome State Fault Refusal :=
  .next (fireEvaluation loops gas1 gas2 s)

/-! ## The isolation timer (R108) -/

/-- R108: the feedback inputs of a string that read CLOSED. -/
def StringController.closedInputs (k : StringController) (c : Str) : List IsolationGap :=
  (if k.mainInput = .closed then [.mainClosed c] else []) ++ (if k.prechargeInput = .closed then [.prechargeClosed c] else [])

/-- R108: a string that is not OPEN or LOCKED. -/
def StringController.stringIn (k : StringController) (c : Str) : List IsolationGap :=
  if k.state.apart then [] else [.stringIn c]

/-- R108: every condition of R107 that does not hold. -/
def State.isolationGaps (s : State) : List IsolationGap :=
  s.strings.one.closedInputs .one ++ s.strings.two.closedInputs .two
    ++ s.strings.one.stringIn .one ++ s.strings.two.stringIn .two
    ++ (if s.permit.breaker = .closed then [.breakerClosed] else [])

/-- R108: the isolation timer has expired. -/
def State.isolationExpired (s : State) : State :=
  let t := s.modFire fun f => { f with isolationTimer := none }
  if s.fire.stage = .confirmed ∧ ¬ s.fire.incompleteReported then
    (t.modFire fun f => { f with incompleteReported := true }).post .fault (.isolationIncomplete s.isolationGaps)
  else t

/-- ISOLATION_TIMER_EXPIRY (R108). -/
def isolationTimerExpiry (s : State) : State :=
  match s.fire.isolationTimer with
  | some t => (s.atTime t).isolationExpired
  | none => s

/-- ISOLATION_TIMER_EXPIRY. -/
def execIsolationTimerExpiry (s : State) : Host.Outcome State Fault Refusal :=
  .next (isolationTimerExpiry s)

/-! ## RESET-FIRE (R110) -/

/-- R110: RESET-FIRE as the fire and gas unit takes it. -/
def resetFireBlock (s : State) : State × Served :=
  match s.fire.stage with
  | .normal => (s, .now .done [])
  | .preAlert => (s, .now .refusedState [])
  | .alert => (s, .now .refusedState [])
  | _ =>
    if s.fire.resetConditions s.uptime then (s.changeStage .normal, .now .done []) else (s, .now .refusedState [])

/-- RESET_FIRE (kind 13, R110). -/
def resetFire (l : Link) (seq : Byte) (payload : List Byte) (s : State) : State :=
  s.serve l ⟨13, seq, payload⟩ (noPayload payload resetFireBlock)

/-- RESET_FIRE. -/
def execResetFire (l : Link) (seq : Byte) (payload : List Byte) (s : State) : Host.Outcome State Fault Refusal :=
  .next (resetFire l seq payload s)

/-! ## READ-FIRE (R114) -/

/-- R114: a loop's candidate: none, or a state with its count (log entry 20). -/
def candidateItems : Option (LoopState × Nat) → List Item
  | none => [.byte 0]
  | some (g, n) => [.byte (g.ctorIdx + 1), num n]

/-- R114: a detector loop: its type, its state, and its candidate with count. -/
def DetectorLoop.items (d : DetectorLoop) (type : LoopType) : List Item :=
  [.byte type.index, .byte d.state.ctorIdx] ++ candidateItems d.candidate

/-- R114: a criterion class. No table lists the values of "recent"; it is sent as the class's "active" is, YES 0 and NO 1, a
DESIGN CHOICE (log entry 20). -/
def Criterion.items (k : Criterion) (now : Nat) : List Item :=
  [yesNo k.active, yesNo (k.recent now), numOr k.activated, numOr k.cleared]

/-- R34, R114: the sensors of a string whose rise flag is PRE or HEAT. -/
def State.risenSensors (s : State) (c : Str) : List (List Item) :=
  (List.finRange 12).flatMap fun a =>
    (List.finRange 4).filterMap fun k =>
      let t := ((s.cells c).sensors[a])[k]
      if t.flag = .none then none
      else some [num (strNumber c), num (Addr.number a), num (k.val + 1), intOr (((s.chain c).modules[a]).sensors[k]),
        intOr t.rise, .byte t.state.ctorIdx, .byte t.flag.ctorIdx]

/-- R114: the content of a READ-FIRE answer, the plant section first; the time left on the isolation timer is in ms and a loop's
type is the working parameter, DESIGN CHOICES (log entry 20). -/
def State.fireItems (s : State) : List Item :=
  let f := s.fire
  s.plantItems
    ++ [.byte f.stage.ctorIdx, num f.entered, numOr f.quietSince, numOr (s.timeLeft f.isolationTimer),
      noYes f.incompleteReported]
    ++ ((List.finRange 8).flatMap fun i => (f.loops[i]).items (s.params.loopTypes[i]))
    ++ [numOr f.gas1.reading, numOr f.gas2.reading]
    ++ fireClasses.flatMap (fun k => (f.criterion k).items s.uptime)
    ++ [codeItem 6 f.panelCode, yesNo f.degraded]
    ++ listOf DetectionItem.items f.counted
    ++ listOf id (s.risenSensors .one ++ s.risenSensors .two)
    ++ [contactItem s.strings.one.mainInput, contactItem s.strings.one.prechargeInput,
      contactItem s.strings.two.mainInput, contactItem s.strings.two.prechargeInput, contactItem s.permit.breaker]
    ++ s.envelope.table.fs.items

/-- READ_FIRE (kind 14, R114). -/
def readFire (l : Link) (seq : Byte) (payload : List Byte) (s : State) : State :=
  s.serve l ⟨14, seq, payload⟩ (noPayload payload fun t => (t, .now .done t.fireItems))

/-- READ_FIRE. -/
def execReadFire (l : Link) (seq : Byte) (payload : List Byte) (s : State) : Host.Outcome State Fault Refusal :=
  .next (readFire l seq payload s)

end Sys2Proof.Machine
end

