-- ==== Sys2Proof/Machine/Dispatch.lean ====
section
/-! DEFINITION. The meaning of every command: one arm for each constructor of `Instr`. -/

namespace Sys2Proof.Machine

/-- The effect of a command on everything but the queue of waiting commands. -/
def exec (i : Instr) (s : State) : Host.Outcome State Fault Refusal :=
  match i with
  | .chainReply c r => Sys2Proof.Machine.execChainReply c r s
  | .replyTimeout c => Sys2Proof.Machine.execReplyTimeout c s
  | .readingAgeTick => Sys2Proof.Machine.execReadingAgeTick s
  | .cycleDue c => Sys2Proof.Machine.execCycleDue c s
  | .unfittedCheck c => Sys2Proof.Machine.execUnfittedCheck c s
  | .probeModule l seq payload => Sys2Proof.Machine.execProbeModule l seq payload s
  | .readCells l seq payload => Sys2Proof.Machine.execReadCells l seq payload s
  | .resetBaseline l seq payload => Sys2Proof.Machine.execResetBaseline l seq payload s
  | .joinString l seq payload => Sys2Proof.Machine.execJoinString l seq payload s
  | .prechargeTimerExpiry c => Sys2Proof.Machine.execPrechargeTimerExpiry c s
  | .releaseString l seq payload => Sys2Proof.Machine.execReleaseString l seq payload s
  | .openingTimerExpiry c => Sys2Proof.Machine.execOpeningTimerExpiry c s
  | .feedbackInputChange c which level => Sys2Proof.Machine.execFeedbackInputChange c which level s
  | .feedbackCheck c => Sys2Proof.Machine.execFeedbackCheck c s
  | .clearLockString l seq payload => Sys2Proof.Machine.execClearLockString l seq payload s
  | .clearLockBreaker l seq payload => Sys2Proof.Machine.execClearLockBreaker l seq payload s
  | .readString l seq payload => Sys2Proof.Machine.execReadString l seq payload s
  | .envelopeTick => Sys2Proof.Machine.execEnvelopeTick s
  | .setCap l seq payload => Sys2Proof.Machine.execSetCap l seq payload s
  | .readEnvelope l seq payload => Sys2Proof.Machine.execReadEnvelope l seq payload s
  | .analogSample inlet outlet container outside => Sys2Proof.Machine.execAnalogSample inlet outlet container outside s
  | .flowSwitchChange level => Sys2Proof.Machine.execFlowSwitchChange level s
  | .flowTimerExpiry => Sys2Proof.Machine.execFlowTimerExpiry s
  | .chillerDwellExpiry g => Sys2Proof.Machine.execChillerDwellExpiry g s
  | .heaterDwellExpiry => Sys2Proof.Machine.execHeaterDwellExpiry s
  | .fireEvaluation loops gas1 gas2 => Sys2Proof.Machine.execFireEvaluation loops gas1 gas2 s
  | .isolationTimerExpiry => Sys2Proof.Machine.execIsolationTimerExpiry s
  | .resetFire l seq payload => Sys2Proof.Machine.execResetFire l seq payload s
  | .readFire l seq payload => Sys2Proof.Machine.execReadFire l seq payload s
  | .readSnapshot l seq payload => Sys2Proof.Machine.execReadSnapshot l seq payload s
  | .clearSnapshots l seq payload => Sys2Proof.Machine.execClearSnapshots l seq payload s
  | .histogramSample => Sys2Proof.Machine.execHistogramSample s
  | .readStats l seq payload => Sys2Proof.Machine.execReadStats l seq payload s
  | .clearStats l seq payload => Sys2Proof.Machine.execClearStats l seq payload s
  | .offer l seq payload => Sys2Proof.Machine.execOffer l seq payload s
  | .agreementRestart l seq payload => Sys2Proof.Machine.execAgreementRestart l seq payload s
  | .minuteBoundary => Sys2Proof.Machine.execMinuteBoundary s
  | .readAgreement l seq payload => Sys2Proof.Machine.execReadAgreement l seq payload s
  | .connect l seq payload => Sys2Proof.Machine.execConnect l seq payload s
  | .breakerFeedbackChange level => Sys2Proof.Machine.execBreakerFeedbackChange level s
  | .closePendingTimerExpiry => Sys2Proof.Machine.execClosePendingTimerExpiry s
  | .disconnect l seq payload => Sys2Proof.Machine.execDisconnect l seq payload s
  | .releaseTimerExpiry => Sys2Proof.Machine.execReleaseTimerExpiry s
  | .permitEvaluation => Sys2Proof.Machine.execPermitEvaluation s
  | .recloseTimerExpiry => Sys2Proof.Machine.execRecloseTimerExpiry s
  | .tripPulseEnd => Sys2Proof.Machine.execTripPulseEnd s
  | .telegram l raw => Sys2Proof.Machine.execTelegram l raw s
  | .statusWord l code => Sys2Proof.Machine.execStatusWord l code s
  | .silenceTimeout l => Sys2Proof.Machine.execSilenceTimeout l s
  | .sendStatusWord l => Sys2Proof.Machine.execSendStatusWord l s
  | .answerSent l => Sys2Proof.Machine.execAnswerSent l s
  | .unknownKind l kind seq payload => Sys2Proof.Machine.execUnknownKind l kind seq payload s
  | .readNotices l seq payload => Sys2Proof.Machine.execReadNotices l seq payload s
  | .setMask l seq payload => Sys2Proof.Machine.execSetMask l seq payload s
  | .setSiteMode l seq payload => Sys2Proof.Machine.execSetSiteMode l seq payload s
  | .setParam l seq payload => Sys2Proof.Machine.execSetParam l seq payload s
  | .readParam l seq payload => Sys2Proof.Machine.execReadParam l seq payload s
  | .commit l seq payload => Sys2Proof.Machine.execCommit l seq payload s
  | .commitComplete => Sys2Proof.Machine.execCommitComplete s
  | .siteReset l seq payload => Sys2Proof.Machine.execSiteReset l seq payload s
  | .siteResetStart => Sys2Proof.Machine.execSiteResetStart s
  | .powerOn => Sys2Proof.Machine.execPowerOn s
  | .resetLineAssert => Sys2Proof.Machine.execResetLineAssert s
  | .resetLineRelease => Sys2Proof.Machine.execResetLineRelease s
  | .startUpLoadComplete => Sys2Proof.Machine.execStartUpLoadComplete s
  | .lossOfSupply => Sys2Proof.Machine.execLossOfSupply s

end Sys2Proof.Machine
end

