-- ==== Sys2Proof/Machine/Step.lean ====
section
/-! DEFINITION. One step of the part: the command at the front of the queue, or a millisecond of uptime where none
waits. -/

namespace Sys2Proof.Machine

/-- What the part does while no command waits: while it runs, a millisecond of uptime passes (log entry 2). -/
def State.idle (s : State) : State :=
  if s.phase = .running then { s with uptime := s.uptime + 1 } else s

/-- One step: the command at the front of the queue is taken and has its effect; with no command waiting the part
idles. -/
def step (s : State) : Host.Outcome State Fault Refusal :=
  match s.pending with
  | [] => .next s.idle
  | c :: rest => exec c { s with pending := rest }

/-- The state with the command that a word spells put at the front of the queue; unchanged where the word spells none,
which is so of every word (Decode.lean). -/
def State.withFetchWord (s : State) (nbits w : Nat) : State :=
  match decodeTableWord nbits w with
  | some c => { s with pending := c :: s.pending }
  | none => s

end Sys2Proof.Machine
end

