-- ==== Sys2Proof/Safety.lean ====
section
/-! DEFINITION. The terms in which claims about the part are stated: which request a command serves, what a request's
payload must be as long as, and the conditions the spec says the part keeps. -/

namespace Sys2Proof.Machine

/-! ## Requests -/

/-- The link and the request of a command that serves a request; none for every other command, and for a form of
CLEAR-LOCK or of an unknown kind that is not its own row's. -/
def requestOf : Instr → Option (Link × Request)
  | .probeModule l n p => some (l, ⟨3, n, p⟩)
  | .readCells l n p => some (l, ⟨2, n, p⟩)
  | .resetBaseline l n p => some (l, ⟨19, n, p⟩)
  | .joinString l n p => some (l, ⟨5, n, p⟩)
  | .releaseString l n p => some (l, ⟨6, n, p⟩)
  | .clearLockString l n p => if p = [0] then none else some (l, ⟨20, n, p⟩)
  | .clearLockBreaker l n p => if p = [0] then some (l, ⟨20, n, p⟩) else none
  | .readString l n p => some (l, ⟨4, n, p⟩)
  | .setCap l n p => some (l, ⟨12, n, p⟩)
  | .readEnvelope l n p => some (l, ⟨1, n, p⟩)
  | .resetFire l n p => some (l, ⟨13, n, p⟩)
  | .readFire l n p => some (l, ⟨14, n, p⟩)
  | .readSnapshot l n p => some (l, ⟨15, n, p⟩)
  | .clearSnapshots l n p => some (l, ⟨16, n, p⟩)
  | .readStats l n p => some (l, ⟨17, n, p⟩)
  | .clearStats l n p => some (l, ⟨18, n, p⟩)
  | .offer l n p => some (l, ⟨7, n, p⟩)
  | .agreementRestart l n p => some (l, ⟨8, n, p⟩)
  | .readAgreement l n p => some (l, ⟨9, n, p⟩)
  | .connect l n p => some (l, ⟨10, n, p⟩)
  | .disconnect l n p => some (l, ⟨11, n, p⟩)
  | .unknownKind l k n p => if knownKind k then none else some (l, ⟨k, n, p⟩)
  | .readNotices l n p => some (l, ⟨21, n, p⟩)
  | .setMask l n p => some (l, ⟨22, n, p⟩)
  | .setSiteMode l n p => some (l, ⟨26, n, p⟩)
  | .setParam l n p => some (l, ⟨23, n, p⟩)
  | .readParam l n p => some (l, ⟨24, n, p⟩)
  | .commit l n p => some (l, ⟨25, n, p⟩)
  | .siteReset l n p => some (l, ⟨27, n, p⟩)
  | .chainReply _ _ | .replyTimeout _ | .readingAgeTick | .cycleDue _ | .unfittedCheck _ | .prechargeTimerExpiry _
  | .openingTimerExpiry _ | .feedbackInputChange _ _ _ | .feedbackCheck _ | .envelopeTick | .analogSample _ _ _ _
  | .flowSwitchChange _ | .flowTimerExpiry | .chillerDwellExpiry _ | .heaterDwellExpiry | .fireEvaluation _ _ _
  | .isolationTimerExpiry | .histogramSample | .minuteBoundary | .breakerFeedbackChange _ | .closePendingTimerExpiry
  | .releaseTimerExpiry | .permitEvaluation | .recloseTimerExpiry | .tripPulseEnd | .telegram _ _ | .statusWord _ _
  | .silenceTimeout _ | .sendStatusWord _ | .answerSent _ | .commitComplete | .siteResetStart | .powerOn
  | .resetLineAssert | .resetLineRelease | .startUpLoadComplete | .lossOfSupply => none

/-- R166: the link can serve the request, and delivers it to its block. -/
abbrev State.delivers (s : State) (l : Link) (r : Request) : Prop :=
  s.canServe l r = true ∧ portRefusal r.kind l s.siteMode = none

/-- R159: the length a SET-PARAM must have: by the form of the parameter its first byte names. -/
def setParamLength : List Byte → Option Nat
  | n :: rest =>
    match paramForm n.toNat, rest with
    | some (.numeric _ _), _ => some 5
    | some .speed, _ => some 5
    | some (.names _), _ => some 2
    | some (.points _ _ _), count :: _ => some (2 + 4 * count.toNat)
    | _, _ => none
  | [] => none

/-- R159: the length an OFFER must have, by the link it arrived on. -/
def offerLength (l : Link) (payload : List Byte) : Option Nat :=
  match l with
  | .cnv => some 8
  | _ => (payload[13]?).map fun count => 14 + 6 * count.toNat

/-- R159: the length the table gives for a kind and a link; none where the payload names no length. -/
def payloadLength (kind : Nat) (l : Link) (payload : List Byte) : Option Nat :=
  if kind = 2 ∨ kind = 3 ∨ kind = 12 ∨ kind = 22 then some 2
  else if kind = 4 ∨ kind = 5 ∨ kind = 6 ∨ kind = 15 ∨ kind = 20 ∨ kind = 24 ∨ kind = 26 then some 1
  else if kind = 7 then offerLength l payload
  else if kind = 19 then some 3
  else if kind = 23 then setParamLength payload
  else some 0

/-! ## Notices and the rest of a link -/

/-- The pending notice of a kind on a link, none where the kind is not pending. -/
def LinkState.notice (k : LinkState) (n : NoticeKind) : Option Posting := k.notices[n.place]

/-- A link with nothing pending: what posting a notice leaves as it was. -/
def LinkState.quiet (k : LinkState) : LinkState :=
  { k with notices := Vector.replicate 10 none }

/-- The links with their notices put aside. -/
def State.quietLinks (s : State) : PerLink LinkState :=
  s.links.mapLinks fun _ k => k.quiet

/-- R167: from `s` to `t` the kind was posted once on every link, with this detail. -/
def State.posts (s t : State) (n : NoticeKind) (d : NoticeDetail) : Prop :=
  ∀ l, (t.link l).notice n = ((s.link l).post n d).notice n

/-! ## The end of a transaction with a module -/

/-- R1, R11, R13, R15, R16: what follows once the outcome `o` of a transaction `x` with module `a` has been applied, from
`u` to `t`. A probe's waiting requests are answered; a scan moves to the next address or completes the cycle, whose next
one becomes due in the same step where its time has come (log entry 10); then the arbiter chooses. -/
structure ModuleEnd (c : Str) (a : Addr) (x : Transaction) (o : ChainOutcome) (u t : State) : Prop where
  /-- R15: the waiting requests of a probe are answered DONE, in order. -/
  probed : x.kind = .probe →
    (∀ l, t.link l = { u.link l with
      out := (u.link l).out ++ (x.waiters.filter fun w => w.link = l).map fun w =>
        ⟨answerKind 3, w.seq, .done, u.probeItems c a o, false⟩ })
    ∧ t = { u with chains := u.chains.mod c fun k => k.arbitrate u.uptime, links := t.links }
  /-- R11: below the last address the scan goes on with the next. -/
  scanned : ∀ h : a.val + 1 < 12, x.kind = .scan → a.number < (u.chain c).range.last →
    t = { u with chains := u.chains.mod c fun k => Chain.arbitrate { k with nextUnit := .module ⟨a.val + 1, h⟩ } u.uptime }
  /-- R11, R13: at the last address the cycle is complete. -/
  completed : ∀ v : State, x.kind = .scan → (u.chain c).range.last ≤ a.number ∨ a.val + 1 = 12 →
    v = State.cycleComplete { u with
      chains := u.chains.mod c fun k => { k with cycle := .waiting, nextUnit := .head, firstDone := true } } c →
    ((∀ d, (u.chain c).nextDue = some d → u.uptime < d) →
      t = { v with chains := v.chains.mod c fun k => k.arbitrate u.uptime })
    ∧ (∀ d, (u.chain c).nextDue = some d → d ≤ u.uptime →
      t = { v.dueMoment c with chains := (v.dueMoment c).chains.mod c fun k => k.arbitrate u.uptime })

/-! ## The computation of GA -/

/-- R138, R140, R141: in `t` the GA fields and the GA row are those that a computation forms from the agreement, the clock,
the head records and the string states of `t`. The count used is held as counted, 0 with no string JOINED (log entry 22). -/
structure GaComputed (t : State) : Prop where
  /-- R140: LAPSED, the fallbacks. -/
  lapsed : t.agreement.state = .lapsed → t.agreement.basisImport = t.params.fallbackImport.toNat
    ∧ t.agreement.basisExport = t.params.fallbackExport.toNat
  /-- R140: NONE, OFFERED and MISMATCH. -/
  unresolved : t.agreement.state ≠ .lapsed → t.agreement.state ≠ .resolved →
    t.agreement.basisImport = 0 ∧ t.agreement.basisExport = 0
  /-- R138, R140: RESOLVED with no schedule in force. -/
  resolved : ∀ x, t.agreement.state = .resolved → t.agreement.resolved = some x →
    t.agreement.clock = none ∨ (∀ o, t.agreement.stnOffer = some o → o.segments = []) →
    t.agreement.basisImport = x.importPower ∧ t.agreement.basisExport = x.exportPower
  /-- R138, R140: RESOLVED under a schedule: the segment in force starts last at or before the clock's minute, or is the last
  of the list where the minute is before every start. -/
  scheduled : ∀ x k o before g after, t.agreement.state = .resolved → t.agreement.resolved = some x →
    t.agreement.clock = some k → t.agreement.stnOffer = some o → o.segments = before ++ g :: after →
    (g.start ≤ k.minute ∧ ∀ h ∈ after, k.minute < h.start) ∨ (after = [] ∧ ∀ h ∈ o.segments, k.minute < h.start) →
    t.agreement.basisImport = min g.importLimit x.importPower ∧ t.agreement.basisExport = min g.exportLimit x.exportPower
  /-- R141: the bus voltage in use with its source, and each string's share of the site current. -/
  share : ∀ (v : Nat) (source : BusSource),
    (v, source) = (if (t.chain .one).head.status = .current then (max 1000 (t.chain .one).head.busVoltage, .head1)
      else if (t.chain .two).head.status = .current then (max 1000 (t.chain .two).head.busVoltage, .head2)
      else (max 1000 t.params.nominalBus.toNat, .nominal)) →
    t.agreement.bus = some (v, source)
    ∧ t.agreement.gaCharge = min 4000 (t.agreement.basisImport * 10000 / v / max 1 t.joinedCount)
    ∧ t.agreement.gaDischarge = min 4000 (t.agreement.basisExport * 10000 / v / max 1 t.joinedCount)
  /-- R141: the number of JOINED strings used. -/
  count : t.agreement.countUsed = some t.joinedCount
  /-- R141: the delivery of the four GA entries. -/
  row : t.envelope.table.ga = .both t.agreement.gaCharge t.agreement.gaDischarge

/-! ## A pass of a fire evaluation -/

/-- R97: what one pass of a fire evaluation makes of the fire unit `f`, as sampled or as the pass before left it: `p` the
parameters, `v` what every pass of the evaluation sees alike, `silent` the PNL link SILENT, `code` the code taken for it. -/
structure FirePass (p : Params) (v : FireView) (silent : Bool) (now : Nat) (code : Option Code) (f g : FireUnit) :
    Prop where
  /-- R97: every pass uses the same samples. -/
  samples : g.loops = f.loops ∧ g.gas1 = f.gas1 ∧ g.gas2 = f.gas2
  /-- R101: the panel code in use. -/
  panelCode : g.panelCode = (match code with
    | some k => some k
    | none => f.panelCode)
  /-- R102: the class GAS. -/
  gas : g.gas.active = true ↔ ∃ ppm : Nat, (f.gas1 = .valid ppm ∨ f.gas2 = .valid ppm) ∧ p.gasHigh ≤ ppm
  /-- R102: the class SMOKE. -/
  smoke : g.smoke.active = true ↔ ∃ i : Fin 8, p.loopTypes[i] = .smoke ∧ (f.loops[i]).state = .alarm
  /-- R102: the class HEAT. -/
  heat : g.heat.active = true ↔ (∃ i : Fin 8, p.loopTypes[i] = .heat ∧ (f.loops[i]).state = .alarm) ∨ v.heatRise = true
  /-- R102: the class PANEL. -/
  panel : g.panel.active = true ↔ g.panelCode = some .panelAlarm
  /-- R102: a class that stays as it is keeps its times; one that changes notes the uptime. -/
  noted : ∀ k, g.criterion k =
    if (g.criterion k).active = (f.criterion k).active then f.criterion k
    else if (g.criterion k).active then { f.criterion k with active := true, activated := some now }
    else { f.criterion k with active := false, cleared := some now }
  /-- R111: the means of detection out of service. -/
  counted : g.counted.Nodup ∧ ∀ i : DetectionItem, i ∈ g.counted ↔ (match i with
    | .loop n => ∃ j : Fin 8, n = j.val + 1 ∧ p.loopTypes[j] ≠ .unused
        ∧ ((f.loops[j]).state = .opened ∨ (f.loops[j]).state = .short)
    | .gas n => (n = 1 ∧ f.gas1 = .fault) ∨ (n = 2 ∧ f.gas2 = .fault)
    | .panelLink => g.panelCode = some .panelFault ∨ silent = true)
  /-- R111: DEGRADED. -/
  degraded : g.degraded = true ↔ 2 ≤ g.counted.length
  /-- R103 to R105, R110: the first row of the table that applies, and quiet since where the stage stays. -/
  stage : ∀ (condition quiet reset : Prop) (active recent : List FireClass),
    (condition ↔ (∃ ppm : Nat, (f.gas1 = .valid ppm ∨ f.gas2 = .valid ppm) ∧ p.gasLow ≤ ppm) ∨ v.anyRise = true
      ∨ g.panelCode = some .ventRequest) →
    (quiet ↔ ∃ x, f.quietSince = some x ∧ x + 30000 ≤ now) →
    (∀ k, k ∈ active ↔ (g.criterion k).active = true) → active.Nodup →
    (∀ k, k ∈ recent ↔ (g.criterion k).active = true ∨ ∃ x, (g.criterion k).cleared = some x ∧ now < x + 120000) →
    recent.Nodup → (reset ↔ code = some .resetRequest ∧ recent = []) →
    (f.stage.fire = false → 2 ≤ recent.length ∨ code = some .suppressionReleased → g.stage = .confirmed)
    ∧ (recent.length < 2 → code ≠ some .suppressionReleased →
      (f.stage = .normal ∨ f.stage = .preAlert → active ≠ [] → g.stage = .alert)
      ∧ (f.stage = .normal → active = [] → condition → g.stage = .preAlert)
      ∧ (f.stage = .normal → active = [] → ¬condition → g.stage = .normal)
      ∧ (f.stage = .preAlert → active = [] → ¬condition → quiet → g.stage = .normal)
      ∧ (f.stage = .preAlert → active = [] → condition ∨ ¬quiet → g.stage = .preAlert)
      ∧ (f.stage = .alert → active = [] → quiet → condition → g.stage = .preAlert)
      ∧ (f.stage = .alert → active = [] → quiet → ¬condition → g.stage = .normal)
      ∧ (f.stage = .alert → active ≠ [] ∨ ¬quiet → g.stage = .alert))
    ∧ (f.stage = .confirmed → v.isolated = true → g.stage = .isolated)
    ∧ (f.stage = .confirmed → v.isolated = false → reset → g.stage = .normal)
    ∧ (f.stage = .confirmed → v.isolated = false → ¬reset → g.stage = .confirmed)
    ∧ (f.stage = .isolated → v.isolated = false → g.stage = .confirmed)
    ∧ (f.stage = .isolated → v.isolated = true → reset → g.stage = .normal)
    ∧ (f.stage = .isolated → v.isolated = true → ¬reset → g.stage = .isolated)
    ∧ (g.stage = f.stage →
      (f.stage = .preAlert → (condition → g.quietSince = none)
        ∧ (¬condition → g.quietSince = some (f.quietSince.getD now)))
      ∧ (f.stage = .alert → (active ≠ [] → g.quietSince = none)
        ∧ (active = [] → g.quietSince = some (f.quietSince.getD now)))
      ∧ (f.stage ≠ .preAlert → f.stage ≠ .alert → g.quietSince = f.quietSince))
  /-- R104, R105, R108: what a change of stage does to the unit's other fields. -/
  changed : g.stage ≠ f.stage → g.entered = now ∧ g.quietSince = none
    ∧ g.isolationTimer = (if g.stage = .confirmed then some (now + 5000) else none)
    ∧ g.incompleteReported = (if g.stage = .confirmed ∨ g.stage = .normal then false else f.incompleteReported)
  /-- R104: without a change of stage they stay. -/
  stays : g.stage = f.stage →
    g.entered = f.entered ∧ g.isolationTimer = f.isolationTimer ∧ g.incompleteReported = f.incompleteReported

/-- R104, R111: the FAULT details that a pass posts: DEGRADED, on its change from NO to YES. -/
def FireUnit.degradedDetails (f g : FireUnit) : List NoticeDetail :=
  if g.degraded ∧ ¬ f.degraded then [.degraded g.counted] else []

/-- R104: the FIRE-STAGE details that a pass posts: one, on a change of stage. -/
def FireUnit.stageDetails (f g : FireUnit) (now : Nat) : List NoticeDetail :=
  if g.stage = f.stage then [] else [.fireStage g.stage f.stage g.activeClasses (g.recentClasses now)]

/-- R167: from `s` to `t` the kind was posted on every link once for each of these details, in this order, and not
otherwise. -/
def State.postsAll (s t : State) (n : NoticeKind) (details : List NoticeDetail) : Prop :=
  ∀ l, (t.link l).notice n = (details.foldl (fun k d => k.post n d) (s.link l)).notice n

/-! ## What the part keeps -/

/-- R68: each published limit is at most the smallest of the six entries of its column, and zero whenever its string is
not JOINED. -/
def State.envelopeBounded (s : State) : Prop :=
  ∀ c, s.envelope.limits.charge c ≤ s.envelope.table.lowest.charge c
    ∧ s.envelope.limits.discharge c ≤ s.envelope.table.lowest.discharge c
    ∧ (s.isJoined c = false → s.envelope.limits.charge c = 0 ∧ s.envelope.limits.discharge c = 0)

/-- R106: while the fire stage is CONFIRMED or ISOLATED every published limit is zero, the permit line is not asserted,
and no string is in PRECHARGE, JOINED or OPENING. -/
def State.fireIsolates (s : State) : Prop :=
  s.fire.stage.fire = true →
    s.envelope.limits = .all 0 ∧ s.permit.line = false
      ∧ s.strings.one.state.apart = true ∧ s.strings.two.state.apart = true

/-- R106 with what the part keeps it by: R68, FS entries of 0, and a permit state that is not connected. -/
structure State.FireKept (s : State) : Prop where
  bounded : s.envelopeBounded
  isolates : s.fireIsolates
  row : s.fire.stage.fire = true → s.envelope.table.fs = .all 0
  permit : s.fire.stage.fire = true → s.permit.state.connected = false

/-- R145: in CLOSE-PENDING and CLOSED at least one string is JOINED and the fire stage is below CONFIRMED; the permit line
is asserted in no other state. -/
def State.permitKept (s : State) : Prop :=
  (s.permit.state.connected = true → s.joinedCount ≥ 1 ∧ s.fire.stage.fire = false)
    ∧ (s.permit.line = true → s.permit.state.connected = true)

/-- R87: stage 2 is never ON while stage 1 is OFF. -/
def Plant.stagesOrdered (q : Plant) : Prop :=
  q.chiller2.on = true → q.chiller1.on = true

/-- R92: the cooling mode is a fire mode, every fan duty is zero and the damper closed in FIRE-HOLD, and both chiller
stages and the heater are off with nothing pending that would bring them on. -/
structure Plant.HeldOff (q : Plant) : Prop where
  mode : q.mode = .fireHold ∨ q.mode = .purge
  fans : q.mode = .fireHold → q.fanDuty = 0 ∧ q.mode.damperOpen = false
  stage1 : q.chiller1.on = false ∧ q.chiller1.request ≠ some true
  stage2 : q.chiller2.on = false ∧ q.chiller2.request ≠ some true
  heater : q.heater.on = false ∧ q.heater.request ≠ some true

/-- R87, R92: what the thermal plant keeps. -/
def State.plantKept (s : State) : Prop :=
  s.plant.stagesOrdered ∧ (s.fire.stage.fire = true → s.plant.HeldOff)

/-- R125: the six bins sum to the sample count, each at most 16777214 (section 7.4). -/
def Histogram.Sound (h : Histogram) : Prop :=
  h.sum = h.count ∧ ∀ i, h.bin i ≤ binMost

/-- R119: the slots are filled in ascending order. -/
def SnapshotStore.Ordered (k : SnapshotStore) : Prop :=
  (k.slot2.isSome = true → k.slot1.isSome = true) ∧ (k.slot3.isSome = true → k.slot2.isSome = true)
    ∧ (k.slot4.isSome = true → k.slot3.isSome = true)

/-- R119, R125: what the record store keeps. -/
def State.recordsKept (s : State) : Prop :=
  s.store.snapshots.Ordered ∧ ∀ c, (s.store.strings.get c).histogram.Sound

/-- R14: a probe queue of at most four entries, no two of the same module, each with one to four waiting requests. -/
def Chain.probesSound (k : Chain) : Prop :=
  k.probes.length ≤ 4 ∧ (k.probes.map ProbeEntry.addr).Nodup
    ∧ ∀ e ∈ k.probes, 1 ≤ e.waiters.length ∧ e.waiters.length ≤ 4

/-- R14, R165: what the probe queues and the request queues keep. -/
def State.queuesKept (s : State) : Prop :=
  (∀ l, (s.link l).queue.length ≤ 4) ∧ ∀ c, (s.chain c).probesSound

/-- R36: a requested balance set holds at most four cells, and none unless the module is CURRENT, its hottest valid sensor
is below the ceiling, and the fire stage is below ALERT. -/
def ModuleRecord.balanceSound (m : ModuleRecord) (ceiling : Int) (stage : FireStage) : Prop :=
  m.requested.length ≤ 4
    ∧ (m.requested ≠ [] → m.status = .current ∧ m.tooHot ceiling = false ∧ stage.alertOrHigher = false)

/-- R36: what the requested balance sets keep; a part in reset or loading has none. -/
def State.balanceKept (s : State) : Prop :=
  (∀ c a, ((s.chain c).modules[(a : Addr)]).balanceSound s.params.balCeiling s.fire.stage)
    ∧ (s.phase ≠ .running → ∀ c a, ((s.chain c).modules[(a : Addr)]).requested = [])

/-- R140: the GA row is zero in NONE, OFFERED and MISMATCH. -/
def State.gaZero (s : State) : Prop :=
  s.agreement.state.lost = true → s.envelope.table.ga = .all 0

/-- R140: while RESOLVED, both parties' offers are held and the power basis exceeds neither's limit in the same
direction. -/
def Agreement.basisSound (a : Agreement) : Prop :=
  a.state = .resolved →
    ∃ cnv stn, a.cnvOffer = some cnv ∧ a.stnOffer = some stn
      ∧ a.basisImport ≤ cnv.importLimit ∧ a.basisImport ≤ stn.importLimit
      ∧ a.basisExport ≤ cnv.exportLimit ∧ a.basisExport ≤ stn.exportLimit

/-- R132: the resolved values of RESOLVED exceed neither party's limits. -/
def Agreement.resolvedSound (a : Agreement) : Prop :=
  a.state = .resolved →
    ∃ cnv stn r, a.cnvOffer = some cnv ∧ a.stnOffer = some stn ∧ a.resolved = some r
      ∧ r.importPower ≤ cnv.importLimit ∧ r.importPower ≤ stn.importLimit
      ∧ r.exportPower ≤ cnv.exportLimit ∧ r.exportPower ≤ stn.exportLimit

/-- R132, R140: what the grid agreement unit keeps. -/
def State.agreementKept (s : State) : Prop :=
  s.gaZero ∧ s.agreement.basisSound ∧ s.agreement.resolvedSound

/-- R45: a string is in PRECHARGE or JOINED only while every fitted module and the head record are CURRENT. -/
def State.unitsCurrent (s : State) (c : Str) : Prop :=
  (s.string c).state.name = .precharge ∨ (s.string c).state.name = .joined → (s.chain c).allCurrent = true

/-- R45 with what the part keeps it by: a scan transaction runs only in a running cycle, a probe addresses a module, the
string of an UNFITTED chain is OPEN or LOCKED with no head reading, and in a part that does not run the string is OPEN or
LOCKED and no transaction is in flight. -/
structure State.UnitsKept (s : State) (c : Str) : Prop where
  current : s.unitsCurrent c
  scan : ∀ x, (s.chain c).inFlight = some x → x.kind = .scan → (s.chain c).cycle = .running
  probe : ∀ x, (s.chain c).inFlight = some x → x.kind = .probe → x.addressed ≠ .head
  unfitted : (s.chain c).cycle = .unfitted → (s.string c).state.apart = true ∧ (s.chain c).head.status ≠ .current
  stopped : s.phase ≠ .running → (s.string c).state.apart = true ∧ (s.chain c).inFlight = none

end Sys2Proof.Machine
end

