-- ==== Sys2Proof/Certificates/Slice0/Obligations.lean ====
section
/-! DEFINITION. The statements for the provers. Each says what a command, a shared operation or the whole part does, for every
state and operands that meet its hypotheses; its docstring names the rules of the spec it rests on. -/

open Sys2Proof Sys2Proof.Machine

/-! ## The whole part -/

/-- One step is `exec` of the command at the front of the queue, on the state with the rest of the queue; on an empty queue
the running part idles for a millisecond of uptime and nothing else changes (the model's choice, log entry 2). -/
def Obligations.StepTakesFrontCommand : Prop :=
  ∀ (s : State) (c : Instr) (rest : List Instr),
    step { s with pending := c :: rest } = exec c { s with pending := rest }
      ∧ (s.phase = .running → step { s with pending := [] } = .next { s with uptime := s.uptime + 1, pending := [] })
      ∧ (s.phase ≠ .running → step { s with pending := [] } = .next { s with pending := [] })

/-- No command faults, is refused or touches the queue of waiting commands: in every state each answers a next state. The
spec names no event that stops the part. -/
def Obligations.EveryCommandAnswersNext : Prop :=
  ∀ (c : Instr) (s : State), ∃ t, exec c s = .next t ∧ t.pending = s.pending

/-- The part right after a power-on reset meets every condition that the invariants below keep. -/
def Obligations.ResetMeetsInvariants : Prop :=
  State.reset.envelopeBounded ∧ State.reset.FireKept ∧ State.reset.permitKept ∧ State.reset.plantKept
    ∧ State.reset.recordsKept ∧ State.reset.queuesKept ∧ State.reset.balanceKept ∧ State.reset.agreementKept
    ∧ ∀ c, State.reset.UnitsKept c

/-! ## Serving requests (chapter 10) -/

/-- R155, R166: a request that its link cannot serve now (not at the head of the queue, an answer being sent or waited for,
a SITE-RESET answered, the part not running) is no event of the part (the model's choice, log entry 1). One that the
permission table or the site mode refuses is answered with the refusal code, and nothing else changes: UNKNOWN-KIND for a
kind that is none of the 27, REFUSED-PORT, REFUSED-STATE. The answer to CONNECT, DISCONNECT and CLEAR-LOCK of the breaker
carries the permit report; the other refusals by port or site mode have no content (the model's choice, log entry 20). It
holds for every command that serves a request. -/
def Obligations.RefusedRequestsChangeNothing : Prop :=
  ∀ (i : Instr) (l : Link) (r : Request) (s : State), requestOf i = some (l, r) →
    (s.canServe l r = false → exec i s = .next s)
      ∧ (∀ code, s.canServe l r = true → portRefusal r.kind l s.siteMode = some code →
          exec i s = .next (s.answerHead l r code
            (if r.kind = 10 ∨ r.kind = 11 ∨ (r.kind = 20 ∧ r.payload = [0]) then s.permitItems else [])))
      ∧ (∀ kind seq payload, i = .unknownKind l kind seq payload → s.canServe l r = true →
          exec i s = .next (s.answerHead l r .unknownKind []))

/-- R159: a delivered request whose payload length differs from the length the table gives for its kind and its link is
answered BAD-FORMAT and changes nothing. The answer has no content, but for the permit report that R155 puts in every answer
to CONNECT and DISCONNECT. What a BAD-FORMAT answer carries follows log entry 20, the model's choice. -/
def Obligations.WrongLengthIsBadFormat : Prop :=
  ∀ (i : Instr) (l : Link) (r : Request) (s : State), requestOf i = some (l, r) → s.delivers l r →
    payloadLength r.kind.toNat l r.payload ≠ some r.payload.length →
    ∃ content, exec i s = .next (s.answerHead l r .badFormat content)
      ∧ (r.kind = 10 ∨ r.kind = 11 → content = s.permitItems)
      ∧ (r.kind ≠ 10 → r.kind ≠ 11 → content = [])

/-- R18, R60, R77, R114, R120, R127, R143, R173: a read in proper form is answered DONE at once with the fields of the
state as it stands, and changes nothing. A string that is not 1 or 2, an address that is not 1 to 12, a slot above 4 and a
parameter number above 57 are BAD-FORMAT. How the fields are laid out in bytes follows log entry 20, the model's choice. -/
def Obligations.ReadsAreAnsweredAtOnce : Prop :=
  ∀ (l : Link) (q b : Byte) (payload : List Byte) (s : State),
    (∀ m n, s.delivers l ⟨2, q, [m, n]⟩ → (m ≠ 1 ∧ m ≠ 2) ∨ n = 0 ∨ 12 < n.toNat →
      exec (.readCells l q [m, n]) s = .next (s.answerHead l ⟨2, q, [m, n]⟩ .badFormat []))
    ∧ (s.delivers l ⟨4, q, [b]⟩ → b ≠ 1 → b ≠ 2 →
      exec (.readString l q [b]) s = .next (s.answerHead l ⟨4, q, [b]⟩ .badFormat []))
    ∧ (s.delivers l ⟨15, q, [b]⟩ → 4 < b.toNat →
      exec (.readSnapshot l q [b]) s = .next (s.answerHead l ⟨15, q, [b]⟩ .badFormat []))
    ∧ (s.delivers l ⟨24, q, [b]⟩ → 57 < b.toNat →
      exec (.readParam l q [b]) s = .next (s.answerHead l ⟨24, q, [b]⟩ .badFormat []))
    ∧ (∀ c a, s.delivers l ⟨2, q, payload⟩ → parseModule payload = some (c, a) →
      exec (.readCells l q payload) s = .next (s.answerHead l ⟨2, q, payload⟩ .done (s.cellItems c a)))
    ∧ (∀ c, s.delivers l ⟨4, q, payload⟩ → parseString payload = some c →
      exec (.readString l q payload) s = .next (s.answerHead l ⟨4, q, payload⟩ .done (s.stringItems c)))
    ∧ (s.delivers l ⟨1, q, []⟩ →
      exec (.readEnvelope l q []) s = .next (s.answerHead l ⟨1, q, []⟩ .done s.envelopeItems))
    ∧ (s.delivers l ⟨14, q, []⟩ →
      exec (.readFire l q []) s = .next (s.answerHead l ⟨14, q, []⟩ .done s.fireItems))
    ∧ (s.delivers l ⟨15, q, [0]⟩ →
      exec (.readSnapshot l q [0]) s = .next (s.answerHead l ⟨15, q, [0]⟩ .done s.store.snapshots.summary))
    ∧ (∀ i : Fin 4, b.toNat = i.val + 1 → s.delivers l ⟨15, q, [b]⟩ →
      exec (.readSnapshot l q [b]) s = .next (s.answerHead l ⟨15, q, [b]⟩ .done
        (slotItems (i.val + 1) (s.store.snapshots.slots.getD i.val none))))
    ∧ (s.delivers l ⟨17, q, []⟩ →
      exec (.readStats l q []) s = .next (s.answerHead l ⟨17, q, []⟩ .done s.statsItems))
    ∧ (s.delivers l ⟨9, q, []⟩ →
      exec (.readAgreement l q []) s = .next (s.answerHead l ⟨9, q, []⟩ .done s.agreementItems))
    ∧ (s.delivers l ⟨24, q, [0]⟩ →
      exec (.readParam l q [0]) s = .next (s.answerHead l ⟨24, q, [0]⟩ .done s.config.statusItems))
    ∧ ∀ f, paramForm b.toNat = some f → s.delivers l ⟨24, q, [b]⟩ →
      exec (.readParam l q [b]) s = .next (s.answerHead l ⟨24, q, [b]⟩ .done (s.config.paramItems b.toNat f))

/-! ## Module chains (chapter 1) -/

/-- R3, R47, R51, R55, R58, R123, R139, R141, R150: a GOOD reply of the head unit to the head's scan transaction. The
values are clamped and stored, the record is CURRENT with no miss and age 0; a charge of current times interval (0 where
the head was not CURRENT, had no reply before, or the interval passes 65535 s) goes to the throughput of the current's
direction and to no other; the next unit is the first address of the range. The string compares the contactor values with
its own inputs, matches into HANDOVER, finishes its opening below 10.0 A or counts an excursion, the fifth of which opens
it; the string and the GA computation act in either order, so an excursion is counted where it is one under the limits
before, and not where it is none under those after. GA is computed where the bus voltage has moved by 1.0 V or was NONE, or
the string left JOINED. The count it used is held as counted, by log entry 22, and a change of the number of JOINED strings
and its GA update are one step, by log entry 25, the model's choices. The modules of the chain and everything of the other
string are as they were. -/
def Obligations.HeadReplyIsStoredAndIntegrated : Prop :=
  ∀ (c : Str) (x : Transaction) (current stringVoltage busVoltage : Int) (main precharge : Contact) (s : State),
    s.phase = .running → (s.chain c).inFlight = some x → x.kind = .scan → x.addressed = .head →
    (s.chain c).range.first ≤ 12 →
    ∃ t, exec (.chainReply c (.head true 0 false current stringVoltage busVoltage main precharge)) s = .next t
      ∧ (t.chain c).head =
          { status := .current, miss := 0, age := 0, lastGood := some s.uptime
            current := max (-6000) (min 6000 current)
            stringVoltage := (max 0 (min 10000 stringVoltage)).toNat
            busVoltage := (max 0 (min 10000 busVoltage)).toNat
            main := main, precharge := precharge }
      ∧ (t.chain c).modules = (s.chain c).modules
      ∧ (t.chain c).nextUnit = .module ⟨min 11 ((s.chain c).range.first - 1), by omega⟩
      ∧ (∀ interval, interval =
            (match (s.chain c).head.lastGood with
            | some g => if (s.chain c).head.status = .current ∧ s.uptime - g ≤ 65535000 then s.uptime - g else 0
            | none => 0) →
          let old := s.store.strings.get c
          let new := t.store.strings.get c
          let i : Int := max (-6000) (min 6000 current)
          let charge := i.natAbs * interval
          (0 < i → interval ≠ 0 →
            new.chargeThroughput = min 4294967295 (old.chargeThroughput + (old.chargeResidue + charge) / 3600000)
              ∧ new.chargeResidue = (old.chargeResidue + charge) % 3600000)
          ∧ (i ≤ 0 ∨ interval = 0 →
            new.chargeThroughput = old.chargeThroughput ∧ new.chargeResidue = old.chargeResidue)
          ∧ (i < 0 → interval ≠ 0 →
            new.dischargeThroughput = min 4294967295 (old.dischargeThroughput + (old.dischargeResidue + charge) / 3600000)
              ∧ new.dischargeResidue = (old.dischargeResidue + charge) % 3600000)
          ∧ (0 ≤ i ∨ interval = 0 →
            new.dischargeThroughput = old.dischargeThroughput ∧ new.dischargeResidue = old.dischargeResidue))
      ∧ (∀ (k : StringController) (h : HeadRecord) (old new : StringStats), k = s.string c → h = (t.chain c).head →
          old = s.store.strings.get c → new = t.store.strings.get c →
          (t.string c).mainInput = k.mainInput ∧ (t.string c).prechargeInput = k.prechargeInput
          ∧ ((t.string c).disagreement = true ↔ main ≠ k.mainInput ∨ precharge ≠ k.prechargeInput)
          ∧ (main ≠ k.mainInput ∨ precharge ≠ k.prechargeInput → k.disagreement = false →
            s.posts t .fault (.feedbackDisagree c main precharge k.mainInput k.prechargeInput))
          ∧ ((main = k.mainInput ∧ precharge = k.prechargeInput) ∨ k.disagreement = true →
            ∀ l, (t.link l).notice .fault = (s.link l).notice .fault)
          ∧ (k.state ≠ .joined →
            (t.string c).excursions = k.excursions ∧ new.excursions = old.excursions ∧ new.trips = old.trips)
          ∧ (∀ e, k.state = .precharge (.matching e) →
            (|(h.stringVoltage : Int) - h.busVoltage| ≤ s.params.matchWindow →
              (t.string c).state = .precharge .handover ∧ (t.string c).check = some (s.uptime + 200))
            ∧ (s.params.matchWindow < |(h.stringVoltage : Int) - h.busVoltage| →
              (t.string c).state = k.state ∧ (t.string c).check = k.check))
          ∧ (∀ e x, k.state = .opening e x →
            (|h.current| < 100 → (t.string c).state = e.state ∧ (t.string c).check = some (s.uptime + 200)
              ∧ s.posts t .stringState (.string c e.state.name e.state.cause))
            ∧ (100 ≤ |h.current| → (t.string c).state = k.state ∧ (t.string c).check = k.check))
          ∧ (k.state = .opened ∨ k.state = .precharge .handover ∨ (∃ cause, k.state = .locked cause) →
            (t.string c).state = k.state ∧ (t.string c).check = k.check)
          ∧ ∀ excursion : Row → Prop,
            (∀ r, excursion r ↔ (r.charge c + max 50 (r.charge c / 10) : Nat) < h.current
              ∨ (r.discharge c + max 50 (r.discharge c / 10) : Nat) < -h.current) →
            (k.state = .joined → excursion s.envelope.limits → k.excursions < 4 →
              (t.string c).state = .joined ∧ (t.string c).excursions = k.excursions + 1
                ∧ new.excursions = min 4294967295 (old.excursions + 1) ∧ new.trips = old.trips)
            ∧ (k.state = .joined → excursion s.envelope.limits → 4 ≤ k.excursions →
              (t.string c).state = .opening (.locked .excursion) (s.uptime + 2000) ∧ (t.string c).excursions = 0
                ∧ new.excursions = min 4294967295 (old.excursions + 1) ∧ new.trips = old.trips.count .excursion
                ∧ s.posts t .stringState (.string c .opening none))
            ∧ (k.state = .joined → ¬excursion t.envelope.limits →
              (t.string c).state = .joined ∧ (t.string c).excursions = 0
                ∧ new.excursions = old.excursions ∧ new.trips = old.trips))
      ∧ (∀ (v : Nat) (source : BusSource) (moved : Prop),
          (v, source) = (if (t.chain .one).head.status = .current then (max 1000 (t.chain .one).head.busVoltage, .head1)
            else if (t.chain .two).head.status = .current then (max 1000 (t.chain .two).head.busVoltage, .head2)
            else (max 1000 s.params.nominalBus.toNat, .nominal)) →
          (moved ↔ ∀ before, s.agreement.bus.map Prod.fst = some before → before + 10 ≤ v ∨ v + 10 ≤ before) →
          (moved ∨ t.joinedCount ≠ s.joinedCount →
            t.agreement = { s.agreement with
              basisImport := s.powerBasis.1, basisExport := s.powerBasis.2
              bus := some (v, source), countUsed := some t.joinedCount
              gaCharge := min 4000 (s.powerBasis.1 * 10000 / v / max 1 t.joinedCount)
              gaDischarge := min 4000 (s.powerBasis.2 * 10000 / v / max 1 t.joinedCount) }
            ∧ t.envelope.table = { s.envelope.table with ga := .both t.agreement.gaCharge t.agreement.gaDischarge })
          ∧ (¬moved → t.joinedCount = s.joinedCount →
            t.agreement = s.agreement ∧ t.envelope.table = s.envelope.table))
      ∧ (t.joinedCount ≠ 0 ∨ s.permit.state.connected = false → t.permit = s.permit)
      ∧ (s.joinedCount ≠ 0 → t.joinedCount = 0 → t.permit.state.connected = false)
      ∧ (∀ d, d ≠ c → t.chain d = s.chain d ∧ t.string d = s.string d ∧ t.store.strings.get d = s.store.strings.get d)
      ∧ ∃ chains strings envelope agreement permit links stats choices,
          t = { s with
            chains := chains, strings := strings, envelope := envelope, agreement := agreement, permit := permit
            links := links, store := { s.store with strings := stats }, choices := choices }

/-- R1, R4, R9, R11, R15, R16, R20, R35 to R37: a GOOD reply of a fitted module, to its probe or to its scan. The cells and
sensors are stored, marked INVALID or SENSOR-FAULT where they are out of range, with the reported set; the record is
CURRENT with no miss and age 0; the module's four sensors are evaluated and no other sensor is. The requested set is the
balancing selection: empty where no sensor is valid, the hottest is at or above the ceiling, the stage is ALERT or higher,
or a cell of a fitted module is INVALID; otherwise the four highest cells above both the string minimum plus the window and
the floor, the lower number first between equals. A cell INVALID in this reply empties the set of every fitted module; no
other record changes. Then the transaction ends as ModuleEnd says: a probe's requests are answered DONE; a scan goes on
with the next address or, at the last, completes the cycle; and the arbiter chooses: a waiting probe after a scan or
outside a running cycle, else the scan's next unit. Nothing else changes. A probe whose module is no longer fitted changes
no record and answers its requests REFUSED-STATE. That the next cycle may become due in the same step is log entry 10, and
that such a probe runs to its end log entry 11, both inferences. -/
def Obligations.ModuleReplyIsStored : Prop :=
  (∀ (k : Chain) (now : Nat) (set : ChainUnit → List Nat), set .head = [] →
    (∀ a, set (.module a) = (k.modules[a]).requested) →
    (∀ e rest, k.probes = e :: rest → k.lastKind = some .scan ∨ k.cycle ≠ .running → k.arbitrate now = { k with
      probes := rest, lastKind := some .probe
      inFlight := some ⟨.probe, .module e.addr, e.waiters, set (.module e.addr), now + 4⟩ })
    ∧ (k.cycle = .running → k.probes = [] ∨ k.lastKind ≠ some .scan → k.arbitrate now = { k with
      lastKind := some .scan, inFlight := some ⟨.scan, k.nextUnit, [], set k.nextUnit, now + 4⟩ })
    ∧ (k.probes = [] → k.cycle ≠ .running → k.arbitrate now = k))
  ∧ (∀ (c : Str) (a : Addr) (x : Transaction) (fault : Bool) (cells : Vector Nat 16) (sensors : Vector Int 4)
      (applied : List Nat) (s : State),
    s.phase = .running → (s.chain c).inFlight = some x → x.kind = .probe → x.addressed = .module a →
    (s.chain c).fitted a = false →
    ∃ t, exec (.chainReply c (.module true a.number fault cells sensors applied)) s = .next t
      ∧ (∀ l, t.link l = { s.link l with
          out := (s.link l).out ++ (x.waiters.filter fun w => w.link = l).map fun w =>
            ⟨answerKind 3, w.seq, .refusedState, [], false⟩ })
      ∧ t = { s with
          chains := s.chains.mod c fun k => Chain.arbitrate { k with inFlight := none } s.uptime, links := t.links })
  ∧ ∀ (c : Str) (a : Addr) (x : Transaction) (cells : Vector Nat 16) (sensors : Vector Int 4) (applied : List Nat)
    (s : State),
    s.phase = .running → (s.chain c).inFlight = some x → x.addressed = .module a →
    (s.chain c).fitted a = true →
    ∃ u t, exec (.chainReply c (.module true a.number false cells sensors applied)) s = .next t
      ∧ ((u.chain c).modules[a]).status = .current ∧ ((u.chain c).modules[a]).miss = 0
      ∧ ((u.chain c).modules[a]).age = 0
      ∧ ((u.chain c).modules[a]).cells = vmap (fun v => if v ≤ 5000 then some v else none) cells
      ∧ ((u.chain c).modules[a]).sensors = vmap (fun v => if -400 ≤ v ∧ v ≤ 1500 then some v else none) sensors
      ∧ ((u.chain c).modules[a]).applied = (List.range' 1 16).filter (fun n => applied.contains n)
      ∧ ((u.chain c).modules[a]).requested.length ≤ 4
      ∧ (((u.chain c).modules[a]).hottest = none
          ∨ (∃ x, ((u.chain c).modules[a]).hottest = some x ∧ s.params.balCeiling ≤ x)
          ∨ s.fire.stage = .alert ∨ s.fire.stage.fire = true
          ∨ (∃ b : Addr, (s.chain c).fitted b = true ∧ ∃ j : Fin 16, ((u.chain c).modules[b]).cells[j] = none) →
        ((u.chain c).modules[a]).requested = [])
      ∧ (∀ x, ((u.chain c).modules[a]).hottest = some x → x < s.params.balCeiling →
          s.fire.stage = .normal ∨ s.fire.stage = .preAlert →
          (∀ b : Addr, (s.chain c).fitted b = true → ∀ j : Fin 16, ((u.chain c).modules[b]).cells[j] ≠ none) →
          ∀ (low : Nat) (candidate : Fin 16 → Nat → Prop) (better : Fin 16 → Nat → List (Fin 16)),
          (∃ b : Addr, (s.chain c).fitted b = true ∧ ((u.chain c).modules[b]).status = .current
            ∧ ∃ j : Fin 16, ((u.chain c).modules[b]).cells[j] = some low) →
          (∀ b : Addr, (s.chain c).fitted b = true → ((u.chain c).modules[b]).status = .current →
            ∀ (j : Fin 16) (v : Nat), ((u.chain c).modules[b]).cells[j] = some v → low ≤ v) →
          (∀ j v, candidate j v ↔ ((u.chain c).modules[a]).cells[j] = some v
            ∧ low + s.params.balWindow < v ∧ s.params.balFloor < v) →
          (∀ j v, (better j v).Nodup
            ∧ ∀ i, i ∈ better j v ↔ ∃ w, candidate i w ∧ (v < w ∨ (v = w ∧ i < j))) →
          ((u.chain c).modules[a]).requested.Pairwise (· < ·)
          ∧ ∀ n, n ∈ ((u.chain c).modules[a]).requested ↔
            ∃ (j : Fin 16) (v : Nat), n = j.val + 1 ∧ candidate j v ∧ (better j v).length < 4)
      ∧ (∀ k : Fin 4, (((u.cells c).sensors[a])[k]) =
          (((s.cells c).sensors[a])[k]).evaluate s.params (((u.chain c).modules[a]).sensors[k]))
      ∧ (∀ b : Addr, b ≠ a → (u.cells c).sensors[b] = (s.cells c).sensors[b]
          ∧ (u.chain c).modules[b] =
            (if (∃ j : Fin 16, 5000 < cells[j]) ∧ (s.chain c).fitted b = true then
              { (s.chain c).modules[b] with requested := [] }
            else (s.chain c).modules[b]))
      ∧ (∀ d, d ≠ c → u.chain d = s.chain d ∧ u.cells d = s.cells d)
      ∧ u.chain c = { s.chain c with inFlight := none, modules := (u.chain c).modules }
      ∧ u.cells c = { s.cells c with sensors := (u.cells c).sensors }
      ∧ u = { s with chains := u.chains, supervision := u.supervision }
      ∧ ModuleEnd c a x .good u t

/-- R1 to R5, R7 to R9, R11, R15, R16, R53: a transaction that does not end GOOD. The reply timeout of a probe or a scan of
a fitted module: the MISS is counted in the chain misses; the module's miss count rises by one up to 3; at 3 it is STALE,
its requested set emptied, and unless it was STALE before FAULT is posted and a JOINED string starts to open with end state
OPEN. A reply with a self-test fault is FAULTED: the module is FAILED with no miss, its set emptied, and unless it was
FAILED before the same follows; no MISS is counted. No reading changes. Then the transaction ends as ModuleEnd says: a
probe's requests are answered DONE, MISSED or REPLIED, a scan goes on or completes the cycle, and the arbiter chooses. The
head unit in its scan transaction goes the same two ways. A reply with a wrong CRC, or of another unit, is a MISS: it ends
the transaction as a timeout at that moment would. The MISS of a probe whose module is no longer fitted is counted, changes
no record and answers its requests REFUSED-STATE; that such a probe runs to its end is log entry 11, an inference. With no
transaction in flight a timeout or a reply is ignored. The time it sets follows log entry 2, the model's choice; that the
next cycle may become due in the same step is log entry 10, an inference. -/
def Obligations.TimeoutCountsAMiss : Prop :=
  ∀ (c : Str) (s : State), s.phase = .running →
    (∀ r, (s.chain c).inFlight = none → exec (.chainReply c r) s = .next s ∧ exec (.replyTimeout c) s = .next s)
    ∧ (∀ (x : Transaction) (r : Reply), (s.chain c).inFlight = some x →
      (match r with
        | .head crc n .. => crc = false ∨ n ≠ 0 ∨ x.addressed ≠ .head
        | .module crc n .. => crc = false ∨ ∀ a : Addr, n = a.number → x.addressed ≠ .module a) →
      exec (.chainReply c r) s = exec (.replyTimeout c) { s with
        chains := s.chains.mod c fun k => { k with inFlight := some { x with timeout := s.uptime } } })
    ∧ (∀ (a : Addr) (x : Transaction), (s.chain c).inFlight = some x → x.kind = .probe → x.addressed = .module a →
      (s.chain c).fitted a = false →
      ∃ t, exec (.replyTimeout c) s = .next t
        ∧ (∀ l, t.link l = { s.link l with
            out := (s.link l).out ++ (x.waiters.filter fun w => w.link = l).map fun w =>
              ⟨answerKind 3, w.seq, .refusedState, [], false⟩ })
        ∧ t = { s with
            uptime := max s.uptime x.timeout
            chains := s.chains.mod c fun k => Chain.arbitrate { k with inFlight := none } (max s.uptime x.timeout)
            links := t.links
            store := { s.store with strings := s.store.strings.mod c fun n =>
              { n with chainMisses := min 4294967295 (n.chainMisses + 1) } } })
    ∧ (∀ (a : Addr) (x : Transaction) (cells : Vector Nat 16) (sensors : Vector Int 4) (applied : List Nat),
      (s.chain c).inFlight = some x → x.addressed = .module a → (s.chain c).fitted a = true →
      ∀ old, old = (s.chain c).modules[a] →
      ∃ u t, exec (.chainReply c (.module true a.number true cells sensors applied)) s = .next t
        ∧ (u.chain c).modules[a] = { old with status := .failed, miss := 0, requested := [] }
        ∧ (∀ b : Addr, b ≠ a → (u.chain c).modules[b] = (s.chain c).modules[b])
        ∧ u.chain c = { s.chain c with inFlight := none, modules := (u.chain c).modules }
        ∧ (old.status = .failed → u.strings = s.strings ∧ u.links = s.links)
        ∧ (old.status ≠ .failed → s.posts u .fault (.unitLoss c (.module a) .failed)
            ∧ ((s.string c).state = .joined → (u.string c).state = .opening .opened (s.uptime + 2000)))
        ∧ (∀ l, (u.link l).out = (s.link l).out)
        ∧ (∀ d, d ≠ c → u.chain d = s.chain d ∧ u.string d = s.string d)
        ∧ u = { s with
            chains := u.chains, strings := u.strings, envelope := u.envelope, agreement := u.agreement
            permit := u.permit, links := u.links, choices := u.choices }
        ∧ ModuleEnd c a x .faulted u t)
    ∧ (∀ x : Transaction, (s.chain c).inFlight = some x → x.kind = .scan → x.addressed = .head →
      (s.chain c).range.first ≤ 12 → ∀ old, old = (s.chain c).head →
      (∀ current stringVoltage busVoltage main precharge,
        ∃ t, exec (.chainReply c (.head true 0 true current stringVoltage busVoltage main precharge)) s = .next t
          ∧ (t.chain c).head = { old with status := .failed, miss := 0 } ∧ (t.chain c).modules = (s.chain c).modules
          ∧ t.store = s.store ∧ (old.status = .failed → t.strings = s.strings)
          ∧ (old.status ≠ .failed → s.posts t .fault (.unitLoss c .head .failed)
            ∧ ((s.string c).state = .joined → (t.string c).state = .opening .opened (s.uptime + 2000))))
      ∧ ∃ t, exec (.replyTimeout c) s = .next t
        ∧ (t.chain c).head = { old with
            status := if old.miss + 1 < 3 then old.status else .stale, miss := min 3 (old.miss + 1) }
        ∧ (t.chain c).modules = (s.chain c).modules
        ∧ (t.store.strings.get c).chainMisses = min 4294967295 ((s.store.strings.get c).chainMisses + 1)
        ∧ (old.miss + 1 < 3 ∨ old.status = .stale → t.strings = s.strings)
        ∧ (3 ≤ old.miss + 1 → old.status ≠ .stale → s.posts t .fault (.unitLoss c .head .stale)
          ∧ ((s.string c).state = .joined → (t.string c).state = .opening .opened (t.uptime + 2000))))
    ∧ ∀ (a : Addr) (x : Transaction),
      (s.chain c).inFlight = some x → x.addressed = .module a → (s.chain c).fitted a = true →
      ∀ old, old = (s.chain c).modules[a] →
      ∃ u t, exec (.replyTimeout c) s = .next t
        ∧ (∀ new, new = (u.chain c).modules[a] →
            new.cells = old.cells ∧ new.sensors = old.sensors ∧ new.applied = old.applied ∧ new.age = old.age
            ∧ new.miss = min 3 (old.miss + 1)
            ∧ new.status = (if old.miss + 1 < 3 then old.status else .stale)
            ∧ (new.status = .stale ∨ new.status = .failed → new.requested = [])
            ∧ (new.status = .current ∨ new.status = .notYetRead → new.requested = old.requested))
        ∧ (∀ b : Addr, b ≠ a → (u.chain c).modules[b] = (s.chain c).modules[b])
        ∧ u.chain c = { s.chain c with inFlight := none, modules := (u.chain c).modules }
        ∧ (old.miss + 1 < 3 ∨ old.status = .stale → u.strings = s.strings ∧ u.links = s.links)
        ∧ (3 ≤ old.miss + 1 → old.status ≠ .stale → s.posts u .fault (.unitLoss c (.module a) .stale)
            ∧ ((s.string c).state = .joined → (u.string c).state = .opening .opened (u.uptime + 2000)))
        ∧ (∀ l, (u.link l).out = (s.link l).out)
        ∧ (∀ d, d ≠ c → u.chain d = s.chain d ∧ u.string d = s.string d)
        ∧ u = { s with
            uptime := max s.uptime x.timeout
            chains := u.chains, strings := u.strings, envelope := u.envelope, agreement := u.agreement
            permit := u.permit, links := u.links, choices := u.choices
            store := { s.store with strings := s.store.strings.mod c fun n =>
              { n with chainMisses := min 4294967295 (n.chainMisses + 1) } } }
        ∧ ModuleEnd c a x .miss u t

/-- R6: each second the reading age of the head record of a chain that is not UNFITTED and of every fitted module record
rises by one, up to 65535; no other age and nothing else of a record changes. The time it sets follows log entry 2, the
model's choice. -/
def Obligations.ReadingAgesCountSeconds : Prop :=
  ∀ s : State, s.phase = .running →
    ∃ t, exec .readingAgeTick s = .next t
      ∧ t = { s with
          uptime := max s.uptime s.clocks.age
          clocks := { s.clocks with age := s.clocks.age + 1000 }
          chains := t.chains }
      ∧ ∀ c, t.chain c = { s.chain c with head := (t.chain c).head, modules := (t.chain c).modules }
          ∧ (t.chain c).head = { (s.chain c).head with
              age := if (s.chain c).cycle = .unfitted then (s.chain c).head.age
                else min 65535 ((s.chain c).head.age + 1) }
          ∧ ∀ a : Addr, (t.chain c).modules[a] = { (s.chain c).modules[a] with
              age := if (s.chain c).fitted a then min 65535 (((s.chain c).modules[a]).age + 1)
                else ((s.chain c).modules[a]).age }

/-- R9 to R13, R17: a cycle becomes due on a waiting chain whose range stays in force and which stays fitted (the string is
named and the range configured, or the string is not OPEN or LOCKED). The cycle runs from the head with the cadence that the
fire stage, the rise flags and the string state give, the next due time one interval on, and an idle chain starts the head
transaction at once. Nothing else changes. The time it sets follows log entry 2, the model's choice. -/
def Obligations.DueCycleStarts : Prop :=
  ∀ (c : Str) (d : Nat) (s : State),
    s.phase = .running → (s.chain c).cycle = .waiting → (s.chain c).nextDue = some d →
    (s.params.range = (s.chain c).range ∧ s.params.fitted.names c = true) ∨ (s.string c).state.apart = false →
    ∀ (now : Nat) (cadence : Cadence) (interval : Nat),
      now = max s.uptime d →
      cadence = (if s.fire.stage ≠ .normal ∨ (s.cells c).anyRise = true then .watch
        else if (s.string c).state.apart then .quiet else .active) →
      interval = (match cadence with
        | .watch => 250
        | .active => 1000
        | .quiet => 5000) →
      exec (.cycleDue c) s = .next { s with
        uptime := now
        chains := s.chains.mod c fun k =>
          { k with
            cycle := .running, cadence := cadence, nextUnit := .head, due := some now
            nextDue := some (now + interval), unfittedCheck := none
            inFlight := if k.inFlight = none then some ⟨.scan, .head, [], [], now + 4⟩ else k.inFlight
            lastKind := if k.inFlight = none then some .scan else k.lastKind } }

/-- R9, R10, R33: at a due moment of an OPEN or LOCKED string a new range comes into force, and the records and sensors of
the addresses that leave it are cleared, their probe entries removed; a string that is not named makes its chain UNFITTED,
with every record cleared. While UNFITTED the check comes every 5000 ms, and a string then named makes a cycle due at once.
That an UNFITTED chain has no next due time, and that its 5000 ms run from the entry and from each check, is log entry 9, an
inference; the time it sets follows log entry 2, the model's choice. -/
def Obligations.RangeAndFittedTakeForce : Prop :=
  ∀ (c : Str) (d : Nat) (s : State), s.phase = .running → ∀ now, now = max s.uptime d →
    ((s.chain c).cycle = .waiting → (s.chain c).nextDue = some d → (s.string c).state.apart = true →
      s.params.range ≠ (s.chain c).range → s.params.fitted.names c = true →
      ∀ leaves : Addr → Bool, (∀ a, leaves a = ((s.chain c).fitted a
          && !(decide (s.params.range.first ≤ a.number) && decide (a.number ≤ s.params.range.last)))) →
        ∃ t, exec (.cycleDue c) s = .next t
          ∧ t = { s with uptime := now, chains := t.chains, supervision := t.supervision, links := t.links }
          ∧ (t.chain c).range = s.params.range ∧ (t.chain c).cycle = .running
          ∧ (∀ a : Addr, (t.chain c).modules[a] = if leaves a then .cleared else (s.chain c).modules[a])
          ∧ (∀ (a : Addr) (k : Fin 4), ((t.cells c).sensors[a])[k]
              = if leaves a then .unset else ((s.cells c).sensors[a])[k])
          ∧ (t.chain c).probes = (s.chain c).probes.filter (fun e => !leaves e.addr)
          ∧ ∀ l, t.link l = { s.link l with
              out := (s.link l).out ++
                (((((s.chain c).probes.filter fun e => leaves e.addr).flatMap ProbeEntry.waiters).filter
                  fun w => w.link = l).map fun w => ⟨answerKind 3, w.seq, .refusedState, [], false⟩) })
    ∧ ((s.chain c).cycle = .waiting → (s.chain c).nextDue = some d → (s.string c).state.apart = true →
      s.params.fitted.names c = false →
        ∃ t, exec (.cycleDue c) s = .next t
          ∧ t = { s with uptime := now, chains := t.chains, supervision := t.supervision, links := t.links }
          ∧ (t.chain c).cycle = .unfitted ∧ (t.chain c).nextDue = none
          ∧ (t.chain c).unfittedCheck = some (now + 5000)
          ∧ (t.chain c).head = .cleared ∧ (∀ a : Addr, (t.chain c).modules[a] = .cleared)
          ∧ (∀ (a : Addr) (k : Fin 4), ((t.cells c).sensors[a])[k] = .unset)
          ∧ (t.chain c).probes = [] ∧ (t.chain c).inFlight = (s.chain c).inFlight
          ∧ (t.chain c).firstDone = (s.chain c).firstDone)
    ∧ ((s.chain c).cycle = .unfitted → (s.chain c).unfittedCheck = some d → s.params.fitted.names c = false →
        exec (.unfittedCheck c) s = .next { s with
          uptime := now
          chains := s.chains.mod c fun k => { k with unfittedCheck := some (d + 5000) } })
    ∧ ((s.chain c).cycle = .unfitted → (s.chain c).unfittedCheck = some d → s.params.fitted.names c = true →
        ∃ t, exec (.unfittedCheck c) s = .next t
          ∧ t = { s with uptime := now, chains := t.chains, supervision := t.supervision, links := t.links }
          ∧ (t.chain c).cycle = .running ∧ (t.chain c).due = some now ∧ (t.chain c).unfittedCheck = none
          ∧ ((s.chain c).inFlight = none → (t.chain c).inFlight = some ⟨.scan, .head, [], [], now + 4⟩))

/-- R14, R17: the cases of PROBE-MODULE. A string that is not 1 or 2, or an address that is not 1 to 12, is BAD-FORMAT. A
module that is not fitted is REFUSED-STATE; a request for a queued module joins its entry while that holds fewer than four
requests, and is BUSY otherwise; a new module takes a new entry while the queue holds fewer than four, and is BUSY
otherwise; on an idle chain with an empty queue the probe starts at once. A request taken leaves the link's queue at its
delivery, without an answer. -/
def Obligations.ProbeModuleIsQueuedOrRefused : Prop :=
  (∀ (l : Link) (q m n : Byte) (s : State), s.delivers l ⟨3, q, [m, n]⟩ → (m ≠ 1 ∧ m ≠ 2) ∨ n = 0 ∨ 12 < n.toNat →
    exec (.probeModule l q [m, n]) s = .next (s.answerHead l ⟨3, q, [m, n]⟩ .badFormat []))
  ∧ ∀ (l : Link) (q m n : Byte) (payload : List Byte) (c : Str) (a : Addr) (s : State),
    s.delivers l ⟨3, q, payload⟩ → payload = [m, n] → m.toNat = (if c = .one then 1 else 2) → n.toNat = a.val + 1 →
    ∀ (k : Chain) (taken : PerLink LinkState), k = s.chain c →
      taken = s.links.mod l (fun j => { j with queue := j.queue.drop 1 }) →
    (k.fitted a = false →
      exec (.probeModule l q payload) s = .next (s.answerHead l ⟨3, q, payload⟩ .refusedState []))
    ∧ (∀ e, k.fitted a = true → k.probes.find? (fun e => e.addr == a) = some e → e.waiters.length < 4 →
      exec (.probeModule l q payload) s = .next { s with
        links := taken
        chains := s.chains.mod c fun k => { k with
          probes := k.probes.map fun e => if e.addr = a then { e with waiters := e.waiters ++ [⟨l, q⟩] } else e } })
    ∧ (∀ e, k.fitted a = true → k.probes.find? (fun e => e.addr == a) = some e → 4 ≤ e.waiters.length →
      exec (.probeModule l q payload) s = .next (s.answerHead l ⟨3, q, payload⟩ .busy []))
    ∧ (k.fitted a = true → k.probes.find? (fun e => e.addr == a) = none → 4 ≤ k.probes.length →
      exec (.probeModule l q payload) s = .next (s.answerHead l ⟨3, q, payload⟩ .busy []))
    ∧ (k.fitted a = true → k.probes.find? (fun e => e.addr == a) = none → k.probes.length < 4 → k.inFlight ≠ none →
      exec (.probeModule l q payload) s = .next { s with
        links := taken
        chains := s.chains.mod c fun k => { k with probes := k.probes ++ [⟨a, [⟨l, q⟩]⟩] } })
    ∧ (k.fitted a = true → k.probes = [] → k.inFlight = none →
      exec (.probeModule l q payload) s = .next { s with
        links := taken
        chains := s.chains.mod c fun k => { k with
          inFlight := some ⟨.probe, .module a, [⟨l, q⟩], (k.modules[a]).requested, s.uptime + 4⟩
          lastKind := some .probe } })

/-- R14, R165: from every state in which they hold, a step keeps: each link's request queue holds at most four requests;
each probe queue holds at most four entries, no two for the same module, each with one to four waiting requests. -/
def Obligations.StepKeepsQueues : Prop :=
  ∀ s t : State, s.queuesKept → step s = .next t → t.queuesKept

/-- R45: from every state in which it holds of a string, a step keeps that the string is in PRECHARGE or JOINED only while
every fitted module and the head record are CURRENT, with what the part keeps it by. -/
def Obligations.StepKeepsUnitsCurrent : Prop :=
  ∀ (c : Str) (s t : State), s.UnitsKept c → step s = .next t → t.UnitsKept c

/-! ## Cell supervision (chapter 2) -/

/-- R28, R29, with R27, R30 and R31: the evaluation of a sensor. A TRACKING sensor moves its baseline by the truncated part
of the distance, takes the rise against the new baseline and freezes at the pre-alert threshold. An UNSET sensor forms its
baseline from the reading, a FROZEN one keeps it and tracks again below half the threshold, a SENSOR-FAULT leaves baseline
and state alone. The flag of a valid reading follows from its rise and the absolute level. -/
def Obligations.SensorRules : Prop :=
  ∀ (p : Params) (k : SensorTrack) (x : Int),
    (∀ b r, k.state = .tracking → b = k.baseline + Int.tdiv (16 * x - k.baseline) (2 ^ p.filterShift.toNat) →
      r = x - Int.fdiv b 16 →
      (k.evaluate p (some x)).baseline = b ∧ (k.evaluate p (some x)).rise = some r
        ∧ (k.evaluate p (some x)).state = (if p.preRise ≤ r then .frozen else .tracking))
    ∧ (k.state = .unset → (k.evaluate p (some x)).baseline = 16 * x ∧ (k.evaluate p (some x)).state = .tracking
        ∧ (k.evaluate p (some x)).rise = some 0)
    ∧ (∀ r, k.state = .frozen → r = x - Int.fdiv k.baseline 16 →
      (k.evaluate p (some x)).baseline = k.baseline ∧ (k.evaluate p (some x)).rise = some r
        ∧ (k.evaluate p (some x)).state = (if r < Int.fdiv p.preRise 2 then .tracking else .frozen))
    ∧ (∀ r, (k.evaluate p (some x)).rise = some r →
      (k.evaluate p (some x)).flag = (if p.heatRise ≤ r ∨ 700 ≤ x then .heat else if p.preRise ≤ r then .pre else .none))
    ∧ k.evaluate p none = { k with rise := none, flag := .none }

/-- R32: RESET-BASELINE. It is refused on every link but SVC. A string, module or sensor outside its values is BAD-FORMAT;
at ALERT or higher it is REFUSED-STATE and no sensor changes; otherwise every named sensor becomes UNSET with no rise and no
flag, every other sensor and everything else is as it was, and it is answered DONE. -/
def Obligations.ResetBaseline : Prop :=
  ∀ (l : Link) (q b1 b2 b3 : Byte) (s : State) (r : Request), r = ⟨19, q, [b1, b2, b3]⟩ →
    (s.canServe l r = true → l ≠ .svc → exec (.resetBaseline l q r.payload) s = .next (s.answerHead l r .refusedPort []))
    ∧ (s.canServe l r = true → l = .svc →
      ((b1.toNat < 1 ∨ 2 < b1.toNat ∨ 12 < b2.toNat ∨ 4 < b3.toNat →
          exec (.resetBaseline l q r.payload) s = .next (s.answerHead l r .badFormat []))
        ∧ (1 ≤ b1.toNat ∧ b1.toNat ≤ 2 ∧ b2.toNat ≤ 12 ∧ b3.toNat ≤ 4 →
          (s.fire.stage = .alert ∨ s.fire.stage = .confirmed ∨ s.fire.stage = .isolated →
            exec (.resetBaseline l q r.payload) s = .next (s.answerHead l r .refusedState []))
          ∧ (s.fire.stage = .normal ∨ s.fire.stage = .preAlert →
            ∃ cells, exec (.resetBaseline l q r.payload) s
                = .next ({ s with supervision := cells }.answerHead l r .done [])
              ∧ ∀ c, (cells.get c).overVolt = (s.cells c).overVolt ∧ (cells.get c).underVolt = (s.cells c).underVolt
                ∧ (cells.get c).overTemp = (s.cells c).overTemp
                ∧ ∀ (a : Addr) (k : Fin 4),
                  (strNumber c = b1.toNat ∧ (b2 = 0 ∨ b2.toNat = a.number) ∧ (b3 = 0 ∨ b3.toNat = k.val + 1) →
                    (((cells.get c).sensors[a])[k]).state = .unset ∧ (((cells.get c).sensors[a])[k]).rise = none
                      ∧ (((cells.get c).sensors[a])[k]).flag = .none)
                  ∧ (¬(strNumber c = b1.toNat ∧ (b2 = 0 ∨ b2.toNat = a.number) ∧ (b3 = 0 ∨ b3.toNat = k.val + 1)) →
                    ((cells.get c).sensors[a])[k] = ((s.cells c).sensors[a])[k])))))

/-- R11, R21 to R23, R25, R38 to R42: the end of a scan transaction of the last address, here the MISS of a STALE module on
a chain with no probe queued and its next due time still to come, completes the cycle and delivers it. A cycle complete
counts each hard limit's breaches, writes the VH and TD entries of the string and no other VH, TD, CD, FS or SC entry, and
where a counter newly reaches 3 counts the trip and asks a JOINED string to open with end state LOCKED. VH tapers between
its thresholds by the highest and the lowest cell voltage, and is 0 with a fitted module that is not CURRENT or has an
INVALID cell; TD is the lower of its table's values at the coldest and the hottest reading, and is 0 with two faulted
sensors in one module or no reading at all. The time it sets follows log entry 2, the model's choice. -/
def Obligations.CycleCompleteIsEvaluated : Prop :=
  (∀ (c : Str) (a : Addr) (x : Transaction) (s : State),
    s.phase = .running → (s.chain c).inFlight = some x → x.kind = .scan → x.addressed = .module a →
    (s.chain c).fitted a = true → (s.chain c).range.last ≤ a.number → ((s.chain c).modules[a]).status = .stale →
    (s.chain c).probes = [] → (∀ d, (s.chain c).nextDue = some d → max s.uptime x.timeout < d) →
    exec (.replyTimeout c) s = .next (State.cycleComplete { s with
      uptime := max s.uptime x.timeout
      chains := s.chains.mod c fun k => { k with
        inFlight := none, cycle := .waiting, nextUnit := .head, firstDone := true
        modules := vmod a (fun m => { m with miss := min 3 (m.miss + 1), requested := [] }) k.modules }
      store := { s.store with
        strings := s.store.strings.mod c fun n => { n with chainMisses := min 4294967295 (n.chainMisses + 1) } } } c))
  ∧ ∀ (c : Str) (s t : State) (counted : Addr → Prop) (ov uv ot : Prop),
    t = s.cycleComplete c →
    (∀ a, counted a ↔ (s.chain c).fitted a = true ∧ ((s.chain c).modules[a]).status = .current) →
    (ov ↔ ∃ a, counted a ∧ ∃ (j : Fin 16) (v : Nat), ((s.chain c).modules[a]).cells[j] = some v ∧ s.params.overVolt < v) →
    (uv ↔ ∃ a, counted a ∧ ∃ (j : Fin 16) (v : Nat), ((s.chain c).modules[a]).cells[j] = some v ∧ v < s.params.underVolt) →
    (ot ↔ ∃ a, counted a ∧ ∃ (j : Fin 4) (v : Int), ((s.chain c).modules[a]).sensors[j] = some v ∧ s.params.overTemp < v) →
    (ov → (t.cells c).overVolt = min 3 ((s.cells c).overVolt + 1)) ∧ (¬ov → (t.cells c).overVolt = 0)
    ∧ (uv → (t.cells c).underVolt = min 3 ((s.cells c).underVolt + 1)) ∧ (¬uv → (t.cells c).underVolt = 0)
    ∧ (ot → (t.cells c).overTemp = min 3 ((s.cells c).overTemp + 1)) ∧ (¬ot → (t.cells c).overTemp = 0)
    ∧ (t.cells c).sensors = (s.cells c).sensors ∧ t.chains = s.chains
    ∧ t.envelope.table.vh = s.envelope.table.vh.setString c ((s.chain c).vh s.params).1 ((s.chain c).vh s.params).2
    ∧ t.envelope.table.td = s.envelope.table.td.setString c ((s.chain c).td s.params).1 ((s.chain c).td s.params).2
    ∧ t.envelope.table.cd = s.envelope.table.cd ∧ t.envelope.table.fs = s.envelope.table.fs
    ∧ t.envelope.table.sc = s.envelope.table.sc
    ∧ (∀ a, (s.chain c).fitted a = true →
        ((s.chain c).modules[a]).status ≠ .current ∨ (∃ j : Fin 16, ((s.chain c).modules[a]).cells[j] = none) →
        (s.chain c).vh s.params = (0, 0))
    ∧ (∀ (hi lo : Nat),
        (∀ a, (s.chain c).fitted a = true → counted a ∧ ∀ j : Fin 16, ((s.chain c).modules[a]).cells[j] ≠ none) →
        (∃ a, counted a ∧ ∃ j : Fin 16, ((s.chain c).modules[a]).cells[j] = some hi) →
        (∃ a, counted a ∧ ∃ j : Fin 16, ((s.chain c).modules[a]).cells[j] = some lo) →
        (∀ a, counted a → ∀ (j : Fin 16) (v : Nat), ((s.chain c).modules[a]).cells[j] = some v → lo ≤ v ∧ v ≤ hi) →
        ∀ p, p = s.params →
        (s.chain c).vh s.params =
          ((if (hi : Int) ≤ p.vts then p.imaxC else if p.vst ≤ hi then 0
            else Int.fdiv (p.imaxC * (p.vst - hi)) (p.vst - p.vts)).toNat,
          (if p.vdt ≤ lo then p.imaxD else if (lo : Int) ≤ p.vds then 0
            else Int.fdiv (p.imaxD * (lo - p.vds)) (p.vdt - p.vds)).toNat))
    ∧ (∀ (hot cold : Int),
        (∀ a, counted a → ∀ i j : Fin 4, i ≠ j → ((s.chain c).modules[a]).sensors[i] = none →
          ((s.chain c).modules[a]).sensors[j] ≠ none) →
        (∃ a, counted a ∧ ∃ k : Fin 4, ((s.chain c).modules[a]).sensors[k] = some hot) →
        (∃ a, counted a ∧ ∃ k : Fin 4, ((s.chain c).modules[a]).sensors[k] = some cold) →
        (∀ a, counted a → ∀ (k : Fin 4) (v : Int), ((s.chain c).modules[a]).sensors[k] = some v → cold ≤ v ∧ v ≤ hot) →
        (s.chain c).td s.params =
          ((min (interpolate cold s.params.chargeTable) (interpolate hot s.params.chargeTable)).toNat,
          (min (interpolate cold s.params.dischargeTable) (interpolate hot s.params.dischargeTable)).toNat))
    ∧ ((∀ a, counted a → ∀ k : Fin 4, ((s.chain c).modules[a]).sensors[k] = none) → (s.chain c).td s.params = (0, 0))
    ∧ (∀ a, counted a → ∀ i j : Fin 4, i ≠ j → ((s.chain c).modules[a]).sensors[i] = none →
        ((s.chain c).modules[a]).sensors[j] = none → (s.chain c).td s.params = (0, 0))
    ∧ (∀ d, d ≠ c → t.cells d = s.cells d ∧ t.string d = s.string d)
    ∧ (¬(ov ∧ (s.cells c).overVolt = 2) ∧ ¬(uv ∧ (s.cells c).underVolt = 2) ∧ ¬(ot ∧ (s.cells c).overTemp = 2) →
        t.strings = s.strings ∧ t.store = s.store)
    ∧ (∀ cause, (ov ∧ (s.cells c).overVolt = 2 ∧ cause = .cellOv)
          ∨ (¬(ov ∧ (s.cells c).overVolt = 2) ∧ uv ∧ (s.cells c).underVolt = 2 ∧ cause = .cellUv)
          ∨ (¬(ov ∧ (s.cells c).overVolt = 2) ∧ ¬(uv ∧ (s.cells c).underVolt = 2) ∧ ot ∧ (s.cells c).overTemp = 2
            ∧ cause = .cellOt) →
        (t.store.strings.get c).trips = ((s.store.strings.get c).trips).count cause
          ∧ ((s.string c).state = .joined → (t.string c).state = .opening (.locked cause) (s.uptime + 2000)))

/-- R36: from every state in which it holds, a step keeps that a requested balance set has at most four cells, and none
unless its module is CURRENT and below the balancing ceiling and the fire stage is below ALERT. -/
def Obligations.StepKeepsBalanceSets : Prop :=
  ∀ s t : State, s.balanceKept → step s = .next t → t.balanceKept

/-! ## String contactors (chapter 3) -/

/-- R46, R48: JOIN-STRING. An OPEN string whose join conditions hold enters PRECHARGE in MATCHING with a 10 s timer, its
excursion counter 0 and a feedback check 200 ms ahead, STRING-STATE is posted, and nothing else changes; one whose
conditions fail is REFUSED-STATE. PRECHARGE and JOINED are DONE with no effect, LOCKED and OPENING are refused. -/
def Obligations.JoinString : Prop :=
  ∀ (l : Link) (q : Byte) (payload : List Byte) (c : Str) (s : State) (r : Request), r = ⟨5, q, payload⟩ →
    s.delivers l r →
    (∀ b : Byte, payload = [b] → b ≠ 1 → b ≠ 2 →
      exec (.joinString l q payload) s = .next (s.answerHead l r .badFormat []))
    ∧ (parseString payload = some c →
      ((∃ ph, (s.string c).state = .precharge ph) ∨ (s.string c).state = .joined →
        exec (.joinString l q payload) s = .next (s.answerHead l r .done []))
      ∧ ((∃ k, (s.string c).state = .locked k) ∨ (∃ e t, (s.string c).state = .opening e t) →
        exec (.joinString l q payload) s = .next (s.answerHead l r .refusedState []))
      ∧ ∀ conditions : Prop, (s.string c).state = .opened →
        (conditions ↔
          (s.chain c).head.status = .current
            ∧ (∀ a : Addr, (s.chain c).fitted a = true → ((s.chain c).modules[a]).status = .current
                ∧ ∀ j : Fin 16, ((s.chain c).modules[a]).cells[j] ≠ none)
            ∧ (s.cells c).overVolt = 0 ∧ (s.cells c).underVolt = 0 ∧ (s.cells c).overTemp = 0
            ∧ (s.fire.stage = .normal ∨ s.fire.stage = .preAlert) ∧ s.config.fault = false) →
        (¬conditions → exec (.joinString l q payload) s = .next (s.answerHead l r .refusedState []))
        ∧ (conditions → s.envelopeBounded → s.permitKept →
          exec (.joinString l q payload) s = .next ((State.post { s with
            strings := s.strings.mod c fun k => { k with
              state := .precharge (.matching (s.uptime + 10000)), excursions := 0
              check := some (s.uptime + 200) } } .stringState (.string c .precharge none)).answerHead l r .done [])))

/-- R44, R50, R69, R139, R141: RELEASE-STRING is always DONE. OPEN, LOCKED and OPENING are left as they are. A string in
PRECHARGE returns to OPEN. A JOINED string enters OPENING with end state OPEN and 2 s to go: its published limits are zero
in the same step, the number of JOINED strings goes to the grid agreement unit, STRING-STATE is posted once on every link,
and where it was the last one no permit stays connected. The count that GA used is held as counted, 0 when the last JOINED
string is released, by log entry 22, the model's choice; that the release and the GA update are one step is log entry 25.
-/
def Obligations.ReleaseString : Prop :=
  ∀ (l : Link) (q : Byte) (payload : List Byte) (c : Str) (s : State) (r : Request), r = ⟨6, q, payload⟩ →
    s.delivers l r →
    (∀ b : Byte, payload = [b] → b ≠ 1 → b ≠ 2 →
      exec (.releaseString l q payload) s = .next (s.answerHead l r .badFormat []))
    ∧ (parseString payload = some c →
      ((s.string c).state = .opened ∨ (∃ k, (s.string c).state = .locked k) ∨ (∃ e t, (s.string c).state = .opening e t) →
        exec (.releaseString l q payload) s = .next (s.answerHead l r .done []))
      ∧ (∀ ph, (s.string c).state = .precharge ph → s.envelopeBounded → s.permitKept →
        exec (.releaseString l q payload) s = .next ((State.post { s with
          strings := s.strings.mod c fun k => { k with state := .opened, check := some (s.uptime + 200) }
          } .stringState (.string c .opened none)).answerHead l r .done []))
      ∧ ((s.string c).state = .joined → ∃ t, exec (.releaseString l q payload) s = .next t
        ∧ t.string c = { s.string c with state := .opening .opened (s.uptime + 2000) }
        ∧ (∀ d, d ≠ c → t.string d = s.string d)
        ∧ t.envelope.limits.charge c = 0 ∧ t.envelope.limits.discharge c = 0
        ∧ t.agreement.countUsed = some t.joinedCount
        ∧ (t.joinedCount = 0 → t.permit.state.connected = false)
        ∧ s.posts t .stringState (.string c .opening none)
        ∧ t.quietLinks = (s.answerHead l r .done []).quietLinks
        ∧ t = { s with
            strings := t.strings, envelope := t.envelope, agreement := t.agreement, permit := t.permit, links := t.links
            choices := t.choices }))

/-- R48, R51: the timers of a string. The pre-charge timer runs out in MATCHING: LOCKED with cause PRECHARGE-FAIL, counted.
The opening timer runs out: the string enters its end state. Each schedules a feedback check, posts STRING-STATE, and
changes nothing else; in any other state neither timer runs. The time it sets follows log entry 2, the model's choice. -/
def Obligations.StringTimers : Prop :=
  ∀ (c : Str) (s : State),
    ((∀ t, (s.string c).state ≠ .precharge (.matching t)) → exec (.prechargeTimerExpiry c) s = .next s)
    ∧ ((∀ e t, (s.string c).state ≠ .opening e t) → exec (.openingTimerExpiry c) s = .next s)
    ∧ (s.envelopeBounded → s.permitKept →
      (∀ t, (s.string c).state = .precharge (.matching t) →
        exec (.prechargeTimerExpiry c) s = .next (State.post { s with
          uptime := max s.uptime t
          strings := s.strings.mod c fun k => { k with
            state := .locked .prechargeFail, check := some (max s.uptime t + 200) }
          store := { s.store with strings := s.store.strings.mod c fun n => { n with
            trips := { n.trips with prechargeFail := min 4294967295 (n.trips.prechargeFail + 1) } } }
          } .stringState (.string c .locked (some .prechargeFail))))
      ∧ (∀ t, (s.string c).state = .opening .opened t →
        exec (.openingTimerExpiry c) s = .next (State.post { s with
          uptime := max s.uptime t
          strings := s.strings.mod c fun k => { k with state := .opened, check := some (max s.uptime t + 200) }
          } .stringState (.string c .opened none)))
      ∧ ∀ cause t, (s.string c).state = .opening (.locked cause) t →
        exec (.openingTimerExpiry c) s = .next (State.post { s with
          uptime := max s.uptime t
          strings := s.strings.mod c fun k => { k with state := .locked cause, check := some (max s.uptime t + 200) }
          } .stringState (.string c .locked (some cause))))

/-- R44, R49, R56, R57, R61, R69, R126, R139, R175: a feedback input that takes a new level is stored and schedules a check
200 ms ahead where none is pending. A check that finds the inputs as the drives ask joins a string in HANDOVER and changes
no other; one that finds a driven-open main contactor CLOSED, or any other disagreement, locks an unlocked string as WELDED
or FEEDBACK and counts it; a LOCKED string takes WELDED alone, and that once. That a part in reset, loading or off only
stores the level is log entry 7, an inference; the time it sets follows log entry 2, and that a change of the number of
JOINED strings and the GA update it causes are one step is log entry 25, the model's choices. -/
def Obligations.Feedback : Prop :=
  ∀ (c : Str) (s : State),
    (∀ level, exec (.feedbackInputChange c .main level) s = .next (if level = (s.string c).mainInput then s else
      { s with strings := s.strings.mod c fun k => { k with
        mainInput := level
        check := if s.phase = .running ∧ k.check = none then some (s.uptime + 200) else k.check } }))
    ∧ (∀ level, exec (.feedbackInputChange c .precharge level) s = .next (if level = (s.string c).prechargeInput then s else
      { s with strings := s.strings.mod c fun k => { k with
        prechargeInput := level
        check := if s.phase = .running ∧ k.check = none then some (s.uptime + 200) else k.check } }))
    ∧ ((s.string c).check = none → exec (.feedbackCheck c) s = .next s)
    ∧ ∀ d, s.phase = .running → (s.string c).check = some d →
      ∀ (now : Nat) (wantMain wantPre : Contact), now = max s.uptime d →
        wantMain = (if (s.string c).state.mainDrive then .closed else .opened) →
        wantPre = (if (s.string c).state.prechargeDrive then .closed else .opened) →
        ((s.string c).mainInput = wantMain → (s.string c).prechargeInput = wantPre →
          ((s.string c).state ≠ .precharge .handover →
            exec (.feedbackCheck c) s = .next { s with
              uptime := now, strings := s.strings.mod c fun k => { k with check := none } })
          ∧ ((s.string c).state = .precharge .handover → ∃ t, exec (.feedbackCheck c) s = .next t
            ∧ t.string c = { s.string c with state := .joined, check := some (now + 200) }
            ∧ t.agreement.countUsed = some t.joinedCount ∧ s.posts t .stringState (.string c .joined none)
            ∧ t.envelope.limits.charge c ≤ s.envelope.limits.charge c
            ∧ t = { s with
                uptime := now, strings := t.strings, envelope := t.envelope, agreement := t.agreement, links := t.links
                choices := t.choices }))
        ∧ ∀ cause, ((s.string c).mainInput = .closed ∧ (s.string c).state.mainDrive = false ∧ cause = .welded)
            ∨ (¬((s.string c).mainInput = .closed ∧ (s.string c).state.mainDrive = false)
                ∧ ¬((s.string c).mainInput = wantMain ∧ (s.string c).prechargeInput = wantPre) ∧ cause = .feedback) →
          (∀ old, (s.string c).state = .locked old → cause = .feedback ∨ old = .welded →
            exec (.feedbackCheck c) s = .next { s with
              uptime := now, strings := s.strings.mod c fun k => { k with check := none } })
          ∧ ((∀ old, (s.string c).state = .locked old → cause = .welded ∧ old ≠ .welded) →
            ∃ t, exec (.feedbackCheck c) s = .next t
              ∧ (t.string c).state = .locked cause ∧ (∀ d, d ≠ c → t.string d = s.string d)
              ∧ (t.store.strings.get c).trips = ((s.store.strings.get c).trips).count cause
              ∧ t.envelope.limits.charge c = 0 ∧ t.envelope.limits.discharge c = 0
              ∧ s.posts t .stringState (.string c .locked (some cause))
              ∧ t = { s with
                  uptime := now, strings := t.strings, envelope := t.envelope, agreement := t.agreement
                  permit := t.permit, store := t.store, links := t.links, choices := t.choices })

/-- R59: CLEAR-LOCK naming a string. OPEN is DONE with no effect; a LOCKED string whose cause is gone becomes OPEN, posting
STRING-STATE, and nothing else changes; any other state, or a cause that stands, is REFUSED-STATE. A cause is gone when both
feedback inputs read OPEN with no check pending and, for the three cell causes, every counter stands at 0. -/
def Obligations.ClearLockString : Prop :=
  ∀ (l : Link) (q : Byte) (payload : List Byte) (c : Str) (s : State) (r : Request), r = ⟨20, q, payload⟩ →
    s.delivers l r →
    (∀ b : Byte, payload = [b] → b ≠ 0 → b ≠ 1 → b ≠ 2 →
      exec (.clearLockString l q payload) s = .next (s.answerHead l r .badFormat []))
    ∧ (parseString payload = some c →
      ((s.string c).state = .opened → exec (.clearLockString l q payload) s = .next (s.answerHead l r .done []))
      ∧ ((s.string c).state ≠ .opened → (∀ k, (s.string c).state ≠ .locked k) →
        exec (.clearLockString l q payload) s = .next (s.answerHead l r .refusedState []))
      ∧ ∀ (cause : LockCause) (gone : Prop), (s.string c).state = .locked cause →
        (gone ↔ (s.string c).mainInput = .opened ∧ (s.string c).prechargeInput = .opened ∧ (s.string c).check = none
          ∧ (cause = .cellOv ∨ cause = .cellUv ∨ cause = .cellOt →
            (s.cells c).overVolt = 0 ∧ (s.cells c).underVolt = 0 ∧ (s.cells c).overTemp = 0)) →
        (¬gone → exec (.clearLockString l q payload) s = .next (s.answerHead l r .refusedState []))
        ∧ (gone → s.envelopeBounded → s.permitKept →
          exec (.clearLockString l q payload) s = .next ((State.post { s with
            strings := s.strings.mod c fun k => { k with state := .opened }
            } .stringState (.string c .opened none)).answerHead l r .done [])))

/-- R52, R53, R54: what a protective opening request, a unit loss and a forced opening make of each string state. In JOINED
the excursion cause is counted here, every other cause where it arises. The other string is never touched. -/
def Obligations.OpeningRequests : Prop :=
  ∀ (c : Str) (k : LockCause) (s : State),
    (∀ (from_ to_ : StringState),
      (from_ = .opened ∧ to_ = .locked k) ∨ (∃ t, from_ = .precharge (.matching t) ∧ to_ = .locked k)
        ∨ (from_ = .precharge .handover ∧ to_ = .opening (.locked k) (s.uptime + 2000))
        ∨ (from_ = .joined ∧ to_ = .opening (.locked k) (s.uptime + 2000))
        ∨ (∃ t, from_ = .opening .opened t ∧ to_ = .opening (.locked k) t)
        ∨ (∃ e t, from_ = .opening (.locked e) t ∧ to_ = from_) ∨ (∃ e, from_ = .locked e ∧ to_ = from_) →
      (s.string c).state = from_ →
        ((s.protect c k).string c).state = to_
          ∧ ((s.protect c k).store.strings.get c).trips
              = (if from_ = .joined ∧ k = .excursion then ((s.store.strings.get c).trips).count .excursion
                else (s.store.strings.get c).trips))
    ∧ (∀ (from_ to_ : StringState),
      (from_ = .joined ∧ to_ = .opening .opened (s.uptime + 2000))
        ∨ (∃ t, from_ = .precharge (.matching t) ∧ to_ = .opened)
        ∨ (from_ = .precharge .handover ∧ to_ = .opening .opened (s.uptime + 2000))
        ∨ ((from_ = .opened ∨ (∃ e, from_ = .locked e) ∨ ∃ e t, from_ = .opening e t) ∧ to_ = from_) →
      (s.string c).state = from_ → ((s.unitLost c).string c).state = to_ ∧ (s.unitLost c).store = s.store)
    ∧ ((s.string c).state.apart = true → s.forceOpen c = s)
    ∧ ((s.string c).state.apart = false → ((s.forceOpen c).string c).state = .opened)
    ∧ ∀ d, d ≠ c → (s.protect c k).string d = s.string d ∧ (s.unitLost c).string d = s.string d
      ∧ (s.forceOpen c).string d = s.string d

/-! ## The operating envelope (chapter 4) -/

/-- R66: a list of two or more breakpoints, strictly ascending, evaluated at `x`: held at its first value below its span and
at its last above it, straight lines with floor rounding between. -/
def Obligations.InterpolationRule : Prop :=
  ∀ (list : List Breakpoint) (x : Int) (first last : Breakpoint), ascending list = true → 2 ≤ list.length →
    list.head? = some first → list.getLast? = some last →
    (x ≤ first.t → interpolate x list = first.v)
    ∧ (last.t ≤ x → interpolate x list = last.v)
    ∧ ∀ (i : Nat) (p q : Breakpoint), list[i]? = some p → list[i + 1]? = some q → p.t ≤ x → x < q.t →
      interpolate x list = p.v + Int.fdiv ((q.v - p.v) * (x - p.t)) (q.t - p.t)

/-- R67, R70, R71, R72: the tick. Each published limit becomes its target where that is lower, and otherwise rises toward it
by at most the ramp step; the target is the smallest of the six entries of a JOINED string, 0 of any other. Where a limit
changed, the revision goes up by one, wrapping, the time is noted and ENVELOPE-CHANGED is posted; otherwise nothing is. The
next tick comes 100 ms later. The time it sets follows log entry 2, the model's choice. -/
def Obligations.EnvelopeTick : Prop :=
  ∀ s : State, s.phase = .running →
    ∀ (target moved : Row) (ticked : State),
      (∀ c, target.charge c = (if (s.string c).state = .joined then s.envelope.table.lowest.charge c else 0)
        ∧ target.discharge c = (if (s.string c).state = .joined then s.envelope.table.lowest.discharge c else 0)) →
      (∀ c, moved.charge c = (if target.charge c < s.envelope.limits.charge c then target.charge c
            else min (target.charge c) (s.envelope.limits.charge c + s.params.rampStep.toNat))
        ∧ moved.discharge c = (if target.discharge c < s.envelope.limits.discharge c then target.discharge c
            else min (target.discharge c) (s.envelope.limits.discharge c + s.params.rampStep.toNat))) →
      ticked = { s with
        uptime := max s.uptime s.clocks.envelope, clocks := { s.clocks with envelope := s.clocks.envelope + 100 } } →
      (moved = s.envelope.limits → exec .envelopeTick s = .next ticked)
      ∧ (moved ≠ s.envelope.limits → exec .envelopeTick s = .next (State.post { ticked with
          envelope := { s.envelope with
            limits := moved, revision := s.envelope.revision + 1
            published := some (max s.uptime s.clocks.envelope) } } .envelopeChanged .envelope))

/-- R74, R75: SET-CAP. The value, clamped to 4000, is stored as the cap of the link it came on: the service cap from SVC,
the station cap from STN. Where the cap changed, SC, the lower cap or 0 in CONFIG-FAULT, is delivered in all four SC
entries. The answer, DONE or CLAMPED, carries both caps and SC. A cap that stands is not delivered again. -/
def Obligations.SetCap : Prop :=
  ∀ (l : Link) (q hi lo : Byte) (s : State) (r : Request), r = ⟨12, q, [hi, lo]⟩ → s.delivers l r →
    ∀ (sent v station service sc : Nat) (code : AnswerCode),
      sent = 256 * hi.toNat + lo.toNat → v = min 4000 sent →
      station = (if l = .stn then v else s.stationCap) → service = (if l = .svc then v else s.serviceCap) →
      sc = (if s.config.fault then 0 else min station service) → code = (if 4000 < sent then .clamped else .done) →
      (station = s.stationCap ∧ service = s.serviceCap →
        exec (.setCap l q [hi, lo]) s = .next (s.answerHead l r code [num station, num service, num sc]))
      ∧ (¬(station = s.stationCap ∧ service = s.serviceCap) →
        ∃ t, exec (.setCap l q [hi, lo]) s = .next t
          ∧ t.stationCap = station ∧ t.serviceCap = service
          ∧ t.envelope.table = { s.envelope.table with sc := ⟨sc, sc, sc, sc⟩ }
          ∧ (∀ c, t.envelope.limits.charge c = min (s.envelope.limits.charge c)
              (if (s.string c).state = .joined then t.envelope.table.lowest.charge c else 0))
          ∧ (∀ k, (t.link k).out = (s.link k).out
              ++ if k = l then [⟨0x8C, q, code, [num station, num service, num sc], true⟩] else [])
          ∧ t = { s with
              stationCap := station, serviceCap := service, envelope := t.envelope, links := t.links })

/-- R68: from every state in which it holds, a step keeps that each published limit is at most the smallest entry of its
column, and zero whenever its string is not JOINED. -/
def Obligations.StepKeepsEnvelopeBounded : Prop :=
  ∀ s t : State, s.envelopeBounded → step s = .next t → t.envelopeBounded

/-! ## Thermal plant (chapter 5) -/

/-- R80 to R87, R89 to R91, R93: the analog sample. The inputs are stored, FAULT outside their range, each new fault
posted; the demand temperature is the higher of the outlet and the hottest valid temperature; the mode is the first row of
the mode table that applies and sets fans and pump. In RUN the staging rule asks stage 1, then stage 2 where stage 1 is ON,
in the other modes both are asked OFF; a request opposite to the state is carried out at once where the dwell allows and is
pending where it does not, stage 1 going OFF only with or after stage 2. In IDLE and RUN the heater is asked by the coldest
cell, in the others it is OFF. The flow timer follows the new pump duty. CD is computed and delivered in all four CD
entries and no other. The next sample comes 500 ms later. The time it sets follows log entry 2 and the order of several
FAULTs log entry 23, the model's choices; where a stage goes OFF together with another, and what becomes of a stage's own
request then, follows log entry 12, an inference, and which OFF of stage 2 falls with stage 1's log entry 33, the model's
choice. -/
def Obligations.AnalogSample : Prop :=
  ∀ (inlet outlet container outside : Int) (s : State), s.phase = .running →
    ∀ (p : Params) (vent purge wanted : Prop) (now : Nat), p = s.params → now = max s.uptime s.clocks.sample →
    (vent ↔ s.links.pnl.taken = some .ventRequest) →
    (purge ↔ vent ∨ (s.fire.stage = .alert
      ∧ (s.fire.gas.active = true ∨ ∃ t, s.fire.gas.cleared = some t ∧ now < t + 120000))) →
    ∃ t, exec (.analogSample inlet outlet container outside) s = .next t
      ∧ t.plant.inlet = (if -400 ≤ inlet ∧ inlet ≤ 1500 then .value inlet else .fault)
      ∧ t.plant.outlet = (if -400 ≤ outlet ∧ outlet ≤ 1500 then .value outlet else .fault)
      ∧ t.plant.container = (if -400 ≤ container ∧ container ≤ 1500 then .value container else .fault)
      ∧ t.plant.outside = (if -400 ≤ outside ∧ outside ≤ 1500 then .value outside else .fault)
      ∧ t.plant.demand = (if -400 ≤ outlet ∧ outlet ≤ 1500 then some (match s.hottest with
          | some h => max outlet h
          | none => outlet) else s.hottest)
      ∧ ((wanted ↔ s.strings.one.state.apart = false ∨ s.strings.two.state.apart = false
            ∨ (∃ d, t.plant.demand = some d ∧ p.runThreshold ≤ d) ∨ ∃ x, s.coldest = some x ∧ x < p.heaterOn) →
          (s.fire.stage.fire = true → vent → t.plant.mode = .purge)
          ∧ (s.fire.stage.fire = true → ¬vent → t.plant.mode = .fireHold)
          ∧ (s.fire.stage.fire = false → purge → t.plant.mode = .purge)
          ∧ (s.fire.stage.fire = false → ¬purge → wanted → t.plant.mode = .run)
          ∧ (s.fire.stage.fire = false → ¬purge → ¬wanted → t.plant.mode = .idle))
      ∧ t.plant.prescaler = p.prescaler.toNat
      ∧ (t.plant.mode = .idle → t.plant.fanDuty = 0 ∧ t.plant.pumpDuty = 0)
      ∧ (t.plant.mode = .purge → t.plant.fanDuty = 255 ∧ t.plant.pumpDuty = p.pumpDuty.toNat)
      ∧ (t.plant.mode = .fireHold → t.plant.fanDuty = 0 ∧ t.plant.pumpDuty = p.pumpDuty.toNat)
      ∧ (t.plant.mode = .run → t.plant.pumpDuty = p.pumpDuty.toNat
          ∧ (t.plant.demand = none → t.plant.fanDuty = 255)
          ∧ ∀ d v, t.plant.demand = some d → v = interpolate d p.fanCurve →
              t.plant.fanDuty = (if 0 < v ∧ v < p.fanMin then p.fanMin.toNat else v.toNat))
      ∧ (t.plant.mode = .purge ∨ t.plant.mode = .fireHold →
          t.plant.heater = (if s.plant.heater.on then ⟨false, now, none⟩ else { s.plant.heater with request := none }))
      ∧ (t.plant.mode = .idle ∨ t.plant.mode = .run →
          (∀ b, (b = true ↔ ∃ x, s.coldest = some x ∧ x < p.heaterOn) →
            (b = true ∨ s.coldest = none ∨ ∃ x, s.coldest = some x ∧ p.heaterOff ≤ x) →
            t.plant.heater = (if s.plant.heater.on = b then { s.plant.heater with request := none }
              else if s.plant.heater.lastChange + 60000 ≤ now then ⟨b, now, none⟩
              else { s.plant.heater with request := some b }))
          ∧ (∀ x, s.coldest = some x → p.heaterOn ≤ x → x < p.heaterOff → t.plant.heater = s.plant.heater))
      ∧ (∀ free1 free2 : Bool,
          (free1 = true ↔ (s.plant.chiller1.lastChange + if s.plant.chiller1.on then 180000 else 300000) ≤ now) →
          (free2 = true ↔ (s.plant.chiller2.lastChange + if s.plant.chiller2.on then 180000 else 300000) ≤ now) →
          (t.plant.mode = .run → t.plant.demand = none →
            t.plant.chiller1 = s.plant.chiller1 ∧ t.plant.chiller2 = s.plant.chiller2)
          ∧ (∀ d, t.plant.mode = .run → t.plant.demand = some d →
            (p.chiller1On ≤ d → t.plant.chiller1 =
              (if s.plant.chiller1.on then { s.plant.chiller1 with request := none }
              else if free1 then ⟨true, now, none⟩ else { s.plant.chiller1 with request := some true }))
            ∧ (d < p.chiller1On → d < p.chiller1Off →
              (s.plant.chiller1.on = false → t.plant.chiller1 = { s.plant.chiller1 with request := none })
              ∧ (s.plant.chiller1.on = true → t.plant.chiller1 =
                (if free1 ∧ (s.plant.chiller2.on → free2) then ⟨false, now, none⟩
                else { s.plant.chiller1 with request := some false }))
              ∧ (s.plant.chiller1.on = true → free1 = true → s.plant.chiller2.on = false →
                t.plant.chiller2 = { s.plant.chiller2 with request := none })
              ∧ (s.plant.chiller1.on = true → free1 = true → s.plant.chiller2.on = true → free2 = true →
                t.plant.chiller2 = ⟨false, now, none⟩)
              ∧ (s.plant.chiller1.on = true → free1 = true → s.plant.chiller2.on = true → free2 = false →
                d < p.chiller2On → t.plant.chiller2 = { s.plant.chiller2 with request := some false }))
            ∧ (p.chiller1Off ≤ d → d < p.chiller1On → t.plant.chiller1 =
              (if d < p.chiller2On ∧ d < p.chiller2Off ∧ s.plant.chiller2.on = true ∧ free2 = true
                  ∧ s.plant.chiller1.on = true ∧ s.plant.chiller1.request = some false ∧ free1 = true then ⟨false, now, none⟩
              else s.plant.chiller1))
            ∧ (p.chiller2On ≤ d → t.plant.chiller1.on = true → t.plant.chiller2 =
              (if s.plant.chiller2.on then { s.plant.chiller2 with request := none }
              else if free2 then ⟨true, now, none⟩ else { s.plant.chiller2 with request := some true }))
            ∧ (p.chiller2On ≤ d → s.plant.chiller1.on = false → t.plant.chiller1.on = false →
              t.plant.chiller2 = s.plant.chiller2)
            ∧ (d < p.chiller2On → d < p.chiller2Off → t.plant.chiller2 =
              (if s.plant.chiller2.on = false then { s.plant.chiller2 with request := none }
              else if free2 then ⟨false, now, none⟩ else { s.plant.chiller2 with request := some false }))
            ∧ (p.chiller2Off ≤ d → d < p.chiller2On → p.chiller1Off ≤ d ∨ s.plant.chiller1.on = false →
              t.plant.chiller2 = (if p.chiller1On ≤ d ∧ s.plant.chiller1.on = true ∧ s.plant.chiller2Follows = true
                then { s.plant.chiller2 with request := none } else s.plant.chiller2)))
          ∧ (t.plant.mode ≠ .run →
            t.plant.chiller1 = (if s.plant.chiller1.on = false then { s.plant.chiller1 with request := none }
              else if free1 ∧ (s.plant.chiller2.on → free2) then ⟨false, now, none⟩
              else { s.plant.chiller1 with request := some false })
            ∧ t.plant.chiller2 = (if s.plant.chiller2.on = false then { s.plant.chiller2 with request := none }
              else if free2 then ⟨false, now, none⟩ else { s.plant.chiller2 with request := some false })))
      ∧ t.plant.flow = s.plant.flow ∧ t.plant.flowInput = s.plant.flowInput
      ∧ t.plant.flowTimer = (if (s.plant.flow = .ok ∧ 0 < t.plant.pumpDuty ∧ s.plant.flowInput = .noFlow)
          ∨ (s.plant.flow = .pumpFault ∧ s.plant.flowInput = .flow) then some (s.plant.flowTimer.getD (now + 5000)) else none)
      ∧ (∀ n : Nat, (t.plant.inlet = .fault → n = 0) →
          (∀ v d, t.plant.inlet = .value v → d = interpolate v [⟨p.derateStart, 4000⟩, ⟨p.derateStop, 0⟩] →
            n = (match s.plant.flow with
              | .ok => d.toNat
              | .pumpFault => (min d p.pumpFaultCap).toNat)) →
          t.envelope.table = { s.envelope.table with cd := ⟨n, n, n, n⟩ })
      ∧ s.postsAll t .fault
          ((if t.plant.inlet = .fault ∧ s.plant.inlet ≠ .fault then [.inputFault .inlet] else [])
            ++ (if t.plant.outlet = .fault ∧ s.plant.outlet ≠ .fault then [.inputFault .outlet] else [])
            ++ (if t.plant.container = .fault ∧ s.plant.container ≠ .fault then [.inputFault .container] else [])
            ++ (if t.plant.outside = .fault ∧ s.plant.outside ≠ .fault then [.inputFault .outside] else []))
      ∧ t = { s with
          uptime := now, clocks := { s.clocks with sample := s.clocks.sample + 500 }
          plant := t.plant, envelope := t.envelope, links := t.links }

/-- R85, R86, R87, R91, R175: the flow switch, the flow timer and the dwells. A flow timer of 5 s runs while the switch
contradicts the flow state, and its expiry changes that state, posting PUMP-FAULT on the way into it. The expiry of a dwell
carries out the pending request: stage 1 goes OFF only with or after stage 2, stage 2 goes ON only while stage 1 is.
Nothing else changes. That a part that does not run only stores the level of the switch is log entry 7, that stage 1's
dwell is judged again when stage 2 goes OFF and a request of stage 2 falls with stage 1 is log entry 12, both inferences;
the time it sets follows log entry 2, and which OFF of stage 2 counts as placed by R87 log entry 33, the model's choices.
-/
def Obligations.PlantTimers : Prop :=
  ∀ s : State,
    (∀ level, level = s.plant.flowInput → exec (.flowSwitchChange level) s = .next s)
    ∧ (∀ level, level ≠ s.plant.flowInput → s.phase ≠ .running →
      exec (.flowSwitchChange level) s = .next { s with plant := { s.plant with flowInput := level } })
    ∧ (∀ level, level ≠ s.plant.flowInput → s.phase = .running →
      exec (.flowSwitchChange level) s = .next { s with plant := { s.plant with
        flowInput := level
        flowTimer :=
          if (s.plant.flow = .ok ∧ 0 < s.plant.pumpDuty ∧ level = .noFlow) ∨ (s.plant.flow = .pumpFault ∧ level = .flow) then
            some (s.plant.flowTimer.getD (s.uptime + 5000)) else none } })
    ∧ (s.plant.flowTimer = none → exec .flowTimerExpiry s = .next s)
    ∧ (∀ x, s.plant.flowTimer = some x → s.plant.flow = .ok →
      exec .flowTimerExpiry s = .next (State.post { s with
        uptime := max s.uptime x
        plant := { s.plant with
          flow := .pumpFault
          flowTimer := if s.plant.flowInput = .flow then some (max s.uptime x + 5000) else none } } .fault .pumpFault))
    ∧ (∀ x, s.plant.flowTimer = some x → s.plant.flow = .pumpFault →
      exec .flowTimerExpiry s = .next { s with
        uptime := max s.uptime x
        plant := { s.plant with
          flow := .ok
          flowTimer := if 0 < s.plant.pumpDuty ∧ s.plant.flowInput = .noFlow then some (max s.uptime x + 5000) else none } })
    ∧ (s.phase = .running → ∀ n1 n2 : Nat,
      n1 = max s.uptime (s.plant.chiller1.lastChange + if s.plant.chiller1.on then 180000 else 300000) →
      n2 = max s.uptime (s.plant.chiller2.lastChange + if s.plant.chiller2.on then 180000 else 300000) →
      (s.plant.chiller1.request = none →
        exec (.chillerDwellExpiry .stage1) s = .next { s with uptime := n1 })
      ∧ (s.plant.chiller1.request = some true → s.plant.chiller1.on = false →
        exec (.chillerDwellExpiry .stage1) s = .next { s with
          uptime := n1, plant := { s.plant with chiller1 := ⟨true, n1, none⟩ } })
      ∧ (s.plant.chiller1.request = some false → s.plant.chiller1.on = true → s.plant.chiller2.on = false →
        exec (.chillerDwellExpiry .stage1) s = .next { s with
          uptime := n1
          plant := { s.plant with
            chiller1 := ⟨false, n1, none⟩, chiller2 := { s.plant.chiller2 with request := none }
            chiller2Follows := false } })
      ∧ (s.plant.chiller1.request = some false → s.plant.chiller1.on = true → s.plant.chiller2.on = true →
        n2 ≤ n1 → exec (.chillerDwellExpiry .stage1) s = .next { s with
          uptime := n1
          plant := { s.plant with
            chiller1 := ⟨false, n1, none⟩, chiller2 := ⟨false, n1, none⟩, chiller2Follows := false } })
      ∧ (s.plant.chiller1.request = some false → s.plant.chiller1.on = true → s.plant.chiller2.on = true →
        n1 < n2 → exec (.chillerDwellExpiry .stage1) s = .next { s with
          uptime := n1
          plant := { s.plant with
            chiller2 := { s.plant.chiller2 with request := some false }
            chiller2Follows := s.plant.chiller2Follows || s.plant.chiller2.request != some false } })
      ∧ (s.plant.chiller2.request = some true → s.plant.chiller2.on = false → s.plant.chiller1.on = true →
        exec (.chillerDwellExpiry .stage2) s = .next { s with
          uptime := n2, plant := { s.plant with chiller2 := ⟨true, n2, none⟩ } })
      ∧ (s.plant.chiller2.request = some false → s.plant.chiller2.on = true →
        exec (.chillerDwellExpiry .stage2) s = .next { s with
          uptime := n2
          plant := { s.plant with
            chiller2 := ⟨false, n2, none⟩, chiller2Follows := false
            chiller1 := if s.plant.chiller1.on = true ∧ s.plant.chiller1.request = some false ∧ n1 ≤ n2 then ⟨false, n2, none⟩
              else s.plant.chiller1 } })
      ∧ ∀ b n, n = max s.uptime (s.plant.heater.lastChange + 60000) →
        (s.plant.heater.request = none → exec .heaterDwellExpiry s = .next { s with uptime := n })
        ∧ (s.plant.heater.request = some b → s.plant.heater.on ≠ b →
          exec .heaterDwellExpiry s = .next { s with uptime := n, plant := { s.plant with heater := ⟨b, n, none⟩ } }))

/-- R86, R87, R91: while the part runs, no command but a fire evaluation, whose entry into CONFIRMED forces them OFF, and a
SITE-RESET changes a chiller stage before its minimum dwell has passed, 180 s after ON and 300 s after OFF, nor turns the
heater ON within 60 s of its last change; a change is noted with its time. -/
def Obligations.DwellsAreRespected : Prop :=
  ∀ (c : Instr) (s t : State), exec c s = .next t → s.phase = .running → t.phase = .running →
    (∀ loops g1 g2, c ≠ .fireEvaluation loops g1 g2) → c ≠ .siteResetStart →
    (t.plant.chiller1.on ≠ s.plant.chiller1.on →
      (s.plant.chiller1.lastChange + if s.plant.chiller1.on then 180000 else 300000) ≤ t.uptime
        ∧ t.plant.chiller1.lastChange = t.uptime)
    ∧ (t.plant.chiller2.on ≠ s.plant.chiller2.on →
      (s.plant.chiller2.lastChange + if s.plant.chiller2.on then 180000 else 300000) ≤ t.uptime
        ∧ t.plant.chiller2.lastChange = t.uptime)
    ∧ (s.plant.heater.on = false → t.plant.heater.on = true →
      s.plant.heater.lastChange + 60000 ≤ t.uptime ∧ t.plant.heater.lastChange = t.uptime)

/-- R87, R92: from every state in which it holds, a step keeps that stage 2 is never ON while stage 1 is OFF, and that in
CONFIRMED and ISOLATED the mode is a fire mode with both stages and the heater off and nothing pending that would bring them
on. -/
def Obligations.StepKeepsPlant : Prop :=
  ∀ s t : State, s.plantKept → step s = .next t → t.plantKept

/-! ## Fire and gas detection (chapter 6) -/

/-- R98: the debounce of a detector loop. A sample that shows the loop's state clears the candidate. Another state shown by
three consecutive samples becomes the loop's state; until then the state stands. -/
def Obligations.LoopDebounce : Prop :=
  ∀ (d : DetectorLoop) (ohms : Nat) (x y : LoopState),
    sampleState ohms = (if ohms < 200 then .short else if ohms < 1500 then .alarm else if ohms ≤ 12000 then .normal
      else .opened)
    ∧ d.sample d.state = { d with candidate := none }
    ∧ (x ≠ d.state → (∀ n, d.candidate ≠ some (x, n)) →
      d.sample x = { d with candidate := some (x, 1) }
        ∧ ((d.sample x).sample x) = { d with candidate := some (x, 2) }
        ∧ (((d.sample x).sample x).sample x) = { d with state := x, candidate := none }
        ∧ (y ≠ x → y ≠ d.state → ((d.sample x).sample y) = { d with candidate := some (y, 1) })
        ∧ ((d.sample x).sample d.state) = { d with candidate := none })

/-- R97 to R105, R107, R110 to R113, R151, R167: a fire evaluation. Each loop and gas channel takes its sample; the codes
of the PNL change buffer are taken, each in a pass of its own, the first unread before the latest, or one pass is made with
none; each pass does what FirePass says. FAULT is posted for each loop and channel newly broken and for DEGRADED newly YES,
FIRE-STAGE for each change of stage. Where no pass changed stage or DEGRADED nothing else changes; where one did, the four
FS entries are those of the stage the last pass left, capped while DEGRADED. A trip that it records is one for NO-STRING or
FIRE, a FIRE one with the stage CONFIRMED. The time it sets follows log entry 2, the order of several FAULTs of one
sampling log entry 23, the type a loop had before log entry 28, the model's choices. -/
def Obligations.FireEvaluation : Prop :=
  ∀ (ohms : Vector Nat 8) (g1 g2 : Int) (s : State), s.phase = .running →
    ∀ (p : Params) (now : Nat) (silent : Bool) (v : FireView) (sampled : FireUnit), p = s.params →
    now = max s.uptime s.clocks.fire → silent = decide (s.links.pnl.silence = none) →
    (v.isolated = true ↔ ∀ c, (s.string c).state.apart = true ∧ (s.string c).mainInput = .opened
      ∧ (s.string c).prechargeInput = .opened ∧ s.permit.breaker = .opened) →
    (v.heatRise = true ↔ ∃ c, (s.string c).state.apart = false
      ∧ ∃ (a : Addr) (k : Fin 4), (((s.cells c).sensors[a])[k]).flag = .heat) →
    (v.anyRise = true ↔ ∃ c, ∃ (a : Addr) (k : Fin 4), (((s.cells c).sensors[a])[k]).flag ≠ .none) →
    sampled = { s.fire with
      loops := sampled.loops
      gas1 := if 0 ≤ g1 ∧ g1 ≤ 2000 then .valid g1.toNat else .fault
      gas2 := if 0 ≤ g2 ∧ g2 ≤ 2000 then .valid g2.toNat else .fault } →
    (∀ i : Fin 8, sampled.loops[i] =
      { (s.fire.loops[i]).sample (sampleState ohms[i]) with seenType := p.loopTypes[i] }) →
    ∃ (t : State) (first : FireUnit), exec (.fireEvaluation ohms g1 g2) s = .next t
      ∧ t.uptime = now ∧ t.clocks = { s.clocks with fire := s.clocks.fire + 100 }
      ∧ (match s.links.pnl.firstChange, s.links.pnl.latestChange with
        | some a, some b => FirePass p v silent now (some a) sampled first ∧ FirePass p v silent now (some b) first t.fire
        | a, b => FirePass p v silent now (a.or b) sampled first ∧ t.fire = first)
      ∧ s.postsAll t .fault
          (((List.finRange 8).filterMap fun i =>
              if p.loopTypes[i] ≠ .unused ∧ ((sampled.loops[i]).state = .opened ∨ (sampled.loops[i]).state = .short)
                  ∧ ((sampled.loops[i]).state ≠ (s.fire.loops[i]).state ∨ (s.fire.loops[i]).seenType = .unused) then
                some (.loopFault (i.val + 1) (sampled.loops[i]).state)
              else none)
            ++ (if sampled.gas1 = .fault ∧ s.fire.gas1 ≠ .fault then [.gasFault 1] else [])
            ++ (if sampled.gas2 = .fault ∧ s.fire.gas2 ≠ .fault then [.gasFault 2] else [])
            ++ sampled.degradedDetails first ++ first.degradedDetails t.fire)
      ∧ s.postsAll t .fireStage (sampled.stageDetails first now ++ first.stageDetails t.fire now)
      ∧ (∀ l, (t.link l).quiet = (if l = .pnl then { (s.link l).quiet with firstChange := none, latestChange := none }
          else (s.link l).quiet))
      ∧ (first.stage = s.fire.stage → t.fire.stage = first.stage →
          t = { s with
            uptime := t.uptime, clocks := t.clocks, fire := t.fire, links := t.links, envelope := t.envelope
            choices := t.choices }
          ∧ (first.degraded = s.fire.degraded → t.fire.degraded = first.degraded →
            t.envelope = s.envelope ∧ t.choices = s.choices))
      ∧ (first.stage ≠ s.fire.stage ∨ first.degraded ≠ s.fire.degraded ∨ t.fire.stage ≠ first.stage
          ∨ t.fire.degraded ≠ first.degraded → ∀ charge discharge : Nat,
          charge = (match t.fire.stage with
            | .normal => 4000
            | .preAlert => p.preAlertCap.toNat
            | _ => 0) →
          discharge = (match t.fire.stage with
            | .normal => 4000
            | .preAlert | .alert => p.preAlertCap.toNat
            | _ => 0) →
          t.envelope.table.fs = (if t.fire.degraded
            then .both (min charge p.degradedCap.toNat) (min discharge p.degradedCap.toNat) else .both charge discharge))
      ∧ (first.stage ≠ s.fire.stage ∨ t.fire.stage ≠ first.stage → t.fire.stage.fire = true →
          t.plant.mode = (if s.links.pnl.taken = some .ventRequest then .purge else .fireHold))
      ∧ (∀ r ∈ t.permit.ring, r ∈ s.permit.ring ∨ r.cause = .noString ∨ (r.cause = .fire ∧ r.stage = .confirmed))
      ∧ t = { s with
          uptime := t.uptime, clocks := t.clocks, chains := t.chains, strings := t.strings, envelope := t.envelope
          plant := t.plant, fire := t.fire, store := t.store, agreement := t.agreement, permit := t.permit
          links := t.links, choices := t.choices }

/-- R36, R81, R90, R91, R105, R106, R108, R109, R113, R117, R119: the entries into ALERT and CONFIRMED by a fire
evaluation. One that leaves a stage below CONFIRMED for CONFIRMED or ISOLATED leaves every published limit and FS entry
zero, both strings apart, those that were not being OPEN, no permit connected, the plant held off, the heater's dwell
running from the entry, and in CONFIRMED the isolation timer running for 5 s. With at most one PNL code waiting: such an
entry is into CONFIRMED, a chiller stage that was ON changes now and one that was OFF keeps its time, and FIRE-STAGE is
posted once on every link. A change to a stage below CONFIRMED chooses the mode: PURGE with VENT-REQUEST taken, or in ALERT
with GAS recent; else RUN where it is wanted; else IDLE. An entry into CONFIRMED, or into ALERT from NORMAL or PRE-ALERT,
freezes a snapshot of the state before anything of the entry was handed on, with the classes active, else those recent,
else PANEL; it takes the next sequence number and the lowest empty slot, or slot 4, and SNAPSHOT is posted once on every
link. From NORMAL and PRE-ALERT the requested set of every fitted module is emptied. -/
def Obligations.AlertOrConfirmedEntry : Prop :=
  ∀ (ohms : Vector Nat 8) (g1 g2 : Int) (s t : State), exec (.fireEvaluation ohms g1 g2) s = .next t →
    (s.fire.stage.fire = false → t.fire.stage.fire = true →
      t.envelope.limits = ⟨0, 0, 0, 0⟩ ∧ t.envelope.table.fs = ⟨0, 0, 0, 0⟩ ∧ t.permit.state.connected = false
      ∧ (∀ c, (t.string c).state = (if (s.string c).state.apart = true then (s.string c).state else .opened))
      ∧ t.plant.HeldOff ∧ t.plant.heater = ⟨false, t.uptime, none⟩
      ∧ (t.fire.stage = .confirmed → t.fire.isolationTimer = some (t.uptime + 5000) ∧ t.fire.entered = t.uptime
          ∧ t.fire.incompleteReported = false))
    ∧ (s.links.pnl.firstChange = none ∨ s.links.pnl.latestChange = none →
      (s.fire.stage.fire = false → t.fire.stage.fire = true →
        t.fire.stage = .confirmed
        ∧ t.plant.chiller1 = (if s.plant.chiller1.on then ⟨false, t.uptime, none⟩
            else { s.plant.chiller1 with request := none })
        ∧ t.plant.chiller2 = (if s.plant.chiller2.on then ⟨false, t.uptime, none⟩
            else { s.plant.chiller2 with request := none })
        ∧ s.posts t .fireStage (.fireStage .confirmed s.fire.stage t.fire.activeClasses (t.fire.recentClasses t.uptime)))
      ∧ (t.fire.stage ≠ s.fire.stage → t.fire.stage.fire = false → ∀ purge wanted : Prop,
        (purge ↔ s.links.pnl.taken = some .ventRequest ∨ (t.fire.stage = .alert
          ∧ (t.fire.gas.active = true ∨ ∃ x, t.fire.gas.cleared = some x ∧ t.uptime < x + 120000))) →
        (wanted ↔ s.strings.one.state.apart = false ∨ s.strings.two.state.apart = false
          ∨ (∃ d, s.plant.demand = some d ∧ s.params.runThreshold ≤ d)
          ∨ ∃ x, s.coldest = some x ∧ x < s.params.heaterOn) →
        (purge → t.plant.mode = .purge) ∧ (¬purge → wanted → t.plant.mode = .run)
        ∧ (¬purge → ¬wanted → t.plant.mode = .idle))
      ∧ ∀ trigger : Trigger,
        (trigger = .confirmedEntry ∧ s.fire.stage.fire = false ∧ t.fire.stage = .confirmed)
          ∨ (trigger = .alertEntry ∧ (s.fire.stage = .normal ∨ s.fire.stage = .preAlert) ∧ t.fire.stage = .alert) →
        (∃ (x : Snapshot) (slot : Nat),
          x = {
            sequence := min 4294967295 (s.store.snapshots.lastSequence + 1)
            uptime := t.uptime / 1000
            trigger := trigger
            classes := if t.fire.activeClasses ≠ [] then t.fire.activeClasses
              else if t.fire.recentClasses t.uptime ≠ [] then t.fire.recentClasses t.uptime
              else [.panel]
            hottest := s.hottestSensors
            gas1 := if 0 ≤ g1 ∧ g1 ≤ 2000 then some g1.toNat else none
            gas2 := if 0 ≤ g2 ∧ g2 ≤ 2000 then some g2.toNat else none
            limits := s.envelope.limits
            revision := s.envelope.revision
            string1 := ((s.string .one).state.name, (s.string .one).state.cause)
            string2 := ((s.string .two).state.name, (s.string .two).state.cause)
            agreement := s.agreement.state
            permit := s.permit.state
            mode := s.plant.mode }
          ∧ t.store.snapshots.lastSequence = x.sequence
          ∧ t.store.snapshots.freezes = min 4294967295 (s.store.snapshots.freezes + 1)
          ∧ (t.store.snapshots.slots, slot)
            = (match s.store.snapshots.slot1, s.store.snapshots.slot2, s.store.snapshots.slot3 with
              | none, b, c => ([some x, b, c, s.store.snapshots.slot4], 1)
              | a, none, c => ([a, some x, c, s.store.snapshots.slot4], 2)
              | a, b, none => ([a, b, some x, s.store.snapshots.slot4], 3)
              | a, b, c => ([a, b, c, some x], 4))
          ∧ s.posts t .snapshot (.snapshot slot x.sequence trigger))
        ∧ t.store = { s.store with snapshots := t.store.snapshots }
        ∧ (s.fire.stage = .alert → t.chains = s.chains)
        ∧ (s.fire.stage ≠ .alert → ∀ c, t.chain c = { s.chain c with modules := (t.chain c).modules }
            ∧ ∀ a : Addr, (t.chain c).modules[a] = (if (s.chain c).fitted a then
              { (s.chain c).modules[a] with requested := [] } else (s.chain c).modules[a])))

/-- R107, R108, R110: the isolation timer and RESET-FIRE. A timer that runs out in CONFIRMED posts ISOLATION-INCOMPLETE
once, with what keeps the container from being isolated. RESET-FIRE is DONE with no effect in NORMAL and REFUSED-STATE in
PRE-ALERT and ALERT; in CONFIRMED and ISOLATED it returns the stage to NORMAL where no class is recent and the panel shows
no alarm, and is REFUSED-STATE otherwise. No string, permit or snapshot changes by it. The time it sets follows log entry 2,
the model's choice. -/
def Obligations.FireReturn : Prop :=
  ∀ s : State,
    (s.fire.isolationTimer = none → exec .isolationTimerExpiry s = .next s)
    ∧ (∀ x, s.fire.isolationTimer = some x →
      (s.fire.stage ≠ .confirmed ∨ s.fire.incompleteReported = true →
        exec .isolationTimerExpiry s = .next { s with
          uptime := max s.uptime x, fire := { s.fire with isolationTimer := none } })
      ∧ (s.fire.stage = .confirmed → s.fire.incompleteReported = false →
        exec .isolationTimerExpiry s = .next (State.post { s with
          uptime := max s.uptime x, fire := { s.fire with isolationTimer := none, incompleteReported := true }
          } .fault (.isolationIncomplete s.isolationGaps))))
    ∧ (s.isolationGaps = [] ↔ ∀ c, (s.string c).state.apart = true ∧ (s.string c).mainInput = .opened
        ∧ (s.string c).prechargeInput = .opened ∧ s.permit.breaker = .opened)
    ∧ ∀ (l : Link) (q : Byte) (r : Request) (conditions : Prop), r = ⟨13, q, []⟩ → s.delivers l r →
      (conditions ↔ s.fire.panelCode ≠ some .panelAlarm ∧ ∀ k, (s.fire.criterion k).active = false
        ∧ ∀ x, (s.fire.criterion k).cleared = some x → x + 120000 ≤ s.uptime) →
      (s.fire.stage = .normal → exec (.resetFire l q []) s = .next (s.answerHead l r .done []))
      ∧ (s.fire.stage = .preAlert ∨ s.fire.stage = .alert →
        exec (.resetFire l q []) s = .next (s.answerHead l r .refusedState []))
      ∧ (s.fire.stage.fire = true → ¬conditions →
        exec (.resetFire l q []) s = .next (s.answerHead l r .refusedState []))
      ∧ (s.fire.stage.fire = true → conditions → ∃ t, exec (.resetFire l q []) s = .next t
        ∧ t.fire = { s.fire with
            stage := .normal, entered := s.uptime, quietSince := none, isolationTimer := none, incompleteReported := false }
        ∧ t.envelope.table = { s.envelope.table with
            fs := if s.fire.degraded then .both (min 4000 s.params.degradedCap.toNat) (min 4000 s.params.degradedCap.toNat)
              else .both 4000 4000 }
        ∧ t.plant.mode = (if s.links.pnl.taken = some .ventRequest then .purge else if s.runWanted then .run else .idle)
        ∧ s.posts t .fireStage (.fireStage .normal s.fire.stage [] [])
        ∧ t.quietLinks = (s.answerHead l r .done []).quietLinks
        ∧ t = { s with
            fire := t.fire, envelope := t.envelope, plant := t.plant, links := t.links, choices := t.choices })

/-- R106: from every state in which it holds, a step keeps that in CONFIRMED and ISOLATED every published limit is zero, the
permit line is not asserted, and no string is in PRECHARGE, JOINED or OPENING, with what the part keeps it by. -/
def Obligations.StepKeepsFireIsolation : Prop :=
  ∀ s t : State, s.FireKept → step s = .next t → t.FireKept

/-! ## Snapshots and statistics (chapter 7) -/

/-- R121, R124, R125, R128: the histogram sample and the two clearing requests. A string samples the hottest temperature
while its head is CURRENT with a current of 5.0 A or more: one more in its bin and in the count, the whole histogram halved
first where the bin is full. CLEAR-SNAPSHOTS empties the slots in NORMAL, keeping the last sequence number, and is
REFUSED-STATE in any other stage. CLEAR-STATS clears every statistic and no snapshot. The time it sets follows log entry 2,
the model's choice. -/
def Obligations.StatisticsCommands : Prop :=
  ∀ s : State,
    (s.phase = .running → ∃ t, exec .histogramSample s = .next t
      ∧ t = { s with
          uptime := max s.uptime s.clocks.histogram, clocks := { s.clocks with histogram := s.clocks.histogram + 1000 }
          store := { s.store with strings := t.store.strings } }
      ∧ ∀ c, ((s.chain c).head.status ≠ .current ∨ (s.chain c).head.current.natAbs < 50 ∨ (s.chain c).hottest = none →
            t.store.strings.get c = s.store.strings.get c)
        ∧ ∀ (x : Int) (i : Fin 6) (old new : Histogram), (s.chain c).head.status = .current →
            50 ≤ (s.chain c).head.current.natAbs → (s.chain c).hottest = some x →
            i = (if x < 0 then 0 else if x < 150 then 1 else if x < 300 then 2 else if x < 400 then 3
              else if x < 500 then 4 else 5) →
            old = (s.store.strings.get c).histogram → new = (t.store.strings.get c).histogram →
            t.store.strings.get c = { s.store.strings.get c with histogram := new }
            ∧ (old.bin i < 16777214 →
                new.count = old.count + 1 ∧ ∀ j, new.bin j = old.bin j + if j = i then 1 else 0)
            ∧ (16777214 ≤ old.bin i →
                new.count = (old.bin 0 / 2 + old.bin 1 / 2 + old.bin 2 / 2 + old.bin 3 / 2 + old.bin 4 / 2 + old.bin 5 / 2) + 1
                  ∧ ∀ j, new.bin j = old.bin j / 2 + if j = i then 1 else 0))
    ∧ ∀ (l : Link) (q : Byte),
      (s.delivers l ⟨16, q, []⟩ → s.fire.stage = .normal →
        exec (.clearSnapshots l q []) s = .next ({ s with store := { s.store with
          snapshots := ⟨none, none, none, none, s.store.snapshots.lastSequence, 0⟩ } }.answerHead l ⟨16, q, []⟩ .done []))
      ∧ (s.delivers l ⟨16, q, []⟩ → s.fire.stage ≠ .normal →
        exec (.clearSnapshots l q []) s = .next (s.answerHead l ⟨16, q, []⟩ .refusedState []))
      ∧ (s.delivers l ⟨18, q, []⟩ →
        exec (.clearStats l q []) s = .next ({ s with store := { s.store with
          strings := ⟨.zero, .zero⟩, links := ⟨.zero, .zero, .zero, .zero⟩ } }.answerHead l ⟨18, q, []⟩ .done []))

/-- R119, R125: from every state in which it holds, a step keeps that the snapshot slots are filled in ascending order, and
that the six bins of each histogram sum to its sample count with none above 16777214. -/
def Obligations.StepKeepsRecords : Prop :=
  ∀ s t : State, s.recordsKept → step s = .next t → t.recordsKept

/-! ## Grid agreement (chapter 8) -/

/-- R132: the state, the mismatch flags and the resolved values that the offers held and the station lapse give. -/
def Obligations.ResolutionRule : Prop :=
  ∀ (lapse : Bool),
    resolution none none lapse = (.none, ⟨false, false, false⟩, none)
    ∧ ∀ (cnv stn : Offer) (condition minImport rampDiffers : Bool),
      resolution (some cnv) none lapse = (.offered, ⟨false, false, false⟩, none)
      ∧ resolution none (some stn) lapse = (.offered, ⟨false, false, false⟩, none)
      ∧ ((condition = true ↔ cnv.condition ≠ .ok
            ∨ (stn.condition ≠ .ok ∧ ¬(stn.condition = .offline ∧ lapse = true))) →
          (minImport = true ↔ cnv.importLimit < stn.minImport) → (rampDiffers = true ↔ cnv.ramp ≠ stn.ramp) →
          resolution (some cnv) (some stn) lapse =
            (if condition || minImport then .mismatch else if lapse then .lapsed else .resolved,
              ⟨minImport, condition, rampDiffers⟩,
              if condition || minImport then none
              else some ⟨min stn.importLimit cnv.importLimit, min stn.exportLimit cnv.exportLimit, min cnv.ramp stn.ramp⟩))

/-- R129 to R133, R138 to R141, R150, R159: OFFER. A CNV offer is eight bytes; an STN offer adds a minimum import, a minute
behind its flag, and up to six segments in strictly ascending order. A payload that is no offer of its link is BAD-FORMAT.
An offer with the last taken toggle of its party is a repeat: answered with the standing state and flags, nothing else. Any
other is taken, clamped: held in its party's place, an STN offer setting the minute clock and the station lapse, the
agreement resolved afresh, AGREEMENT posted once on every link, GA computed and delivered as GaComputed says, the count it
used held as counted by log entry 22; a state newly NONE, OFFERED or MISMATCH leaves no permit connected. The answer
carries the acceptance, whose ramp's place follows log entry 29, the model's choices. -/
def Obligations.OfferIsTaken : Prop :=
  ∀ (l : Link) (q : Byte) (payload : List Byte) (s : State) (r : Request), r = ⟨7, q, payload⟩ → s.delivers l r →
    (∀ t k i1 i2 e1 e2 r1 r2 : Byte, l = .cnv → payload = [t, k, i1, i2, e1, e2, r1, r2] →
      (1 < t.toNat ∨ 3 < k.toNat → parseOffer l payload = none)
      ∧ ∀ (toggle : Bool) (c : RemoteCondition), t.toNat = toggle.toNat → k.toNat = c.ctorIdx →
        parseOffer l payload = some ⟨toggle, c, 256 * i1.toNat + i2.toNat, 256 * e1.toNat + e2.toNat,
          256 * r1.toNat + r2.toNat, 0, none, []⟩)
    ∧ (l = .cnv → payload.length ≠ 8 → parseOffer l payload = none)
    ∧ (l = .stn → payload.length < 14 → parseOffer l payload = none)
    ∧ (∀ (t k i1 i2 e1 e2 r1 r2 n1 n2 flag m1 m2 count : Byte) (rest : List Byte), l = .stn →
      payload = t :: k :: i1 :: i2 :: e1 :: e2 :: r1 :: r2 :: n1 :: n2 :: flag :: m1 :: m2 :: count :: rest →
      (1 < t.toNat ∨ 3 < k.toNat ∨ 1 < flag.toNat ∨ 6 < count.toNat ∨ rest.length ≠ 6 * count.toNat
          ∨ (flag = 1 ∧ 1439 < 256 * m1.toNat + m2.toNat) → parseOffer l payload = none)
      ∧ ∀ (toggle : Bool) (c : RemoteCondition) (raws : List (Byte × Byte × Byte × Byte × Byte × Byte))
          (segments : List Segment), t.toNat = toggle.toNat → k.toNat = c.ctorIdx → flag.toNat ≤ 1 →
        (flag = 1 → 256 * m1.toNat + m2.toNat ≤ 1439) → count.toNat = raws.length → count.toNat ≤ 6 →
        rest = raws.flatMap (fun (a, b, d, e, f, g) => [a, b, d, e, f, g]) →
        segments = raws.map (fun (a, b, d, e, f, g) =>
          ⟨256 * a.toNat + b.toNat, 256 * d.toNat + e.toNat, 256 * f.toNat + g.toNat⟩) →
        ((∃ g ∈ segments, 1439 < g.start) ∨ ¬segments.Pairwise (fun g h => g.start < h.start) →
          parseOffer l payload = none)
        ∧ ((∀ g ∈ segments, g.start ≤ 1439) → segments.Pairwise (fun g h => g.start < h.start) →
          parseOffer l payload = some ⟨toggle, c, 256 * i1.toNat + i2.toNat, 256 * e1.toNat + e2.toNat,
            256 * r1.toNat + r2.toNat, 256 * n1.toNat + n2.toNat,
            if flag = 1 then some (256 * m1.toNat + m2.toNat) else none, segments⟩))
    ∧ (parseOffer l payload = none → exec (.offer l q payload) s = .next (s.answerHead l r .badFormat []))
    ∧ ∀ (raw o : Offer) (code : AnswerCode), parseOffer l payload = some raw →
      o = { raw with
        importLimit := min 50000 raw.importLimit, exportLimit := min 50000 raw.exportLimit
        minImport := min 50000 raw.minImport, ramp := max 1 (min 50000 raw.ramp)
        segments := raw.segments.map fun g =>
          { g with importLimit := min 50000 g.importLimit, exportLimit := min 50000 g.exportLimit } } →
      code = (if o = raw then .done else .clamped) →
      ((if l = .cnv then s.agreement.cnvToggle else s.agreement.stnToggle) = some o.toggle →
        exec (.offer l q payload) s = .next (s.answerHead l r code (s.acceptance o)))
      ∧ ((if l = .cnv then s.agreement.cnvToggle else s.agreement.stnToggle) ≠ some o.toggle →
        ∃ t, exec (.offer l q payload) s = .next t
          ∧ (l = .cnv → t.agreement.cnvOffer = some o ∧ t.agreement.cnvToggle = some o.toggle
              ∧ t.agreement.stnOffer = s.agreement.stnOffer ∧ t.agreement.stnToggle = s.agreement.stnToggle
              ∧ t.agreement.lapse = s.agreement.lapse ∧ t.agreement.clock = s.agreement.clock)
          ∧ (l = .stn → t.agreement.stnOffer = some o ∧ t.agreement.stnToggle = some o.toggle
              ∧ t.agreement.cnvOffer = s.agreement.cnvOffer ∧ t.agreement.cnvToggle = s.agreement.cnvToggle
              ∧ (∀ m, o.minute = some m → t.agreement.clock = some ⟨m, s.uptime + 60000⟩)
              ∧ (o.minute = none → t.agreement.clock = s.agreement.clock)
              ∧ (o.condition ≠ .offline → t.agreement.lapse = false)
              ∧ (o.condition = .offline → s.agreement.state = .resolved ∨ s.agreement.state = .lapsed →
                  t.agreement.lapse = true)
              ∧ (o.condition = .offline → s.agreement.state ≠ .resolved → s.agreement.state ≠ .lapsed →
                  t.agreement.lapse = s.agreement.lapse))
          ∧ (t.agreement.state, t.agreement.flags, t.agreement.resolved)
              = resolution t.agreement.cnvOffer t.agreement.stnOffer t.agreement.lapse
          ∧ s.posts t .agreement (.agreement t.agreement.state t.agreement.flags)
          ∧ (t.agreement.state ≠ s.agreement.state →
              t.agreement.state = .none ∨ t.agreement.state = .offered ∨ t.agreement.state = .mismatch →
              t.permit.state.connected = false)
          ∧ (t.agreement.state = s.agreement.state ∨ t.agreement.state = .resolved ∨ t.agreement.state = .lapsed →
              t.permit = s.permit)
          ∧ GaComputed t
          ∧ t.envelope.table = { s.envelope.table with ga := .both t.agreement.gaCharge t.agreement.gaDischarge }
          ∧ (∀ k, (t.link k).out = (s.link k).out ++ if k = l then [⟨0x87, q, code, t.acceptance o, true⟩] else [])
          ∧ t = { s with agreement := t.agreement, permit := t.permit, envelope := t.envelope, links := t.links })

/-- R136 to R141: AGREEMENT-RESTART discards both offers, the toggles and the lapse, keeps the minute clock, and leaves the
state NONE, the GA row zero and no permit that was connected under another state connected. A minute boundary moves the
clock one minute on, 1439 to 0, and computes GA: each direction's power basis, at the bus voltage of the first CURRENT head
or the nominal one, never below 100.0 V, shared among the JOINED strings, at most 400.0 A. The basis in RESOLVED is the
resolved power, under a schedule the lower of it and the limit of the segment in force: the last that starts at or before
the minute, or the last of the list. The count used is reported as it stands, 0 with none JOINED, by log entry 22, and the
time it sets follows log entry 2, the model's choices. -/
def Obligations.RestartAndMinute : Prop :=
  ∀ s : State,
    (∀ (l : Link) (q : Byte), s.delivers l ⟨8, q, []⟩ → ∃ t, exec (.agreementRestart l q []) s = .next t
      ∧ t.agreement.cnvOffer = none ∧ t.agreement.stnOffer = none ∧ t.agreement.cnvToggle = none
      ∧ t.agreement.stnToggle = none ∧ t.agreement.lapse = false ∧ t.agreement.state = .none
      ∧ t.agreement.resolved = none ∧ t.agreement.clock = s.agreement.clock
      ∧ t.envelope.table = { s.envelope.table with ga := ⟨0, 0, 0, 0⟩ }
      ∧ (s.agreement.state ≠ .none → t.permit.state.connected = false
          ∧ s.posts t .agreement (.agreement .none ⟨false, false, false⟩))
      ∧ (s.agreement.state = .none → t.permit = s.permit
          ∧ ∀ k, (t.link k).notice .agreement = (s.link k).notice .agreement)
      ∧ t.quietLinks = (s.answerHead l ⟨8, q, []⟩ .done []).quietLinks
      ∧ t = { s with agreement := t.agreement, permit := t.permit, envelope := t.envelope, links := t.links })
    ∧ (s.agreement.clock = none → exec .minuteBoundary s = .next s)
    ∧ ∀ k, s.agreement.clock = some k → ∃ t, exec .minuteBoundary s = .next t
      ∧ t.agreement.clock = some ⟨if 1439 ≤ k.minute then 0 else k.minute + 1, k.boundary + 60000⟩
      ∧ (∀ v : Nat,
          (s.chains.one.head.status = .current → v = max 1000 s.chains.one.head.busVoltage) →
          (s.chains.one.head.status ≠ .current → s.chains.two.head.status = .current →
            v = max 1000 s.chains.two.head.busVoltage) →
          (s.chains.one.head.status ≠ .current → s.chains.two.head.status ≠ .current →
            v = max 1000 s.params.nominalBus.toNat) →
          t.agreement.bus.map Prod.fst = some v
          ∧ t.agreement.gaCharge = min 4000 (t.agreement.basisImport * 10000 / v / max 1 s.joinedCount)
          ∧ t.agreement.gaDischarge = min 4000 (t.agreement.basisExport * 10000 / v / max 1 s.joinedCount))
      ∧ (s.agreement.state = .lapsed → t.agreement.basisImport = s.params.fallbackImport.toNat
          ∧ t.agreement.basisExport = s.params.fallbackExport.toNat)
      ∧ (s.agreement.state ≠ .lapsed → s.agreement.state ≠ .resolved →
          t.agreement.basisImport = 0 ∧ t.agreement.basisExport = 0)
      ∧ (∀ x, s.agreement.state = .resolved → s.agreement.resolved = some x → s.agreement.stnOffer.map Offer.segments = some [] →
          t.agreement.basisImport = x.importPower ∧ t.agreement.basisExport = x.exportPower)
      ∧ (∀ x o g before after minute, s.agreement.state = .resolved → s.agreement.resolved = some x →
          s.agreement.stnOffer = some o → o.segments = before ++ g :: after →
          minute = (if 1439 ≤ k.minute then 0 else k.minute + 1) →
          (g.start ≤ minute ∧ ∀ h ∈ after, minute < h.start) ∨ (after = [] ∧ ∀ h ∈ o.segments, minute < h.start) →
          t.agreement.basisImport = min g.importLimit x.importPower
            ∧ t.agreement.basisExport = min g.exportLimit x.exportPower)
      ∧ t.agreement.countUsed = some s.joinedCount
      ∧ t.agreement.state = s.agreement.state ∧ t.agreement.resolved = s.agreement.resolved
      ∧ t.agreement.cnvOffer = s.agreement.cnvOffer ∧ t.agreement.stnOffer = s.agreement.stnOffer
      ∧ t.envelope.table = { s.envelope.table with ga := .both t.agreement.gaCharge t.agreement.gaDischarge }
      ∧ t = { s with
          uptime := max s.uptime k.boundary, agreement := t.agreement, envelope := t.envelope, links := t.links }

/-- R132, R140: from every state in which it holds, a step keeps that the GA row is zero in NONE, OFFERED and MISMATCH, and
that in RESOLVED both offers are held and neither the resolved values nor the power basis exceed either party's limits. -/
def Obligations.StepKeepsAgreement : Prop :=
  ∀ s t : State, s.agreementKept → step s = .next t → t.agreementKept

/-! ## Grid connection permit (chapter 9) -/

/-- R145 to R148, R155: CONNECT and DISCONNECT. CONNECT takes an OPEN permit whose conditions hold to CLOSE-PENDING for 30
s; it is DONE in CLOSE-PENDING and in CLOSED with no release pending, REFUSED-STATE otherwise. DISCONNECT takes
CLOSE-PENDING to OPEN and starts the 5 s release of CLOSED once; it is always DONE. Each change posts BREAKER, the answer
carries the permit report, and nothing else changes. -/
def Obligations.ConnectAndDisconnect : Prop :=
  ∀ (l : Link) (q : Byte) (s : State),
    (∀ (r : Request) (conditions : Prop), r = ⟨10, q, []⟩ → s.delivers l r →
      (conditions ↔ s.agreement.state = .resolved ∧ 1 ≤ s.joinedCount
        ∧ (s.fire.stage = .normal ∨ s.fire.stage = .preAlert) ∧ (l = .stn → s.permit.stnCode = some .inService)
        ∧ s.permit.cnvCode ≠ some .fault ∧ s.permit.stnCode ≠ some .shed ∧ s.permit.breaker = .opened) →
      (s.permit.state = .closePending ∨ (s.permit.state = .closed ∧ s.permit.releasePending = false) →
        exec (.connect l q []) s = .next (s.answerHead l r .done s.permitItems))
      ∧ ((s.permit.state = .closed ∧ s.permit.releasePending = true) ∨ s.permit.state = .tripped
          ∨ s.permit.state = .lockedOut ∨ (s.permit.state = .opened ∧ ¬conditions) →
        exec (.connect l q []) s = .next (s.answerHead l r .refusedState s.permitItems))
      ∧ (s.permit.state = .opened → conditions → ∀ t,
        t = State.post { s with
          permit := { s.permit with state := .closePending, closeTimer := some (s.uptime + 30000) } }
          .breaker (.breaker .opened .closePending .connect) →
        exec (.connect l q []) s = .next (t.answerHead l r .done t.permitItems)))
    ∧ ∀ r : Request, r = ⟨11, q, []⟩ → s.delivers l r →
      (s.permit.state = .opened ∨ s.permit.state = .tripped ∨ s.permit.state = .lockedOut
          ∨ (s.permit.state = .closed ∧ s.permit.releasePending = true) →
        exec (.disconnect l q []) s = .next (s.answerHead l r .done s.permitItems))
      ∧ (s.permit.state = .closePending → ∀ t,
        t = State.post { s with permit := { s.permit with state := .opened, closeTimer := none } }
          .breaker (.breaker .closePending .opened .disconnect) →
        exec (.disconnect l q []) s = .next (t.answerHead l r .done t.permitItems))
      ∧ (s.permit.state = .closed → s.permit.releasePending = false → ∀ t,
        t = State.post { s with
          permit := { s.permit with releasePending := true, releaseTimer := some (s.uptime + 5000) } }
          .breaker (.breaker .closed .closed .disconnect) →
        exec (.disconnect l q []) s = .next (t.answerHead l r .done t.permitItems))

/-- R147, R148, R150, R153 to R156, R175: the breaker feedback and CLEAR-LOCK of the breaker. CLOSED in CLOSE-PENDING makes
CLOSED, in CLOSED nothing, in any other state a 200 ms trip pulse for an unpermitted close. OPEN in CLOSED ends a pending
release, or is an EXTERNAL trip without one. CLEAR-LOCK takes LOCKED-OUT to OPEN, the trip times emptied, once the feedback
reads OPEN, and its answers carry the permit report. That a part that does not run only stores the level is log entry 7, an
inference. -/
def Obligations.BreakerFeedbackAndClearLock : Prop :=
  ∀ s : State,
    exec (.breakerFeedbackChange s.permit.breaker) s = .next s
    ∧ (∀ level, s.phase ≠ .running →
      exec (.breakerFeedbackChange level) s = .next { s with permit := { s.permit with breaker := level } })
    ∧ (s.phase = .running → s.permit.breaker = .opened →
      (s.permit.state = .closePending →
        exec (.breakerFeedbackChange .closed) s = .next (State.post { s with permit := { s.permit with
          breaker := .closed, state := .closed, releasePending := false, closeTimer := none } }
          .breaker (.breaker .closePending .closed .closed)))
      ∧ (s.permit.state = .closed →
        exec (.breakerFeedbackChange .closed) s = .next { s with permit := { s.permit with breaker := .closed } })
      ∧ (s.permit.state ≠ .closePending → s.permit.state ≠ .closed →
        exec (.breakerFeedbackChange .closed) s = .next (State.post { s with permit := { s.permit with
          breaker := .closed, pulse := some (s.uptime + 200) } }
          .breaker (.breaker s.permit.state s.permit.state .unpermittedClose))))
    ∧ (s.phase = .running → s.permit.breaker = .closed →
      (s.permit.state ≠ .closed →
        exec (.breakerFeedbackChange .opened) s = .next { s with permit := { s.permit with breaker := .opened } })
      ∧ (s.permit.state = .closed → s.permit.releasePending = true →
        exec (.breakerFeedbackChange .opened) s = .next (State.post { s with permit := { s.permit with
          breaker := .opened, state := .opened, releasePending := false, releaseTimer := none } }
          .breaker (.breaker .closed .opened .released)))
      ∧ (s.permit.state = .closed → s.permit.releasePending = false →
        exec (.breakerFeedbackChange .opened) s
          = .next (State.trip { s with permit := { s.permit with breaker := .opened } } .external)))
    ∧ ∀ (l : Link) (q : Byte) (r : Request), r = ⟨20, q, [0]⟩ → s.delivers l r →
      (s.permit.state = .opened → exec (.clearLockBreaker l q [0]) s = .next (s.answerHead l r .done s.permitItems))
      ∧ (s.permit.state ≠ .opened → s.permit.state ≠ .lockedOut ∨ s.permit.breaker = .closed →
        exec (.clearLockBreaker l q [0]) s = .next (s.answerHead l r .refusedState s.permitItems))
      ∧ (s.permit.state = .lockedOut → s.permit.breaker = .opened → ∀ t,
        t = State.post { s with permit := { s.permit with state := .opened, tripTimes := [] } }
          .breaker (.breaker .lockedOut .opened .clearLock) →
        exec (.clearLockBreaker l q [0]) s = .next (t.answerHead l r .done t.permitItems))

/-- R145, R147, R148, R152: the permit unit's timers. The close-pending timer withdraws the permit, the release timer starts
a trip pulse where the feedback still reads CLOSED, the reclose timer returns TRIPPED to OPEN, each posting BREAKER; the end
of the pulse withdraws the trip line. A stopped timer does nothing. The time it sets follows log entry 2, the model's
choice. -/
def Obligations.PermitTimers : Prop :=
  ∀ s : State,
    (s.permit.closeTimer = none → exec .closePendingTimerExpiry s = .next s)
    ∧ (s.permit.releaseTimer = none → exec .releaseTimerExpiry s = .next s)
    ∧ (s.permit.recloseTimer = none → exec .recloseTimerExpiry s = .next s)
    ∧ (s.permit.pulse = none → exec .tripPulseEnd s = .next s)
    ∧ ∀ x : Nat,
      (s.permit.closeTimer = some x → s.permit.state = .closePending →
        exec .closePendingTimerExpiry s = .next (State.post { s with
          uptime := max s.uptime x, permit := { s.permit with state := .opened, closeTimer := none } }
          .breaker (.breaker .closePending .opened .closeTimeout)))
      ∧ (s.permit.releaseTimer = some x → s.permit.breaker = .closed →
        exec .releaseTimerExpiry s = .next (State.post { s with
          uptime := max s.uptime x
          permit := { s.permit with releaseTimer := none, pulse := some (max s.uptime x + 200) } }
          .breaker (.breaker s.permit.state s.permit.state .releaseTimeout)))
      ∧ (s.permit.releaseTimer = some x → s.permit.breaker = .opened →
        exec .releaseTimerExpiry s = .next { s with
          uptime := max s.uptime x, permit := { s.permit with releaseTimer := none } })
      ∧ (s.permit.recloseTimer = some x → s.permit.state = .tripped →
        exec .recloseTimerExpiry s = .next (State.post { s with
          uptime := max s.uptime x, permit := { s.permit with state := .opened, recloseTimer := none } }
          .breaker (.breaker .tripped .opened .reclose)))
      ∧ (s.permit.pulse = some x →
        exec .tripPulseEnd s = .next { s with uptime := max s.uptime x, permit := { s.permit with pulse := none } })

/-- R149, R150, R163: the permit evaluation. Every code waiting in the CNV and STN change buffers is taken, each buffer left
empty, the last of each in use; a FAULT of the converter or a SHED of the station trips a connected permit, once. With
neither waiting, or no permit connected, the permit state stands. The next evaluation comes 100 ms later. The time it sets
follows log entry 2, the model's choice. -/
def Obligations.PermitEvaluation : Prop :=
  ∀ (s : State) (cnv stn : List Code) (bad : Prop), s.phase = .running →
    cnv = (s.link .cnv).firstChange.toList ++ (s.link .cnv).latestChange.toList →
    stn = (s.link .stn).firstChange.toList ++ (s.link .stn).latestChange.toList →
    (bad ↔ s.permit.state.connected = true ∧ (.fault ∈ cnv ∨ .shed ∈ stn)) →
    ∃ t, exec .permitEvaluation s = .next t
      ∧ t.uptime = max s.uptime s.clocks.permit ∧ t.clocks = { s.clocks with permit := s.clocks.permit + 100 }
      ∧ t.permit.cnvCode = cnv.getLast?.or s.permit.cnvCode ∧ t.permit.stnCode = stn.getLast?.or s.permit.stnCode
      ∧ (t.quietLinks = ((s.modLink .cnv fun k => { k with firstChange := none, latestChange := none }).modLink .stn
          fun k => { k with firstChange := none, latestChange := none }).quietLinks)
      ∧ (¬bad → t.permit = { s.permit with cnvCode := t.permit.cnvCode, stnCode := t.permit.stnCode })
      ∧ (bad → t.permit.state.connected = false ∧ t.permit.pulse = some (t.uptime + 200)
          ∧ t.permit.tripTimes = (if 3 ≤ s.permit.tripTimes.length then s.permit.tripTimes.drop 1 else s.permit.tripTimes)
              ++ [t.uptime]
          ∧ ∃ k, (t.permit.ring.getLast?.map TripRecord.cause) = some k
            ∧ ((k = .converterFault ∧ .fault ∈ cnv) ∨ (k = .shed ∧ .shed ∈ stn)))
      ∧ t = { s with
          uptime := t.uptime, clocks := t.clocks, permit := t.permit, links := t.links, choices := t.choices }

/-- R145, R150, R151: a trip. Outside CLOSE-PENDING and CLOSED it is none. In them it is noted among the last three trip
times, recorded among the last eight trip records, starts the 200 ms pulse, stops the running timers, and leads to
LOCKED-OUT where three trips lie within 600 s, to TRIPPED with the reclose timer running otherwise; BREAKER is posted. -/
def Obligations.TripIsTaken : Prop :=
  ∀ (k : TripCause) (s : State),
    (s.permit.state ≠ .closePending → s.permit.state ≠ .closed → s.trip k = s)
    ∧ (s.permit.state = .closePending ∨ s.permit.state = .closed →
      ∀ (times : List Nat) (locked : Prop) (x : TripRecord) (reclose : Nat),
        times = (if 3 ≤ s.permit.tripTimes.length then s.permit.tripTimes.drop 1 else s.permit.tripTimes) ++ [s.uptime] →
        (locked ↔ ∃ a b, times = [a, b, s.uptime] ∧ s.uptime ≤ a + 600000) →
        x = ⟨k, s.uptime / 1000, s.agreement.state, s.fire.stage, s.agreement.bus.map Prod.fst,
          if s.chains.one.head.status = .current then some s.chains.one.head.current else none,
          if s.chains.two.head.status = .current then some s.chains.two.head.current else none⟩ →
        reclose = s.uptime + 1000 * s.params.recloseDelay.toNat →
        ∃ new : Permit,
          new = { s.permit with
            state := new.state, releasePending := false, closeTimer := none, releaseTimer := none
            recloseTimer := new.recloseTimer, pulse := some (s.uptime + 200), tripTimes := times
            ring := (if 8 ≤ s.permit.ring.length then s.permit.ring.drop 1 else s.permit.ring) ++ [x] }
          ∧ (locked → new.state = .lockedOut ∧ new.recloseTimer = none)
          ∧ (¬locked → new.state = .tripped ∧ new.recloseTimer = some reclose)
          ∧ s.trip k = State.post { s with permit := new } .breaker (.breaker s.permit.state new.state (.trip k)))

/-- R145, R150: from every state in which it holds, a step keeps that in CLOSE-PENDING and CLOSED a string is JOINED and the
fire stage is below CONFIRMED, and that the permit line is asserted in no other state. -/
def Obligations.StepKeepsPermit : Prop :=
  ∀ s t : State, s.permitKept → step s = .next t → t.permitKept

/-! ## Station links (chapter 10) -/

/-- R158, R160: what one side of a link sends the other receives. Every telegram with a payload of at most 60 bytes, as R158
lays it out with its length, its CRC-16 and its escapes, holds no raw flag and no raw status marker, and is received as one
good telegram with the kind, the sequence number and the payload that were sent. -/
def Obligations.TelegramRoundTrip : Prop :=
  ∀ (kind seq : Byte) (payload : List Byte), payload.length ≤ 60 →
    receive (telegramBytes kind seq payload) = [.good kind seq payload]
      ∧ ∀ b ∈ telegramBytes kind seq payload, b ≠ 0x7E ∧ b ≠ 0x7B

/-- R160, R164, R165, R175: a telegram on a running part. A good one restarts the silence timer of its link and puts its
request at the end of the queue, or, with four there, drops and counts it and posts OVERRUN. A bad one is counted and
nothing else happens; fewer than five bytes, a payload length above 60 or one that disagrees with the bytes, a wrong
CRC-16, and a 0x7D followed directly by the closing flag are bad. A raw 0x7B ends the telegram as a bad one and is the
marker of a status word, which is handled as any other; that a 0x7B right after the opening flag counts a bad telegram too,
and that the bytes after the code byte are ignored, is log entry 8, an inference. No bytes between two flags, and a part in
reset or loading, change nothing; nor does a part without supply take it (log entry 7, an inference). -/
def Obligations.TelegramIsHandled : Prop :=
  ∀ (l : Link) (raw : List Byte) (s : State),
    (s.phase ≠ .running ∨ raw = [] → exec (.telegram l raw) s = .next s)
    ∧ (s.phase = .running → receive raw = [.bad] → exec (.telegram l raw) s = .next { s with
        store := { s.store with links := s.store.links.mod l fun n => { n with crcBad := min 4294967295 (n.crcBad + 1) } } })
    ∧ (∀ kind seq payload heard, s.phase = .running → receive raw = [.good kind seq payload] →
      heard = s.uptime + (match l with
        | .cnv => 2000
        | .stn => 1000 * s.params.stnTimeout.toNat
        | .pnl => 10000
        | .svc => 5000) →
      ((s.link l).queue.length < 4 → exec (.telegram l raw) s = .next { s with
        links := s.links.mod l fun k => { k with
          silence := some heard, queue := k.queue ++ [⟨kind, seq, payload⟩] } })
      ∧ (4 ≤ (s.link l).queue.length → exec (.telegram l raw) s = .next (State.post { s with
        links := s.links.mod l fun k => { k with silence := some heard }
        store := { s.store with links := s.store.links.mod l fun n => { n with dropped := min 4294967295 (n.dropped + 1) } }
        } .overrun (.overrun l))))
    ∧ (∀ bytes, raw ≠ [] → (∀ b ∈ raw, b ≠ 0x7E ∧ b ≠ 0x7B) → unescape raw = some bytes →
        (bytes.length < 5 → receive raw = [.bad])
        ∧ ∀ kind seq len rest, bytes = kind :: seq :: len :: rest →
          60 < len.toNat ∨ rest.length ≠ len.toNat + 2
              ∨ rest.drop len.toNat ≠ crc16Bytes (kind :: seq :: len :: rest.take len.toNat) →
          receive raw = [.bad])
    ∧ (∀ before, raw = before ++ [0x7D] → (∀ b ∈ before, b ≠ 0x7E ∧ b ≠ 0x7B) → receive raw = [.bad])
    ∧ ∀ before code after, raw = before ++ 0x7B :: code :: after → (∀ b ∈ before ++ after, b ≠ 0x7E ∧ b ≠ 0x7B) →
        receive raw = [.bad, .status code]
        ∧ (s.phase = .running → exec (.telegram l raw) s = exec (.statusWord l code) { s with
          store := { s.store with links := s.store.links.mod l fun n =>
            { n with crcBad := min 4294967295 (n.crcBad + 1) } } })

/-- R161 to R163, R175: a status word. A part that does not run takes none (log entry 7, an inference). An invalid one is
not taken toward anything. A valid one restarts the silence timer; the second in a row with the same code takes it, where
the taken code differs. A code taken on CNV, STN or PNL goes into the change buffer as the first unread or the latest
change, the change it replaces posted as CODE-LOST, and on PNL a mode is then chosen; ABSENT taken on SVC ends MAINTENANCE.
-/
def Obligations.StatusWord : Prop :=
  (∀ n, n < 16 → statusCode (statusByte n) = some n)
  ∧ ∀ (l : Link) (b : Byte) (s : State),
    (s.phase ≠ .running → exec (.statusWord l b) s = .next s)
    ∧ (s.phase = .running → b.toNat / 16 + b.toNat % 16 ≠ 15 →
      exec (.statusWord l b) s = .next { s with links := s.links.mod l fun k => { k with candidate := none } })
    ∧ (∀ c heard, s.phase = .running → b.toNat / 16 + b.toNat % 16 = 15 → c = namedCode l (b.toNat / 16) →
      heard = s.uptime + (match l with
        | .cnv => 2000
        | .stn => 1000 * s.params.stnTimeout.toNat
        | .pnl => 10000
        | .svc => 5000) →
      ((s.link l).candidate ≠ some c ∨ (s.link l).taken = some c → exec (.statusWord l b) s = .next { s with
        links := s.links.mod l fun k => { k with silence := some heard, candidate := some c } })
      ∧ ((s.link l).candidate = some c → (s.link l).taken ≠ some c →
        (l = .cnv ∨ l = .stn →
          ((s.link l).firstChange = none → exec (.statusWord l b) s = .next { s with
            links := s.links.mod l fun k => { k with silence := some heard, taken := some c, firstChange := some c } })
          ∧ ((s.link l).firstChange ≠ none → (s.link l).latestChange = none → exec (.statusWord l b) s = .next { s with
            links := s.links.mod l fun k => { k with silence := some heard, taken := some c, latestChange := some c } })
          ∧ (∀ lost, (s.link l).firstChange ≠ none → (s.link l).latestChange = some lost →
            exec (.statusWord l b) s = .next (State.post { s with
              links := s.links.mod l fun k => { k with silence := some heard, taken := some c, latestChange := some c }
              } .codeLost (.codeLost l lost))))
        ∧ (l = .svc → c = .present ∨ s.siteMode = .auto → exec (.statusWord l b) s = .next { s with
            links := s.links.mod l fun k => { k with silence := some heard, taken := some c } })
        ∧ (l = .svc → c = .absent → s.siteMode = .maintenance → ∃ t, exec (.statusWord l b) s = .next t
          ∧ t.siteMode = .auto ∧ t.serviceCap = 4000 ∧ t.stationCap = s.stationCap ∧ (t.link .svc).taken = some .absent)
        ∧ (l = .pnl →
          ((s.link l).firstChange = none → exec (.statusWord l b) s = .next (State.modeChoice { s with
            links := s.links.mod l fun k => { k with silence := some heard, taken := some c, firstChange := some c } }))
          ∧ ((s.link l).firstChange ≠ none → (s.link l).latestChange = none →
            exec (.statusWord l b) s = .next (State.modeChoice { s with
              links := s.links.mod l fun k => { k with silence := some heard, taken := some c, latestChange := some c } }))
          ∧ (∀ lost, (s.link l).firstChange ≠ none → (s.link l).latestChange = some lost →
            exec (.statusWord l b) s = .next (State.modeChoice (State.post { s with
              links := s.links.mod l fun k => { k with silence := some heard, taken := some c, latestChange := some c }
              } .codeLost (.codeLost l lost)))))))

/-- R134, R135, R138 to R141, R150, R164, R170: the silence timer of a link expires. The link is SILENT, its taken code
kept. CNV: the offer and its toggle are discarded, the agreement resolved afresh, AGREEMENT posted where the state changed,
GA computed as GaComputed says, no permit stays connected. STN: the station lapse, which takes RESOLVED to LAPSED with
AGREEMENT posted, the resolved values and the flags kept and GA computed; in LAPSED nothing more follows, and no GA, by log
entry 14. The count that GA used follows log entry 22, the model's choice. SVC: the return to AUTO, the service cap 4000.
PNL: nothing more. A SILENT link's timer does not run. The time it sets follows log entry 2, the model's choice. -/
def Obligations.Silence : Prop :=
  ∀ s : State,
    (∀ l, (s.link l).silence = none → exec (.silenceTimeout l) s = .next s)
    ∧ ∀ (x : Nat) (fallen : Link → State),
      (∀ l, fallen l = { s with
        uptime := max s.uptime x, links := s.links.mod l fun k => { k with silence := none, candidate := none } }) →
      ((s.link .pnl).silence = some x → exec (.silenceTimeout .pnl) s = .next (fallen .pnl))
      ∧ ((s.link .svc).silence = some x →
        (s.siteMode = .auto → exec (.silenceTimeout .svc) s = .next (fallen .svc))
        ∧ (s.siteMode = .maintenance → s.serviceCap = 4000 →
          exec (.silenceTimeout .svc) s = .next { fallen .svc with siteMode := .auto })
        ∧ (s.siteMode = .maintenance → s.serviceCap < 4000 → ∃ t, exec (.silenceTimeout .svc) s = .next t
          ∧ t.envelope.table = { s.envelope.table with sc := .all (if s.config.fault then 0 else min s.stationCap 4000) }
          ∧ t.quietLinks = (fallen .svc).quietLinks
          ∧ t = { fallen .svc with siteMode := .auto, serviceCap := 4000, envelope := t.envelope, links := t.links }))
      ∧ ((s.link .stn).silence = some x → ∃ t, exec (.silenceTimeout .stn) s = .next t
          ∧ t.agreement.lapse = true
          ∧ t.agreement.state = (if s.agreement.state = .resolved then .lapsed else s.agreement.state)
          ∧ (s.agreement.state = .resolved → s.posts t .agreement (.agreement .lapsed s.agreement.flags)
              ∧ t.agreement.basisImport = s.params.fallbackImport.toNat
              ∧ t.agreement.basisExport = s.params.fallbackExport.toNat)
          ∧ (s.agreement.state ≠ .resolved → ∀ l, (t.link l).notice .agreement = (s.link l).notice .agreement)
          ∧ t.agreement.cnvOffer = s.agreement.cnvOffer ∧ t.agreement.stnOffer = s.agreement.stnOffer
          ∧ t.agreement.cnvToggle = s.agreement.cnvToggle ∧ t.agreement.stnToggle = s.agreement.stnToggle
          ∧ t.agreement.flags = s.agreement.flags ∧ t.agreement.resolved = s.agreement.resolved
          ∧ t.agreement.clock = s.agreement.clock
          ∧ (s.agreement.state ≠ .lapsed → GaComputed t)
          ∧ (s.agreement.state = .lapsed → t = { fallen .stn with agreement := { s.agreement with lapse := true } })
          ∧ t.envelope.table = { s.envelope.table with ga := t.envelope.table.ga }
          ∧ t.quietLinks = (fallen .stn).quietLinks
          ∧ t = { fallen .stn with agreement := t.agreement, envelope := t.envelope, links := t.links })
      ∧ ((s.link .cnv).silence = some x → ∃ t, exec (.silenceTimeout .cnv) s = .next t
          ∧ t.agreement.cnvOffer = none ∧ t.agreement.cnvToggle = none
          ∧ t.agreement.stnOffer = s.agreement.stnOffer ∧ t.agreement.lapse = s.agreement.lapse
          ∧ t.agreement.stnToggle = s.agreement.stnToggle ∧ t.agreement.clock = s.agreement.clock
          ∧ t.agreement.state = (if s.agreement.stnOffer.isSome then .offered else .none)
          ∧ t.agreement.flags = ⟨false, false, false⟩ ∧ t.agreement.resolved = none
          ∧ (t.agreement.state ≠ s.agreement.state → s.posts t .agreement (.agreement t.agreement.state t.agreement.flags))
          ∧ (t.agreement.state = s.agreement.state → ∀ l, (t.link l).notice .agreement = (s.link l).notice .agreement)
          ∧ GaComputed t
          ∧ t.envelope.table = { s.envelope.table with ga := .both t.agreement.gaCharge t.agreement.gaDischarge }
          ∧ t.permit.state.connected = false
          ∧ t.quietLinks = (fallen .cnv).quietLinks
          ∧ t = { fallen .cnv with
              agreement := t.agreement, permit := t.permit, envelope := t.envelope, links := t.links
              choices := t.choices })

/-- R161, R165, R166, R169, R175, R178: sending. A part that does not run sends no status word (log entry 7, an inference).
A status word carries the first site code of the table that applies, between two telegrams only. The end of an answer takes
it from those to be sent, and the request it answered from the head of the queue; the end of a DONE answer to SITE-RESET on
SVC makes its reset due. -/
def Obligations.Sending : Prop :=
  ∀ (l : Link) (s : State),
    (s.phase ≠ .running ∨ (s.link l).out ≠ [] → exec (.sendStatusWord l) s = .next s)
    ∧ (∀ (code : SiteCode) (derated : Prop),
      (derated ↔ ∃ c, (s.string c).state = .joined
        ∧ (2 * (s.envelope.limits.charge c : Int) < s.params.imaxC
          ∨ 2 * (s.envelope.limits.discharge c : Int) < s.params.imaxD)) →
      (s.config.fault = true → code = .configFault) →
      (s.config.fault = false →
        (s.fire.stage.fire = true → code = .fireIsolated) ∧ (s.fire.stage = .alert → code = .fireAlert)
        ∧ (s.fire.stage = .normal ∨ s.fire.stage = .preAlert →
          (derated → code = .derated)
          ∧ (¬derated → (s.permit.state = .closed → code = .connected)
            ∧ (s.permit.state ≠ .closed →
              (1 ≤ s.joinedCount → code = .ready)
              ∧ (s.joinedCount = 0 →
                ((∀ c, (s.chain c).cycle = .unfitted ∨ (s.chain c).firstDone = true) → code = .safe)
                ∧ (¬(∀ c, (s.chain c).cycle = .unfitted ∨ (s.chain c).firstDone = true) → code = .startUp)))))) →
      s.phase = .running → (s.link l).out = [] →
      exec (.sendStatusWord l) s = .next { s with links := s.links.mod l fun k => { k with sent := code } })
    ∧ ((s.link l).out = [] → exec (.answerSent l) s = .next s)
    ∧ ∀ a rest, (s.link l).out = a :: rest →
      exec (.answerSent l) s = .next { s with
        siteResetDue := if l = .svc ∧ a.ofHead = true ∧ a.kind = 0x9B ∧ a.code = .done then true else s.siteResetDue
        links := s.links.mod l fun k => { k with
          out := rest, queue := if a.ofHead then k.queue.drop 1 else k.queue } }

/-- R167, R168: notices. A posting is made on every link: a kind not pending becomes pending with count 1, a pending one
takes the new detail and one more on its count, up to 255; no other kind changes. READ-NOTICES returns the pending kinds
that are not masked and takes them, alone, out of the pending set of its link; SET-MASK replaces the mask of its link. -/
def Obligations.Notices : Prop :=
  (∀ (n m : NoticeKind) (d : NoticeDetail) (s : State) (l : Link),
    ((s.link l).notice n = none → ((s.post n d).link l).notice n = some ⟨d, 1⟩)
    ∧ (∀ p, (s.link l).notice n = some p → ((s.post n d).link l).notice n = some ⟨d, min 255 (p.count + 1)⟩)
    ∧ (m ≠ n → ((s.post n d).link l).notice m = (s.link l).notice m)
    ∧ (s.post n d).quietLinks = s.quietLinks)
  ∧ ∀ (l : Link) (q hi lo : Byte) (s : State),
    (s.delivers l ⟨21, q, []⟩ →
      exec (.readNotices l q []) s = .next (State.answerHead { s with
        links := s.links.mod l fun k => { k with
          notices := vmapIdx (fun i p => if k.mask.getLsbD i then p else none) k.notices }
        } l ⟨21, q, []⟩ .done (s.link l).noticeItems))
    ∧ (∀ t, t = { s with links := s.links.mod l fun k => { k with mask := BitVec.ofNat 10 (256 * hi.toNat + lo.toNat) } } →
      s.delivers l ⟨22, q, [hi, lo]⟩ →
      exec (.setMask l q [hi, lo]) s = .next (t.answerHead l ⟨22, q, [hi, lo]⟩ .done (t.link l).setMaskItems))

/-- R76, R170: SET-SITE-MODE. A byte other than 0 and 1 is BAD-FORMAT; without PRESENT taken on SVC it is REFUSED-STATE. 1
enters MAINTENANCE; 0 returns to AUTO, the service cap becoming 4000, with SC delivered where the cap stood below. -/
def Obligations.SetSiteMode : Prop :=
  ∀ (l : Link) (q b : Byte) (s : State) (r : Request), r = ⟨26, q, [b]⟩ → s.delivers l r →
    (1 < b.toNat → exec (.setSiteMode l q [b]) s = .next (s.answerHead l r .badFormat []))
    ∧ (b.toNat ≤ 1 → (s.link .svc).taken ≠ some .present →
      exec (.setSiteMode l q [b]) s = .next (s.answerHead l r .refusedState []))
    ∧ ((s.link .svc).taken = some .present →
      (b = 1 → exec (.setSiteMode l q [b]) s = .next ({ s with siteMode := .maintenance }.answerHead l r .done []))
      ∧ (b = 0 → s.siteMode = .auto → exec (.setSiteMode l q [b]) s = .next (s.answerHead l r .done []))
      ∧ (b = 0 → s.siteMode = .maintenance → s.serviceCap = 4000 →
        exec (.setSiteMode l q [b]) s = .next ({ s with siteMode := .auto }.answerHead l r .done []))
      ∧ (b = 0 → s.siteMode = .maintenance → s.serviceCap < 4000 → ∃ t, exec (.setSiteMode l q [b]) s = .next t
        ∧ t.envelope.table = { s.envelope.table with sc := .all (if s.config.fault then 0 else min s.stationCap 4000) }
        ∧ t.quietLinks = (s.answerHead l r .done []).quietLinks
        ∧ t = { s with siteMode := .auto, serviceCap := 4000, envelope := t.envelope, links := t.links }))

/-! ## Configuration and start-up (chapter 11) -/

/-- R36, R43, R94, R99, R115, R157, R159, R172: SET-PARAM. A number is clamped to its range, a link speed to the nearest of
the five, the lower of two equally near; a named value is one of its list; a table or curve has each number clamped and
must have as many breakpoints as its parameter allows, in ascending order. A cross-check that fails on the set as the write
would leave it is BAD-FORMAT and changes nothing; otherwise the working set takes the value, that parameter and no other,
and nothing else changes but, where the balancing ceiling was written, the requested sets of the modules at or above it. A
number that is no parameter's is BAD-FORMAT. The stored image never changes. That a breakpoint's current or duty is sent
unsigned is log entry 27, the model's choice. -/
def Obligations.SetParam : Prop :=
  ∀ (l : Link) (q n : Byte) (value : List Byte) (s : State) (r : Request), r = ⟨23, q, n :: value⟩ → s.delivers l r →
    (n.toNat = 0 ∨ 57 < n.toNat → exec (.setParam l q (n :: value)) s = .next (s.answerHead l r .badFormat []))
    ∧ (∀ (a b c d : Byte) (lo hi sent v : Int) (new : Params) (code : AnswerCode), value = [a, b, c, d] →
      paramForm n.toNat = some (.numeric lo hi) →
      sent = (BitVec.ofNat 32 (16777216 * a.toNat + 65536 * b.toNat + 256 * c.toNat + d.toNat)).toInt →
      v = max lo (min hi sent) → new = s.params.set n.toNat (.number v) →
      code = (if v = sent then .done else .clamped) →
      new.get n.toNat = .number v
      ∧ (∀ m, 1 ≤ m → m ≤ 57 → m ≠ n.toNat → new.get m = s.params.get m)
      ∧ (new.crossCheck n.toNat = false →
        exec (.setParam l q (n :: value)) s = .next (s.answerHead l r .badFormat []))
      ∧ (new.crossCheck n.toNat = true → n ≠ 12 →
        exec (.setParam l q (n :: value)) s
          = .next ({ s with config := { s.config with working := new } }.answerHead l r code []))
      ∧ (new.crossCheck n.toNat = true → n = 12 → s.params.balCeiling ≠ v → ∃ t : State,
        exec (.setParam l q (n :: value)) s = .next (t.answerHead l r code [])
          ∧ t = { s with config := { s.config with working := new }, chains := t.chains }
          ∧ ∀ e, t.chain e = { s.chain e with modules := (t.chain e).modules }
            ∧ ∀ m : Addr, ((∃ x, ((s.chain e).modules[m]).hottest = some x ∧ v ≤ x) →
                (t.chain e).modules[m] = { (s.chain e).modules[m] with requested := [] })
              ∧ ((∀ x, ((s.chain e).modules[m]).hottest = some x → x < v) →
                (t.chain e).modules[m] = (s.chain e).modules[m])))
    ∧ (∀ (k : Byte) (count : Nat), paramForm n.toNat = some (.names count) → value = [k] →
      (count ≤ k.toNat → exec (.setParam l q (n :: value)) s = .next (s.answerHead l r .badFormat []))
      ∧ (k.toNat < count → (s.params.set n.toNat (.named k.toNat)).get n.toNat = .named k.toNat
        ∧ (∀ m, 1 ≤ m → m ≤ 57 → m ≠ n.toNat → (s.params.set n.toNat (.named k.toNat)).get m = s.params.get m)
        ∧ exec (.setParam l q (n :: value)) s = .next ({ s with
            config := { s.config with working := s.params.set n.toNat (.named k.toNat) } }.answerHead l r .done [])))
    ∧ (∀ (a b c d : Byte) (sent v : Int), paramForm n.toNat = some .speed → value = [a, b, c, d] →
      sent = (BitVec.ofNat 32 (16777216 * a.toNat + 65536 * b.toNat + 256 * c.toNat + d.toNat)).toInt →
      v ∈ [9600, 19200, 38400, 57600, 115200] →
      (∀ w ∈ [9600, 19200, 38400, 57600, 115200], |v - sent| < |w - sent| ∨ (|v - sent| = |w - sent| ∧ v ≤ w)) →
      (s.params.set n.toNat (.number v)).get n.toNat = .number v
      ∧ (∀ m, 1 ≤ m → m ≤ 57 → m ≠ n.toNat → (s.params.set n.toNat (.number v)).get m = s.params.get m)
      ∧ exec (.setParam l q (n :: value)) s = .next ({ s with
          config := { s.config with working := s.params.set n.toNat (.number v) } }.answerHead l r
            (if v = sent then .done else .clamped) []))
    ∧ ∀ (count : Byte) (rest : List Byte) (fewest most : Nat) (top : Int),
      paramForm n.toNat = some (.points fewest most top) → value = count :: rest →
      (rest.length ≠ 4 * count.toNat → exec (.setParam l q (n :: value)) s = .next (s.answerHead l r .badFormat []))
      ∧ ∀ (raws : List (Byte × Byte × Byte × Byte)) (sent points : List Breakpoint),
        rest = raws.flatMap (fun (a, b, c, d) => [a, b, c, d]) → count.toNat = raws.length →
        sent = raws.map (fun (a, b, c, d) =>
          ⟨(BitVec.ofNat 16 (256 * a.toNat + b.toNat)).toInt, (256 * c.toNat + d.toNat : Nat)⟩) →
        points = sent.map (fun x => ⟨max (-400) (min 1500 x.t), max 0 (min top x.v)⟩) →
        (points.length < fewest ∨ most < points.length ∨ ¬points.Pairwise (fun x y => x.t < y.t) →
          exec (.setParam l q (n :: value)) s = .next (s.answerHead l r .badFormat []))
        ∧ (fewest ≤ points.length → points.length ≤ most → points.Pairwise (fun x y => x.t < y.t) →
          (s.params.set n.toNat (.list points)).get n.toNat = .list points
          ∧ (∀ m, 1 ≤ m → m ≤ 57 → m ≠ n.toNat → (s.params.set n.toNat (.list points)).get m = s.params.get m)
          ∧ exec (.setParam l q (n :: value)) s = .next ({ s with
              config := { s.config with working := s.params.set n.toNat (.list points) } }.answerHead l r
                (if points = sent then .done else .clamped) []))

/-- R166, R174: COMMIT and its completion. Where the working set equals the stored image and the configuration is NORMAL it
is DONE at once with the CRC-32. Otherwise a copy of the working set is written while the request waits at the head of its
queue; the completion makes the copy the stored image, ends CONFIG-FAULT, delivering SC, and answers DONE. The image's bytes
and CRC-32 are those of log entry 4, the model's choice. -/
def Obligations.Commit : Prop :=
  ∀ s : State,
    (∀ (l : Link) (q : Byte) (r : Request) (same : Prop), r = ⟨25, q, []⟩ → s.delivers l r → s.config.writing = none →
      (same ↔ s.config.fault = false ∧ ∃ i, s.config.image = some i ∧ i.values = s.config.working) →
      (same → exec (.commit l q []) s = .next (s.answerHead l r .done [numOr (s.config.crc.map BitVec.toNat)]))
      ∧ (¬same → exec (.commit l q []) s = .next { s with
        config := { s.config with writing := some s.config.working }
        links := s.links.mod l fun k => { k with waiting := true } }))
    ∧ (s.config.writing = none → exec .commitComplete s = .next s)
    ∧ ∀ (p : Params) (r : Request) (rest : List Request) (written : ConfigStore) (answered : LinkState → LinkState),
      s.config.writing = some p → (s.link .svc).queue = r :: rest →
      written = { s.config with
        image := some ⟨p, true, true, imageCrc p⟩, writing := none, crc := some (imageCrc p), fault := false } →
      (∀ k, answered k = { k with
        waiting := false
        out := k.out ++ [⟨r.kind ||| 0x80, r.seq, .done, [num (imageCrc p).toNat], true⟩] }) →
      (s.config.fault = false → exec .commitComplete s = .next { s with
        config := written, links := s.links.mod .svc answered })
      ∧ (s.config.fault = true → ∃ t, exec .commitComplete s = .next t
        ∧ t.envelope.table = { s.envelope.table with sc := .all (min s.stationCap s.serviceCap) }
        ∧ t.quietLinks = ({ s with links := s.links.mod .svc answered }).quietLinks
        ∧ t = { s with config := written, envelope := t.envelope, links := t.links })

/-- R19, R61, R79, R116, R122, R128, R144, R156, R171, R174 to R179: the resets. The supply's loss abandons a running commit
and its return starts the load; the reset line holds the part while asserted and its release starts the load; a SITE-RESET
is DONE only with both strings apart, the permit OPEN or LOCKED-OUT and the stage below ALERT, and starts once its answer is
sent. Every reset leaves the published limits 0 at revision 0, the stage NORMAL and the queues empty. A LOCKED string, a
LOCKED-OUT permit, the trip records, snapshots and statistics outlive all but a power-on. The load takes a sound image, or
the defaults in CONFIG-FAULT with the first failed check as cause. A power-on whose image is sound and holds the defaults,
here the model's own starting state (log entry 5, a choice), ends in the reset state. That the supply's loss takes the
power-on values at once, that a power-on under an asserted reset line stays in reset and that the line asserted during a
load starts a reset-line reset is log entry 7, an inference; that an absent image has no CRC is log entry 4, a choice. -/
def Obligations.Resets : Prop :=
  exec .startUpLoadComplete State.powerOnLoading = .next State.reset
  ∧ ∀ s : State,
    (s.phase ≠ .off → exec .powerOn s = .next s)
    ∧ (s.phase = .off → exec .powerOn s = .next (s.startReset .powerOn (if s.resetLine then .held else .loading)))
    ∧ (s.phase = .off → exec .lossOfSupply s = .next s)
    ∧ (s.phase ≠ .off → exec .lossOfSupply s = .next (s.startReset .powerOn .off))
    ∧ (s.resetLine = true → exec .resetLineAssert s = .next s)
    ∧ (s.resetLine = false → s.phase ≠ .off →
      exec .resetLineAssert s = .next (State.startReset { s with resetLine := true } .resetLine .held))
    ∧ (s.resetLine = false → s.phase = .off → exec .resetLineAssert s = .next { s with resetLine := true })
    ∧ exec .resetLineRelease s = .next { s with
        resetLine := false, phase := if s.phase = .held then .loading else s.phase }
    ∧ (∀ (kind : ResetKind) (phase : Phase) (t : State), t = s.startReset kind phase →
      t.phase = phase ∧ t.resetKind = kind ∧ t.uptime = 0 ∧ t.envelope.limits = ⟨0, 0, 0, 0⟩ ∧ t.envelope.revision = 0
      ∧ t.fire.stage = .normal ∧ t.agreement.state = .none ∧ t.siteMode = .auto ∧ t.stationCap = 4000
      ∧ t.serviceCap = 4000 ∧ t.permit.tripTimes = [] ∧ t.permit.pulse = none
      ∧ (∀ l, (t.link l).queue = [] ∧ (t.link l).out = [] ∧ (t.link l).taken = none)
      ∧ (∀ c, (t.chain c).inFlight = none ∧ (t.chain c).probes = [] ∧ (t.chain c).head.status = .notYetRead
          ∧ ((∃ k, (s.string c).state = .locked k ∧ kind ≠ .powerOn) → (t.string c).state = (s.string c).state)
          ∧ ((∀ k, (s.string c).state ≠ .locked k) ∨ kind = .powerOn → (t.string c).state = .opened))
      ∧ t.permit.state = (if s.permit.state = .lockedOut ∧ kind ≠ .powerOn then .lockedOut else .opened)
      ∧ (kind ≠ .powerOn → t.permit.ring = s.permit.ring ∧ t.store = s.store)
      ∧ (kind = .powerOn → t.permit.ring = [] ∧ t.store = .empty)
      ∧ t.config = { s.config with writing := none })
    ∧ (s.phase ≠ .loading → exec .startUpLoadComplete s = .next s)
    ∧ (∀ cause : Option ConfigCause, s.phase = .loading →
      cause = (match s.config.image with
        | none => some .crc
        | some i => if i.crcOk = false then some .crc else if i.formatOk = false then some .format
          else if i.values.contentOk = false then some .content else none) →
      ∃ t, exec .startUpLoadComplete s = .next t ∧ t.phase = .running ∧ t.uptime = 0
        ∧ t.config.fault = cause.isSome ∧ t.config.cause = cause ∧ t.config.image = s.config.image
        ∧ t.config.crc = s.config.image.map Image.crc
        ∧ (∀ i, cause = none → s.config.image = some i → t.config.working = i.values)
        ∧ (cause ≠ none → t.config.working = .defaults)
        ∧ (cause ≠ none → t.envelope.table.sc = ⟨0, 0, 0, 0⟩)
        ∧ s.posts t .restart (.restart s.resetKind)
        ∧ (∀ c, (t.string c).check = some 200)
        ∧ t.plant.prescaler = t.params.prescaler.toNat ∧ (t.link .cnv).speed = t.params.baudCnv.toNat
        ∧ (t.link .cnv).silence = some 2000 ∧ (t.link .stn).silence = some (1000 * t.params.stnTimeout.toNat)
        ∧ (t.link .pnl).silence = some 10000 ∧ (t.link .svc).silence = some 5000)
    ∧ (∀ (l : Link) (q : Byte) (r : Request) (allowed : Prop), r = ⟨27, q, []⟩ → s.delivers l r →
      (allowed ↔ s.strings.one.state.apart = true ∧ s.strings.two.state.apart = true
        ∧ (s.permit.state = .opened ∨ s.permit.state = .lockedOut)
        ∧ (s.fire.stage = .normal ∨ s.fire.stage = .preAlert)) →
      (allowed → exec (.siteReset l q []) s = .next (s.answerHead l r .done []))
      ∧ (¬allowed → exec (.siteReset l q []) s = .next (s.answerHead l r .refusedState [])))
    ∧ (s.siteResetDue = false → exec .siteResetStart s = .next s)
    ∧ (s.siteResetDue = true → ∃ t, exec .siteResetStart s = .next t ∧ t.phase = .running ∧ t.uptime = 0
      ∧ t.resetKind = .siteReset ∧ t.siteResetDue = false ∧ t.params = s.params ∧ t.config.image = s.config.image
      ∧ t.store = s.store ∧ t.envelope.limits = ⟨0, 0, 0, 0⟩
      ∧ (∀ l, (t.link l).notice .restart = some ⟨.restart .siteReset, 1⟩))
end

