-- ==== Sys2Proof/Laws/State.lean ====
section
/-! SUPPORT. The pairs and fours of State, and what the named updates of Machine/Ops.lean leave as it was. -/

namespace Sys2Proof.Machine

/-! ## One thing for each string, one thing for each link -/

@[simp] theorem PerString.get_mod_same {α : Type} (p : PerString α) (c : Str) (f : α → α) :
    (p.mod c f).get c = f (p.get c) := by cases c <;> rfl

theorem PerString.get_mod_other {α : Type} (p : PerString α) {c d : Str} (f : α → α) (h : d ≠ c) :
    (p.mod c f).get d = p.get d := by cases c <;> cases d <;> first | rfl | exact absurd rfl h

theorem PerString.get_mod {α : Type} (p : PerString α) (c d : Str) (f : α → α) :
    (p.mod c f).get d = if d = c then f (p.get d) else p.get d := by cases c <;> cases d <;> rfl

@[simp] theorem PerLink.get_mod_same {α : Type} (p : PerLink α) (l : Link) (f : α → α) :
    (p.mod l f).get l = f (p.get l) := by cases l <;> rfl

theorem PerLink.get_mod {α : Type} (p : PerLink α) (l m : Link) (f : α → α) :
    (p.mod l f).get m = if m = l then f (p.get m) else p.get m := by cases l <;> cases m <;> rfl

@[simp] theorem PerLink.get_mapLinks {α β : Type} (p : PerLink α) (l : Link) (f : Link → α → β) :
    (p.mapLinks f).get l = f l (p.get l) := by cases l <;> rfl

theorem PerString.ext_get {α : Type} {p q : PerString α} (h : ∀ c, p.get c = q.get c) : p = q := by
  have a := h .one; have b := h .two
  cases p; cases q; simp [PerString.get] at a b; simp [a, b]

theorem PerLink.ext_get {α : Type} {p q : PerLink α} (h : ∀ l, p.get l = q.get l) : p = q := by
  have a := h .cnv; have b := h .stn; have c := h .pnl; have d := h .svc
  cases p; cases q; simp [PerLink.get] at a b c d; simp [a, b, c, d]

/-! ## Tables of fixed length -/

@[simp] theorem vmap_get {α β : Type} {n : Nat} (f : α → β) (v : Vector α n) (i : Fin n) : (vmap f v)[i] = f v[i] := by
  simp [vmap]

@[simp] theorem vmapIdx_get {α β : Type} {n : Nat} (f : Fin n → α → β) (v : Vector α n) (i : Fin n) :
    (vmapIdx f v)[i] = f i v[i] := by simp [vmapIdx]

@[simp] theorem vmod_same {α : Type} {n : Nat} (i : Fin n) (f : α → α) (v : Vector α n) : (vmod i f v)[i] = f v[i] := by
  simp [vmod, vmapIdx]

theorem vmod_get {α : Type} {n : Nat} (i j : Fin n) (f : α → α) (v : Vector α n) :
    (vmod i f v)[j] = if j = i then f v[j] else v[j] := by simp [vmod, vmapIdx]

/-! ## What each update leaves as it was -/

/-- What `State.atTime` changes: uptime; the rest of the state is as it was. -/
@[simp] theorem State.atTime_frame (s : State) (t : Nat) :
    (s.atTime t).phase = s.phase ∧ (s.atTime t).resetLine = s.resetLine ∧ (s.atTime t).resetKind = s.resetKind
      ∧ (s.atTime t).siteResetDue = s.siteResetDue ∧ (s.atTime t).clocks = s.clocks ∧ (s.atTime t).chains = s.chains
      ∧ (s.atTime t).supervision = s.supervision ∧ (s.atTime t).strings = s.strings
      ∧ (s.atTime t).envelope = s.envelope ∧ (s.atTime t).plant = s.plant ∧ (s.atTime t).fire = s.fire
      ∧ (s.atTime t).store = s.store ∧ (s.atTime t).agreement = s.agreement ∧ (s.atTime t).permit = s.permit
      ∧ (s.atTime t).links = s.links ∧ (s.atTime t).siteMode = s.siteMode ∧ (s.atTime t).stationCap = s.stationCap
      ∧ (s.atTime t).serviceCap = s.serviceCap ∧ (s.atTime t).config = s.config ∧ (s.atTime t).choices = s.choices
      ∧ (s.atTime t).pending = s.pending := by simp [State.atTime]

/-- What `State.modChain` changes: chains; the rest of the state is as it was. -/
@[simp] theorem State.modChain_frame (s : State) (c : Str) (f : Chain → Chain) :
    (s.modChain c f).phase = s.phase ∧ (s.modChain c f).resetLine = s.resetLine
      ∧ (s.modChain c f).resetKind = s.resetKind ∧ (s.modChain c f).siteResetDue = s.siteResetDue
      ∧ (s.modChain c f).uptime = s.uptime ∧ (s.modChain c f).clocks = s.clocks
      ∧ (s.modChain c f).supervision = s.supervision ∧ (s.modChain c f).strings = s.strings
      ∧ (s.modChain c f).envelope = s.envelope ∧ (s.modChain c f).plant = s.plant ∧ (s.modChain c f).fire = s.fire
      ∧ (s.modChain c f).store = s.store ∧ (s.modChain c f).agreement = s.agreement
      ∧ (s.modChain c f).permit = s.permit ∧ (s.modChain c f).links = s.links
      ∧ (s.modChain c f).siteMode = s.siteMode ∧ (s.modChain c f).stationCap = s.stationCap
      ∧ (s.modChain c f).serviceCap = s.serviceCap ∧ (s.modChain c f).config = s.config
      ∧ (s.modChain c f).choices = s.choices ∧ (s.modChain c f).pending = s.pending := by simp [State.modChain]

/-- What `State.modString` changes: strings; the rest of the state is as it was. -/
@[simp] theorem State.modString_frame (s : State) (c : Str) (f : StringController → StringController) :
    (s.modString c f).phase = s.phase ∧ (s.modString c f).resetLine = s.resetLine
      ∧ (s.modString c f).resetKind = s.resetKind ∧ (s.modString c f).siteResetDue = s.siteResetDue
      ∧ (s.modString c f).uptime = s.uptime ∧ (s.modString c f).clocks = s.clocks
      ∧ (s.modString c f).chains = s.chains ∧ (s.modString c f).supervision = s.supervision
      ∧ (s.modString c f).envelope = s.envelope ∧ (s.modString c f).plant = s.plant
      ∧ (s.modString c f).fire = s.fire ∧ (s.modString c f).store = s.store
      ∧ (s.modString c f).agreement = s.agreement ∧ (s.modString c f).permit = s.permit
      ∧ (s.modString c f).links = s.links ∧ (s.modString c f).siteMode = s.siteMode
      ∧ (s.modString c f).stationCap = s.stationCap ∧ (s.modString c f).serviceCap = s.serviceCap
      ∧ (s.modString c f).config = s.config ∧ (s.modString c f).choices = s.choices
      ∧ (s.modString c f).pending = s.pending := by simp [State.modString]

/-- What `State.modCells` changes: supervision; the rest of the state is as it was. -/
@[simp] theorem State.modCells_frame (s : State) (c : Str) (f : Supervision → Supervision) :
    (s.modCells c f).phase = s.phase ∧ (s.modCells c f).resetLine = s.resetLine
      ∧ (s.modCells c f).resetKind = s.resetKind ∧ (s.modCells c f).siteResetDue = s.siteResetDue
      ∧ (s.modCells c f).uptime = s.uptime ∧ (s.modCells c f).clocks = s.clocks ∧ (s.modCells c f).chains = s.chains
      ∧ (s.modCells c f).strings = s.strings ∧ (s.modCells c f).envelope = s.envelope
      ∧ (s.modCells c f).plant = s.plant ∧ (s.modCells c f).fire = s.fire ∧ (s.modCells c f).store = s.store
      ∧ (s.modCells c f).agreement = s.agreement ∧ (s.modCells c f).permit = s.permit
      ∧ (s.modCells c f).links = s.links ∧ (s.modCells c f).siteMode = s.siteMode
      ∧ (s.modCells c f).stationCap = s.stationCap ∧ (s.modCells c f).serviceCap = s.serviceCap
      ∧ (s.modCells c f).config = s.config ∧ (s.modCells c f).choices = s.choices
      ∧ (s.modCells c f).pending = s.pending := by simp [State.modCells]

/-- What `State.modLink` changes: links; the rest of the state is as it was. -/
@[simp] theorem State.modLink_frame (s : State) (l : Link) (f : LinkState → LinkState) :
    (s.modLink l f).phase = s.phase ∧ (s.modLink l f).resetLine = s.resetLine
      ∧ (s.modLink l f).resetKind = s.resetKind ∧ (s.modLink l f).siteResetDue = s.siteResetDue
      ∧ (s.modLink l f).uptime = s.uptime ∧ (s.modLink l f).clocks = s.clocks ∧ (s.modLink l f).chains = s.chains
      ∧ (s.modLink l f).supervision = s.supervision ∧ (s.modLink l f).strings = s.strings
      ∧ (s.modLink l f).envelope = s.envelope ∧ (s.modLink l f).plant = s.plant ∧ (s.modLink l f).fire = s.fire
      ∧ (s.modLink l f).store = s.store ∧ (s.modLink l f).agreement = s.agreement
      ∧ (s.modLink l f).permit = s.permit ∧ (s.modLink l f).siteMode = s.siteMode
      ∧ (s.modLink l f).stationCap = s.stationCap ∧ (s.modLink l f).serviceCap = s.serviceCap
      ∧ (s.modLink l f).config = s.config ∧ (s.modLink l f).choices = s.choices
      ∧ (s.modLink l f).pending = s.pending := by simp [State.modLink]

/-- What `State.modModule` changes: chains; the rest of the state is as it was. -/
@[simp] theorem State.modModule_frame (s : State) (c : Str) (a : Addr) (f : ModuleRecord → ModuleRecord) :
    (s.modModule c a f).phase = s.phase ∧ (s.modModule c a f).resetLine = s.resetLine
      ∧ (s.modModule c a f).resetKind = s.resetKind ∧ (s.modModule c a f).siteResetDue = s.siteResetDue
      ∧ (s.modModule c a f).uptime = s.uptime ∧ (s.modModule c a f).clocks = s.clocks
      ∧ (s.modModule c a f).supervision = s.supervision ∧ (s.modModule c a f).strings = s.strings
      ∧ (s.modModule c a f).envelope = s.envelope ∧ (s.modModule c a f).plant = s.plant
      ∧ (s.modModule c a f).fire = s.fire ∧ (s.modModule c a f).store = s.store
      ∧ (s.modModule c a f).agreement = s.agreement ∧ (s.modModule c a f).permit = s.permit
      ∧ (s.modModule c a f).links = s.links ∧ (s.modModule c a f).siteMode = s.siteMode
      ∧ (s.modModule c a f).stationCap = s.stationCap ∧ (s.modModule c a f).serviceCap = s.serviceCap
      ∧ (s.modModule c a f).config = s.config ∧ (s.modModule c a f).choices = s.choices
      ∧ (s.modModule c a f).pending = s.pending := by simp [State.modModule]

/-- What `State.post` changes: links; the rest of the state is as it was. -/
@[simp] theorem State.post_frame (s : State) (n : NoticeKind) (d : NoticeDetail) :
    (s.post n d).phase = s.phase ∧ (s.post n d).resetLine = s.resetLine ∧ (s.post n d).resetKind = s.resetKind
      ∧ (s.post n d).siteResetDue = s.siteResetDue ∧ (s.post n d).uptime = s.uptime ∧ (s.post n d).clocks = s.clocks
      ∧ (s.post n d).chains = s.chains ∧ (s.post n d).supervision = s.supervision ∧ (s.post n d).strings = s.strings
      ∧ (s.post n d).envelope = s.envelope ∧ (s.post n d).plant = s.plant ∧ (s.post n d).fire = s.fire
      ∧ (s.post n d).store = s.store ∧ (s.post n d).agreement = s.agreement ∧ (s.post n d).permit = s.permit
      ∧ (s.post n d).siteMode = s.siteMode ∧ (s.post n d).stationCap = s.stationCap
      ∧ (s.post n d).serviceCap = s.serviceCap ∧ (s.post n d).config = s.config ∧ (s.post n d).choices = s.choices
      ∧ (s.post n d).pending = s.pending := by simp [State.post]

/-- What `State.modStats` changes: store; the rest of the state is as it was. -/
@[simp] theorem State.modStats_frame (s : State) (c : Str) (f : StringStats → StringStats) :
    (s.modStats c f).phase = s.phase ∧ (s.modStats c f).resetLine = s.resetLine
      ∧ (s.modStats c f).resetKind = s.resetKind ∧ (s.modStats c f).siteResetDue = s.siteResetDue
      ∧ (s.modStats c f).uptime = s.uptime ∧ (s.modStats c f).clocks = s.clocks ∧ (s.modStats c f).chains = s.chains
      ∧ (s.modStats c f).supervision = s.supervision ∧ (s.modStats c f).strings = s.strings
      ∧ (s.modStats c f).envelope = s.envelope ∧ (s.modStats c f).plant = s.plant ∧ (s.modStats c f).fire = s.fire
      ∧ (s.modStats c f).agreement = s.agreement ∧ (s.modStats c f).permit = s.permit
      ∧ (s.modStats c f).links = s.links ∧ (s.modStats c f).siteMode = s.siteMode
      ∧ (s.modStats c f).stationCap = s.stationCap ∧ (s.modStats c f).serviceCap = s.serviceCap
      ∧ (s.modStats c f).config = s.config ∧ (s.modStats c f).choices = s.choices
      ∧ (s.modStats c f).pending = s.pending := by simp [State.modStats]

/-- What `State.modLinkStats` changes: store; the rest of the state is as it was. -/
@[simp] theorem State.modLinkStats_frame (s : State) (l : Link) (f : LinkStats → LinkStats) :
    (s.modLinkStats l f).phase = s.phase ∧ (s.modLinkStats l f).resetLine = s.resetLine
      ∧ (s.modLinkStats l f).resetKind = s.resetKind ∧ (s.modLinkStats l f).siteResetDue = s.siteResetDue
      ∧ (s.modLinkStats l f).uptime = s.uptime ∧ (s.modLinkStats l f).clocks = s.clocks
      ∧ (s.modLinkStats l f).chains = s.chains ∧ (s.modLinkStats l f).supervision = s.supervision
      ∧ (s.modLinkStats l f).strings = s.strings ∧ (s.modLinkStats l f).envelope = s.envelope
      ∧ (s.modLinkStats l f).plant = s.plant ∧ (s.modLinkStats l f).fire = s.fire
      ∧ (s.modLinkStats l f).agreement = s.agreement ∧ (s.modLinkStats l f).permit = s.permit
      ∧ (s.modLinkStats l f).links = s.links ∧ (s.modLinkStats l f).siteMode = s.siteMode
      ∧ (s.modLinkStats l f).stationCap = s.stationCap ∧ (s.modLinkStats l f).serviceCap = s.serviceCap
      ∧ (s.modLinkStats l f).config = s.config ∧ (s.modLinkStats l f).choices = s.choices
      ∧ (s.modLinkStats l f).pending = s.pending := by simp [State.modLinkStats]

/-- What `State.countTrip` changes: store; the rest of the state is as it was. -/
@[simp] theorem State.countTrip_frame (s : State) (c : Str) (k : LockCause) :
    (s.countTrip c k).phase = s.phase ∧ (s.countTrip c k).resetLine = s.resetLine
      ∧ (s.countTrip c k).resetKind = s.resetKind ∧ (s.countTrip c k).siteResetDue = s.siteResetDue
      ∧ (s.countTrip c k).uptime = s.uptime ∧ (s.countTrip c k).clocks = s.clocks
      ∧ (s.countTrip c k).chains = s.chains ∧ (s.countTrip c k).supervision = s.supervision
      ∧ (s.countTrip c k).strings = s.strings ∧ (s.countTrip c k).envelope = s.envelope
      ∧ (s.countTrip c k).plant = s.plant ∧ (s.countTrip c k).fire = s.fire
      ∧ (s.countTrip c k).agreement = s.agreement ∧ (s.countTrip c k).permit = s.permit
      ∧ (s.countTrip c k).links = s.links ∧ (s.countTrip c k).siteMode = s.siteMode
      ∧ (s.countTrip c k).stationCap = s.stationCap ∧ (s.countTrip c k).serviceCap = s.serviceCap
      ∧ (s.countTrip c k).config = s.config ∧ (s.countTrip c k).choices = s.choices
      ∧ (s.countTrip c k).pending = s.pending := by simp [State.countTrip]

/-- What `State.answer` changes: links; the rest of the state is as it was. -/
@[simp] theorem State.answer_frame (s : State) (l : Link) (a : Answer) :
    (s.answer l a).phase = s.phase ∧ (s.answer l a).resetLine = s.resetLine ∧ (s.answer l a).resetKind = s.resetKind
      ∧ (s.answer l a).siteResetDue = s.siteResetDue ∧ (s.answer l a).uptime = s.uptime
      ∧ (s.answer l a).clocks = s.clocks ∧ (s.answer l a).chains = s.chains
      ∧ (s.answer l a).supervision = s.supervision ∧ (s.answer l a).strings = s.strings
      ∧ (s.answer l a).envelope = s.envelope ∧ (s.answer l a).plant = s.plant ∧ (s.answer l a).fire = s.fire
      ∧ (s.answer l a).store = s.store ∧ (s.answer l a).agreement = s.agreement ∧ (s.answer l a).permit = s.permit
      ∧ (s.answer l a).siteMode = s.siteMode ∧ (s.answer l a).stationCap = s.stationCap
      ∧ (s.answer l a).serviceCap = s.serviceCap ∧ (s.answer l a).config = s.config
      ∧ (s.answer l a).choices = s.choices ∧ (s.answer l a).pending = s.pending := by simp [State.answer]

/-- What `State.answerHead` changes: links; the rest of the state is as it was. -/
@[simp] theorem State.answerHead_frame (s : State) (l : Link) (r : Request) (code : AnswerCode) (content : List Item) :
    (s.answerHead l r code content).phase = s.phase ∧ (s.answerHead l r code content).resetLine = s.resetLine
      ∧ (s.answerHead l r code content).resetKind = s.resetKind
      ∧ (s.answerHead l r code content).siteResetDue = s.siteResetDue
      ∧ (s.answerHead l r code content).uptime = s.uptime ∧ (s.answerHead l r code content).clocks = s.clocks
      ∧ (s.answerHead l r code content).chains = s.chains
      ∧ (s.answerHead l r code content).supervision = s.supervision
      ∧ (s.answerHead l r code content).strings = s.strings ∧ (s.answerHead l r code content).envelope = s.envelope
      ∧ (s.answerHead l r code content).plant = s.plant ∧ (s.answerHead l r code content).fire = s.fire
      ∧ (s.answerHead l r code content).store = s.store ∧ (s.answerHead l r code content).agreement = s.agreement
      ∧ (s.answerHead l r code content).permit = s.permit ∧ (s.answerHead l r code content).siteMode = s.siteMode
      ∧ (s.answerHead l r code content).stationCap = s.stationCap
      ∧ (s.answerHead l r code content).serviceCap = s.serviceCap
      ∧ (s.answerHead l r code content).config = s.config ∧ (s.answerHead l r code content).choices = s.choices
      ∧ (s.answerHead l r code content).pending = s.pending := by simp [State.answerHead]

/-! ## What each update makes of the part it changes -/

theorem State.atTime_uptime (s : State) (t : Nat) : (s.atTime t).uptime = max s.uptime t := rfl

theorem State.atTime_of_le {s : State} {t : Nat} (h : t ≤ s.uptime) : s.atTime t = s := by
  cases s; simp [State.atTime] at h ⊢; exact h

@[simp] theorem State.modChain_same (s : State) (c : Str) (f : Chain → Chain) :
    (s.modChain c f).chain c = f (s.chain c) := by simp [State.modChain, State.chain]

theorem State.modChain_chain (s : State) (c d : Str) (f : Chain → Chain) :
    (s.modChain c f).chain d = if d = c then f (s.chain d) else s.chain d := by
  simp [State.modChain, State.chain, PerString.get_mod]

@[simp] theorem State.modString_same (s : State) (c : Str) (f : StringController → StringController) :
    (s.modString c f).string c = f (s.string c) := by simp [State.modString, State.string]

theorem State.modString_string (s : State) (c d : Str) (f : StringController → StringController) :
    (s.modString c f).string d = if d = c then f (s.string d) else s.string d := by
  simp [State.modString, State.string, PerString.get_mod]

@[simp] theorem State.modCells_same (s : State) (c : Str) (f : Supervision → Supervision) :
    (s.modCells c f).cells c = f (s.cells c) := by simp [State.modCells, State.cells]

@[simp] theorem State.modLink_same (s : State) (l : Link) (f : LinkState → LinkState) :
    (s.modLink l f).link l = f (s.link l) := by simp [State.modLink, State.link]

theorem State.modLink_link (s : State) (l m : Link) (f : LinkState → LinkState) :
    (s.modLink l f).link m = if m = l then f (s.link m) else s.link m := by
  simp [State.modLink, State.link, PerLink.get_mod]

theorem State.modModule_chain (s : State) (c : Str) (a : Addr) (f : ModuleRecord → ModuleRecord) :
    (s.modModule c a f).chain c = { s.chain c with modules := vmod a f (s.chain c).modules } := by
  simp [State.modModule]

@[simp] theorem State.post_link (s : State) (n : NoticeKind) (d : NoticeDetail) (l : Link) :
    (s.post n d).link l = (s.link l).post n d := by simp [State.post, State.link]

/-! ## A link with its notices put aside -/

@[simp] theorem LinkState.post_quiet (k : LinkState) (n : NoticeKind) (d : NoticeDetail) :
    (k.post n d).quiet = k.quiet := rfl

theorem LinkState.queue_of_quiet {k j : LinkState} (h : k.quiet = j.quiet) : k.queue = j.queue :=
  show k.quiet.queue = j.quiet.queue by rw [h]

theorem LinkState.out_of_quiet {k j : LinkState} (h : k.quiet = j.quiet) : k.out = j.out :=
  show k.quiet.out = j.quiet.out by rw [h]

theorem LinkState.waiting_of_quiet {k j : LinkState} (h : k.quiet = j.quiet) : k.waiting = j.waiting :=
  show k.quiet.waiting = j.quiet.waiting by rw [h]

theorem LinkState.taken_of_quiet {k j : LinkState} (h : k.quiet = j.quiet) : k.taken = j.taken :=
  show k.quiet.taken = j.quiet.taken by rw [h]

@[simp] theorem State.post_quietLinks (s : State) (n : NoticeKind) (d : NoticeDetail) :
    (s.post n d).quietLinks = s.quietLinks := rfl

/-- Two states whose links differ in their notices alone have the same quiet link. -/
theorem State.quiet_link {s t : State} (h : t.quietLinks = s.quietLinks) (l : Link) :
    (t.link l).quiet = (s.link l).quiet := by
  have := congrArg (fun p => p.get l) h
  simpa [State.quietLinks, State.link] using this

theorem State.quietLinks_congr {s t : State} (h : t.links = s.links) : t.quietLinks = s.quietLinks := by
  simp [State.quietLinks, h]

end Sys2Proof.Machine
end

