-- ==== Sys2Proof/Laws/Ops.lean ====
section
/-! SUPPORT. One lemma for each shared operation of Machine/Ops.lean that says once everything it can do: the free choice of
an order, the serving of a request, the answering of waiting requests. -/

namespace Sys2Proof.Machine

/-! ## The free order of receivers -/

/-- A free choice answers one of the states offered, its count of choices apart. -/
theorem State.oneOf_cases (first : State) (others : List State) :
    ∃ t ∈ first :: others, ∃ n, State.oneOf first others = { t with choices := n } := by
  unfold State.oneOf
  split
  · exact ⟨first, by simp, first.choices, rfl⟩
  · have hlen : 0 < (first :: others).length := by simp
    have hi := Nat.mod_lt (Config.pick ((first :: others).foldl (fun m t => max m t.choices) 0)) hlen
    refine ⟨_, List.getElem_mem hi, (first :: others).foldl (fun m t => max m t.choices) 0 + 1, ?_⟩
    simp only [List.getD_eq_getElem?_getD, List.getElem?_eq_getElem hi, Option.getD_some]

/-- Effects in any order are all of them, one after the other, in some order. -/
theorem State.inAnyOrder_cases (s : State) (effects : List (State → State)) :
    ∃ p, p.Perm effects ∧ ∃ n, s.inAnyOrder effects = { s.through p with choices := n } := by
  unfold State.inAnyOrder
  split
  · next h => exact absurd (h ▸ List.mem_permutations'.2 (List.Perm.refl effects)) (by simp)
  · next p rest h =>
    obtain ⟨t, ht, n, e⟩ := State.oneOf_cases (s.through p) (rest.map s.through)
    have hm : t ∈ (p :: rest).map s.through := by simpa using ht
    obtain ⟨q, hq, rfl⟩ := List.mem_map.1 hm
    exact ⟨q, List.mem_permutations'.1 (h ▸ hq), n, e⟩

/-- What every one of a list of effects keeps, the list keeps. -/
theorem State.through_keeps {P : State → Prop} {effects : List (State → State)}
    (hf : ∀ f ∈ effects, ∀ t, P t → P (f t)) {s : State} (hs : P s) : P (s.through effects) := by
  induction effects generalizing s with
  | nil => exact hs
  | cons f rest ih =>
    exact ih (fun g hg => hf g (List.mem_cons_of_mem _ hg)) (hf f (List.mem_cons_self ..) s hs)

/-- What every one of a list of effects keeps, and the count of choices does not touch, they keep in any order. -/
theorem State.inAnyOrder_keeps {P : State → Prop} (hn : ∀ t n, P t → P { t with choices := n })
    {effects : List (State → State)} (hf : ∀ f ∈ effects, ∀ t, P t → P (f t)) {s : State} (hs : P s) :
    P (s.inAnyOrder effects) := by
  obtain ⟨p, hp, n, e⟩ := s.inAnyOrder_cases effects
  rw [e]
  exact hn _ _ (State.through_keeps (fun f h => hf f (hp.mem_iff.1 h)) hs)

/-- Two effects in any order are the one order or the other. -/
theorem State.inAnyOrder_two (s : State) (f g : State → State) :
    ∃ n, s.inAnyOrder [f, g] = { g (f s) with choices := n } ∨ s.inAnyOrder [f, g] = { f (g s) with choices := n } := by
  obtain ⟨p, hp, n, e⟩ := s.inAnyOrder_cases [f, g]
  have hm := List.mem_permutations'.2 hp
  simp only [List.permutations', List.flatMap_cons, List.flatMap_nil, List.permutations'Aux, List.map_cons,
    List.map_nil, List.append_nil, List.mem_cons, List.not_mem_nil, or_false] at hm
  rcases hm with rfl | rfl
  · exact ⟨n, .inl (by simpa [State.through] using e)⟩
  · exact ⟨n, .inr (by simpa [State.through] using e)⟩

/-! ## Serving (R166) -/

/-- A request that the link cannot serve changes nothing. -/
theorem State.serveWith_unservable {s : State} {l : Link} {r : Request} (h : s.canServe l r = false)
    (refused : State → List Item) (block : State → State × Served) : s.serveWith l r refused block = s := by
  simp [State.serveWith, h]

/-- A request that the permission table or the site mode refuses is answered so. -/
theorem State.serveWith_refused {s : State} {l : Link} {r : Request} {code : AnswerCode} (h : s.canServe l r = true)
    (hp : portRefusal r.kind l s.siteMode = some code) (refused : State → List Item) (block : State → State × Served) :
    s.serveWith l r refused block = s.answerHead l r code (refused s) := by simp [State.serveWith, h, hp]

/-- A request that reaches its block: what the block does with it decides. -/
theorem State.serveWith_delivers {s : State} {l : Link} {r : Request} (h : s.delivers l r)
    (refused : State → List Item) (block : State → State × Served) :
    s.serveWith l r refused block = match (block s).2 with
      | .now code content => (block s).1.answerHead l r code content
      | .later => (block s).1.modLink l fun k => { k with waiting := true }
      | .leaves => (block s).1.modLink l fun k => { k with queue := k.queue.drop 1 } := by
  unfold State.serveWith
  rw [h.1, h.2]
  rcases block s with ⟨t, code | - | -⟩ <;> rfl

/-- Everything the serving of a request can do. -/
theorem State.serveWith_cases (s : State) (l : Link) (r : Request) (refused : State → List Item)
    (block : State → State × Served) :
    s.serveWith l r refused block = s
      ∨ (∃ code, s.canServe l r = true ∧ portRefusal r.kind l s.siteMode = some code
          ∧ s.serveWith l r refused block = s.answerHead l r code (refused s))
      ∨ (s.delivers l r
          ∧ ((∃ code content, (block s).2 = .now code content
                ∧ s.serveWith l r refused block = (block s).1.answerHead l r code content)
            ∨ ((block s).2 = .later
                ∧ s.serveWith l r refused block = (block s).1.modLink l fun k => { k with waiting := true })
            ∨ ((block s).2 = .leaves
                ∧ s.serveWith l r refused block
                  = (block s).1.modLink l fun k => { k with queue := k.queue.drop 1 }))) := by
  cases h : s.canServe l r with
  | false => exact .inl (State.serveWith_unservable h refused block)
  | true =>
    cases hp : portRefusal r.kind l s.siteMode with
    | some code => exact .inr (.inl ⟨code, rfl, rfl, State.serveWith_refused h hp refused block⟩)
    | none =>
      refine .inr (.inr ⟨⟨h, hp⟩, ?_⟩)
      rw [State.serveWith_delivers ⟨h, hp⟩]
      cases hb : (block s).2 with
      | now code content => exact .inl ⟨code, content, rfl, rfl⟩
      | later => exact .inr (.inl ⟨rfl, rfl⟩)
      | leaves => exact .inr (.inr ⟨rfl, rfl⟩)

/-- What a block keeps, and the links do not touch, the serving of a request keeps. -/
theorem State.serveWith_keeps {P : State → Prop} (hl : ∀ t l f, P t → P (t.modLink l f)) {s : State} (hs : P s)
    {l : Link} {r : Request} {refused : State → List Item} {block : State → State × Served} (hb : P (block s).1) :
    P (s.serveWith l r refused block) := by
  rcases s.serveWith_cases l r refused block with e | ⟨code, -, -, e⟩ | ⟨-, ⟨code, content, -, e⟩ | ⟨-, e⟩ | ⟨-, e⟩⟩ <;>
    rw [e]
  · exact hs
  · exact hl _ _ _ hs
  · exact hl _ _ _ hb
  · exact hl _ _ _ hb
  · exact hl _ _ _ hb

/-- A request that the link cannot serve changes nothing. -/
theorem State.serve_unservable {s : State} {l : Link} {r : Request} (h : s.canServe l r = false)
    (block : State → State × Served) : s.serve l r block = s := State.serveWith_unservable h _ block

/-- A request that the permission table or the site mode refuses is answered so, with nothing. -/
theorem State.serve_refused {s : State} {l : Link} {r : Request} {code : AnswerCode} (h : s.canServe l r = true)
    (hp : portRefusal r.kind l s.siteMode = some code) (block : State → State × Served) :
    s.serve l r block = s.answerHead l r code [] := State.serveWith_refused h hp _ block

/-- What a block keeps, and the links do not touch, the serving of a request keeps. -/
theorem State.serve_keeps {P : State → Prop} (hl : ∀ t l f, P t → P (t.modLink l f)) {s : State} (hs : P s)
    {l : Link} {r : Request} {block : State → State × Served} (hb : P (block s).1) : P (s.serve l r block) :=
  State.serveWith_keeps hl hs hb

/-- A request answered at once by its block. -/
theorem State.serve_now {s t : State} {l : Link} {r : Request} {code : AnswerCode} {content : List Item}
    {block : State → State × Served} (h : s.delivers l r) (hb : block s = (t, .now code content)) :
    s.serve l r block = t.answerHead l r code content := by
  rw [State.serve, State.serveWith_delivers h, hb]

/-- A request that waits for its answer. -/
theorem State.serve_later {s t : State} {l : Link} {r : Request} {block : State → State × Served}
    (h : s.delivers l r) (hb : block s = (t, .later)) :
    s.serve l r block = t.modLink l fun k => { k with waiting := true } := by
  rw [State.serve, State.serveWith_delivers h, hb]

/-- A request that leaves the queue at its delivery. -/
theorem State.serve_leaves {s t : State} {l : Link} {r : Request} {block : State → State × Served}
    (h : s.delivers l r) (hb : block s = (t, .leaves)) :
    s.serve l r block = t.modLink l fun k => { k with queue := k.queue.drop 1 } := by
  rw [State.serve, State.serveWith_delivers h, hb]

/-- R155: a request with the permit report that the link cannot serve changes nothing. -/
theorem State.serveReported_unservable {s : State} {l : Link} {r : Request} (h : s.canServe l r = false)
    (block : State → State × AnswerCode) : s.serveReported l r block = s := State.serveWith_unservable h _ _

/-- R155: a request with the permit report that the permission table or the site mode refuses is answered so, with the
report. -/
theorem State.serveReported_refused {s : State} {l : Link} {r : Request} {code : AnswerCode}
    (h : s.canServe l r = true) (hp : portRefusal r.kind l s.siteMode = some code)
    (block : State → State × AnswerCode) :
    s.serveReported l r block = s.answerHead l r code s.permitItems := State.serveWith_refused h hp _ _

/-- R155: a request with the permit report is answered by its block with the report of the state the block leaves. -/
theorem State.serveReported_delivers {s : State} {l : Link} {r : Request} (h : s.delivers l r)
    (block : State → State × AnswerCode) :
    s.serveReported l r block = (block s).1.answerHead l r (block s).2 (block s).1.permitItems := by
  rw [State.serveReported, State.serveWith_delivers h]; rfl

/-! ## Answering waiting requests (R15) -/

/-- The answering of waiting requests touches no link's queue, notices or codes, and nothing outside the links. -/
theorem State.answerWaiters_keeps {P : State → Prop} (hl : ∀ t l a, P t → P (t.answer l a)) (waiters : List Waiter)
    (code : AnswerCode) (content : List Item) {s : State} (hs : P s) : P (s.answerWaiters waiters code content) := by
  unfold State.answerWaiters
  induction waiters generalizing s with
  | nil => exact hs
  | cons w rest ih => exact ih (hl _ _ _ hs)

/-- The answering of waiting requests adds their answers, in order, to those of their links. -/
theorem State.answerWaiters_out (waiters : List Waiter) (code : AnswerCode) (content : List Item) (s : State) (l : Link) :
    ((s.answerWaiters waiters code content).link l).out
      = (s.link l).out
        ++ ((waiters.filter fun w => w.link = l).map fun w => ⟨answerKind 3, w.seq, code, content, false⟩) := by
  unfold State.answerWaiters
  induction waiters generalizing s with
  | nil => simp
  | cons w rest ih =>
    rw [List.foldl_cons, ih]
    by_cases h : w.link = l
    · subst h
      simp [State.answer, List.append_assoc]
    · have h' : l ≠ w.link := fun e => h e.symm
      simp [State.answer, State.modLink_link, h, h']

end Sys2Proof.Machine
end

