-- ==== Sys2Proof/Laws/Frames.lean ====
section
/-! SUPPORT. What each shared operation of the blocks changes: for every operation one lemma that names the parts of the
state it can change by leaving them out, and says that every other part is as it was. -/

namespace Sys2Proof.Machine

/-! ## The envelope unit -/

/-- What `State.publish` changes: envelope, links; the rest of the state is as it was. -/
@[simp] theorem State.publish_frame (s : State) (limits : Row) :
    (s.publish limits).phase = s.phase ∧ (s.publish limits).resetLine = s.resetLine
      ∧ (s.publish limits).resetKind = s.resetKind ∧ (s.publish limits).siteResetDue = s.siteResetDue
      ∧ (s.publish limits).uptime = s.uptime ∧ (s.publish limits).clocks = s.clocks
      ∧ (s.publish limits).chains = s.chains ∧ (s.publish limits).supervision = s.supervision
      ∧ (s.publish limits).strings = s.strings ∧ (s.publish limits).plant = s.plant
      ∧ (s.publish limits).fire = s.fire ∧ (s.publish limits).store = s.store
      ∧ (s.publish limits).agreement = s.agreement ∧ (s.publish limits).permit = s.permit
      ∧ (s.publish limits).siteMode = s.siteMode ∧ (s.publish limits).stationCap = s.stationCap
      ∧ (s.publish limits).serviceCap = s.serviceCap ∧ (s.publish limits).config = s.config
      ∧ (s.publish limits).choices = s.choices ∧ (s.publish limits).pending = s.pending := by
  unfold State.publish
  repeat' split
  all_goals simp

/-- What `State.downward` changes: envelope, links; the rest of the state is as it was. -/
@[simp] theorem State.downward_frame (s : State) :
    (s.downward).phase = s.phase ∧ (s.downward).resetLine = s.resetLine ∧ (s.downward).resetKind = s.resetKind
      ∧ (s.downward).siteResetDue = s.siteResetDue ∧ (s.downward).uptime = s.uptime ∧ (s.downward).clocks = s.clocks
      ∧ (s.downward).chains = s.chains ∧ (s.downward).supervision = s.supervision ∧ (s.downward).strings = s.strings
      ∧ (s.downward).plant = s.plant ∧ (s.downward).fire = s.fire ∧ (s.downward).store = s.store
      ∧ (s.downward).agreement = s.agreement ∧ (s.downward).permit = s.permit ∧ (s.downward).siteMode = s.siteMode
      ∧ (s.downward).stationCap = s.stationCap ∧ (s.downward).serviceCap = s.serviceCap
      ∧ (s.downward).config = s.config ∧ (s.downward).choices = s.choices
      ∧ (s.downward).pending = s.pending := by simp [State.downward]

/-- What `State.tick` changes: envelope, links; the rest of the state is as it was. -/
@[simp] theorem State.tick_frame (s : State) :
    (s.tick).phase = s.phase ∧ (s.tick).resetLine = s.resetLine ∧ (s.tick).resetKind = s.resetKind
      ∧ (s.tick).siteResetDue = s.siteResetDue ∧ (s.tick).uptime = s.uptime ∧ (s.tick).clocks = s.clocks
      ∧ (s.tick).chains = s.chains ∧ (s.tick).supervision = s.supervision ∧ (s.tick).strings = s.strings
      ∧ (s.tick).plant = s.plant ∧ (s.tick).fire = s.fire ∧ (s.tick).store = s.store
      ∧ (s.tick).agreement = s.agreement ∧ (s.tick).permit = s.permit ∧ (s.tick).siteMode = s.siteMode
      ∧ (s.tick).stationCap = s.stationCap ∧ (s.tick).serviceCap = s.serviceCap ∧ (s.tick).config = s.config
      ∧ (s.tick).choices = s.choices ∧ (s.tick).pending = s.pending := by simp [State.tick]

/-- What `State.updateTable` changes: envelope, links; the rest of the state is as it was. -/
@[simp] theorem State.updateTable_frame (s : State) (f : LimitTable → LimitTable) :
    (s.updateTable f).phase = s.phase ∧ (s.updateTable f).resetLine = s.resetLine
      ∧ (s.updateTable f).resetKind = s.resetKind ∧ (s.updateTable f).siteResetDue = s.siteResetDue
      ∧ (s.updateTable f).uptime = s.uptime ∧ (s.updateTable f).clocks = s.clocks
      ∧ (s.updateTable f).chains = s.chains ∧ (s.updateTable f).supervision = s.supervision
      ∧ (s.updateTable f).strings = s.strings ∧ (s.updateTable f).plant = s.plant ∧ (s.updateTable f).fire = s.fire
      ∧ (s.updateTable f).store = s.store ∧ (s.updateTable f).agreement = s.agreement
      ∧ (s.updateTable f).permit = s.permit ∧ (s.updateTable f).siteMode = s.siteMode
      ∧ (s.updateTable f).stationCap = s.stationCap ∧ (s.updateTable f).serviceCap = s.serviceCap
      ∧ (s.updateTable f).config = s.config ∧ (s.updateTable f).choices = s.choices
      ∧ (s.updateTable f).pending = s.pending := by simp [State.updateTable]

/-- What `State.updateVhTd` changes: envelope, links; the rest of the state is as it was. -/
@[simp] theorem State.updateVhTd_frame (s : State) (c : Str) (vh : Nat × Nat) (td : Nat × Nat) :
    (s.updateVhTd c vh td).phase = s.phase ∧ (s.updateVhTd c vh td).resetLine = s.resetLine
      ∧ (s.updateVhTd c vh td).resetKind = s.resetKind ∧ (s.updateVhTd c vh td).siteResetDue = s.siteResetDue
      ∧ (s.updateVhTd c vh td).uptime = s.uptime ∧ (s.updateVhTd c vh td).clocks = s.clocks
      ∧ (s.updateVhTd c vh td).chains = s.chains ∧ (s.updateVhTd c vh td).supervision = s.supervision
      ∧ (s.updateVhTd c vh td).strings = s.strings ∧ (s.updateVhTd c vh td).plant = s.plant
      ∧ (s.updateVhTd c vh td).fire = s.fire ∧ (s.updateVhTd c vh td).store = s.store
      ∧ (s.updateVhTd c vh td).agreement = s.agreement ∧ (s.updateVhTd c vh td).permit = s.permit
      ∧ (s.updateVhTd c vh td).siteMode = s.siteMode ∧ (s.updateVhTd c vh td).stationCap = s.stationCap
      ∧ (s.updateVhTd c vh td).serviceCap = s.serviceCap ∧ (s.updateVhTd c vh td).config = s.config
      ∧ (s.updateVhTd c vh td).choices = s.choices
      ∧ (s.updateVhTd c vh td).pending = s.pending := by simp [State.updateVhTd]

/-- What `State.updateCd` changes: envelope, links; the rest of the state is as it was. -/
@[simp] theorem State.updateCd_frame (s : State) (n : Nat) :
    (s.updateCd n).phase = s.phase ∧ (s.updateCd n).resetLine = s.resetLine ∧ (s.updateCd n).resetKind = s.resetKind
      ∧ (s.updateCd n).siteResetDue = s.siteResetDue ∧ (s.updateCd n).uptime = s.uptime
      ∧ (s.updateCd n).clocks = s.clocks ∧ (s.updateCd n).chains = s.chains
      ∧ (s.updateCd n).supervision = s.supervision ∧ (s.updateCd n).strings = s.strings
      ∧ (s.updateCd n).plant = s.plant ∧ (s.updateCd n).fire = s.fire ∧ (s.updateCd n).store = s.store
      ∧ (s.updateCd n).agreement = s.agreement ∧ (s.updateCd n).permit = s.permit
      ∧ (s.updateCd n).siteMode = s.siteMode ∧ (s.updateCd n).stationCap = s.stationCap
      ∧ (s.updateCd n).serviceCap = s.serviceCap ∧ (s.updateCd n).config = s.config
      ∧ (s.updateCd n).choices = s.choices ∧ (s.updateCd n).pending = s.pending := by simp [State.updateCd]

/-- What `State.updateFs` changes: envelope, links; the rest of the state is as it was. -/
@[simp] theorem State.updateFs_frame (s : State) (r : Row) :
    (s.updateFs r).phase = s.phase ∧ (s.updateFs r).resetLine = s.resetLine ∧ (s.updateFs r).resetKind = s.resetKind
      ∧ (s.updateFs r).siteResetDue = s.siteResetDue ∧ (s.updateFs r).uptime = s.uptime
      ∧ (s.updateFs r).clocks = s.clocks ∧ (s.updateFs r).chains = s.chains
      ∧ (s.updateFs r).supervision = s.supervision ∧ (s.updateFs r).strings = s.strings
      ∧ (s.updateFs r).plant = s.plant ∧ (s.updateFs r).fire = s.fire ∧ (s.updateFs r).store = s.store
      ∧ (s.updateFs r).agreement = s.agreement ∧ (s.updateFs r).permit = s.permit
      ∧ (s.updateFs r).siteMode = s.siteMode ∧ (s.updateFs r).stationCap = s.stationCap
      ∧ (s.updateFs r).serviceCap = s.serviceCap ∧ (s.updateFs r).config = s.config
      ∧ (s.updateFs r).choices = s.choices ∧ (s.updateFs r).pending = s.pending := by simp [State.updateFs]

/-- What `State.updateGa` changes: envelope, links; the rest of the state is as it was. -/
@[simp] theorem State.updateGa_frame (s : State) (charge : Nat) (discharge : Nat) :
    (s.updateGa charge discharge).phase = s.phase ∧ (s.updateGa charge discharge).resetLine = s.resetLine
      ∧ (s.updateGa charge discharge).resetKind = s.resetKind
      ∧ (s.updateGa charge discharge).siteResetDue = s.siteResetDue
      ∧ (s.updateGa charge discharge).uptime = s.uptime ∧ (s.updateGa charge discharge).clocks = s.clocks
      ∧ (s.updateGa charge discharge).chains = s.chains ∧ (s.updateGa charge discharge).supervision = s.supervision
      ∧ (s.updateGa charge discharge).strings = s.strings ∧ (s.updateGa charge discharge).plant = s.plant
      ∧ (s.updateGa charge discharge).fire = s.fire ∧ (s.updateGa charge discharge).store = s.store
      ∧ (s.updateGa charge discharge).agreement = s.agreement ∧ (s.updateGa charge discharge).permit = s.permit
      ∧ (s.updateGa charge discharge).siteMode = s.siteMode
      ∧ (s.updateGa charge discharge).stationCap = s.stationCap
      ∧ (s.updateGa charge discharge).serviceCap = s.serviceCap ∧ (s.updateGa charge discharge).config = s.config
      ∧ (s.updateGa charge discharge).choices = s.choices
      ∧ (s.updateGa charge discharge).pending = s.pending := by simp [State.updateGa]

/-- What `State.deliverSc` changes: envelope, links; the rest of the state is as it was. -/
@[simp] theorem State.deliverSc_frame (s : State) :
    (s.deliverSc).phase = s.phase ∧ (s.deliverSc).resetLine = s.resetLine ∧ (s.deliverSc).resetKind = s.resetKind
      ∧ (s.deliverSc).siteResetDue = s.siteResetDue ∧ (s.deliverSc).uptime = s.uptime
      ∧ (s.deliverSc).clocks = s.clocks ∧ (s.deliverSc).chains = s.chains
      ∧ (s.deliverSc).supervision = s.supervision ∧ (s.deliverSc).strings = s.strings
      ∧ (s.deliverSc).plant = s.plant ∧ (s.deliverSc).fire = s.fire ∧ (s.deliverSc).store = s.store
      ∧ (s.deliverSc).agreement = s.agreement ∧ (s.deliverSc).permit = s.permit
      ∧ (s.deliverSc).siteMode = s.siteMode ∧ (s.deliverSc).stationCap = s.stationCap
      ∧ (s.deliverSc).serviceCap = s.serviceCap ∧ (s.deliverSc).config = s.config
      ∧ (s.deliverSc).choices = s.choices ∧ (s.deliverSc).pending = s.pending := by simp [State.deliverSc]

/-- What `State.returnToAuto` changes: envelope, links, siteMode, serviceCap; the rest of the state is as it was. -/
@[simp] theorem State.returnToAuto_frame (s : State) :
    (s.returnToAuto).phase = s.phase ∧ (s.returnToAuto).resetLine = s.resetLine
      ∧ (s.returnToAuto).resetKind = s.resetKind ∧ (s.returnToAuto).siteResetDue = s.siteResetDue
      ∧ (s.returnToAuto).uptime = s.uptime ∧ (s.returnToAuto).clocks = s.clocks ∧ (s.returnToAuto).chains = s.chains
      ∧ (s.returnToAuto).supervision = s.supervision ∧ (s.returnToAuto).strings = s.strings
      ∧ (s.returnToAuto).plant = s.plant ∧ (s.returnToAuto).fire = s.fire ∧ (s.returnToAuto).store = s.store
      ∧ (s.returnToAuto).agreement = s.agreement ∧ (s.returnToAuto).permit = s.permit
      ∧ (s.returnToAuto).stationCap = s.stationCap ∧ (s.returnToAuto).config = s.config
      ∧ (s.returnToAuto).choices = s.choices ∧ (s.returnToAuto).pending = s.pending := by
  unfold State.returnToAuto
  repeat' split
  all_goals simp

/-- What `State.storeCap` changes: envelope, links, stationCap, serviceCap; the rest of the state is as it was. -/
@[simp] theorem State.storeCap_frame (s : State) (l : Link) (v : Nat) :
    (s.storeCap l v).phase = s.phase ∧ (s.storeCap l v).resetLine = s.resetLine
      ∧ (s.storeCap l v).resetKind = s.resetKind ∧ (s.storeCap l v).siteResetDue = s.siteResetDue
      ∧ (s.storeCap l v).uptime = s.uptime ∧ (s.storeCap l v).clocks = s.clocks ∧ (s.storeCap l v).chains = s.chains
      ∧ (s.storeCap l v).supervision = s.supervision ∧ (s.storeCap l v).strings = s.strings
      ∧ (s.storeCap l v).plant = s.plant ∧ (s.storeCap l v).fire = s.fire ∧ (s.storeCap l v).store = s.store
      ∧ (s.storeCap l v).agreement = s.agreement ∧ (s.storeCap l v).permit = s.permit
      ∧ (s.storeCap l v).siteMode = s.siteMode ∧ (s.storeCap l v).config = s.config
      ∧ (s.storeCap l v).choices = s.choices ∧ (s.storeCap l v).pending = s.pending := by
  unfold State.storeCap
  repeat' split
  all_goals simp

/-! ## The grid permit unit -/

/-- What `State.modPermit` changes: permit; the rest of the state is as it was. -/
@[simp] theorem State.modPermit_frame (s : State) (f : Permit → Permit) :
    (s.modPermit f).phase = s.phase ∧ (s.modPermit f).resetLine = s.resetLine
      ∧ (s.modPermit f).resetKind = s.resetKind ∧ (s.modPermit f).siteResetDue = s.siteResetDue
      ∧ (s.modPermit f).uptime = s.uptime ∧ (s.modPermit f).clocks = s.clocks ∧ (s.modPermit f).chains = s.chains
      ∧ (s.modPermit f).supervision = s.supervision ∧ (s.modPermit f).strings = s.strings
      ∧ (s.modPermit f).envelope = s.envelope ∧ (s.modPermit f).plant = s.plant ∧ (s.modPermit f).fire = s.fire
      ∧ (s.modPermit f).store = s.store ∧ (s.modPermit f).agreement = s.agreement ∧ (s.modPermit f).links = s.links
      ∧ (s.modPermit f).siteMode = s.siteMode ∧ (s.modPermit f).stationCap = s.stationCap
      ∧ (s.modPermit f).serviceCap = s.serviceCap ∧ (s.modPermit f).config = s.config
      ∧ (s.modPermit f).choices = s.choices ∧ (s.modPermit f).pending = s.pending := by simp [State.modPermit]

/-- What `State.postBreaker` changes: links; the rest of the state is as it was. -/
@[simp] theorem State.postBreaker_frame (s : State) (old : PermitState) (what : BreakerDetail) :
    (s.postBreaker old what).phase = s.phase ∧ (s.postBreaker old what).resetLine = s.resetLine
      ∧ (s.postBreaker old what).resetKind = s.resetKind ∧ (s.postBreaker old what).siteResetDue = s.siteResetDue
      ∧ (s.postBreaker old what).uptime = s.uptime ∧ (s.postBreaker old what).clocks = s.clocks
      ∧ (s.postBreaker old what).chains = s.chains ∧ (s.postBreaker old what).supervision = s.supervision
      ∧ (s.postBreaker old what).strings = s.strings ∧ (s.postBreaker old what).envelope = s.envelope
      ∧ (s.postBreaker old what).plant = s.plant ∧ (s.postBreaker old what).fire = s.fire
      ∧ (s.postBreaker old what).store = s.store ∧ (s.postBreaker old what).agreement = s.agreement
      ∧ (s.postBreaker old what).permit = s.permit ∧ (s.postBreaker old what).siteMode = s.siteMode
      ∧ (s.postBreaker old what).stationCap = s.stationCap ∧ (s.postBreaker old what).serviceCap = s.serviceCap
      ∧ (s.postBreaker old what).config = s.config ∧ (s.postBreaker old what).choices = s.choices
      ∧ (s.postBreaker old what).pending = s.pending := by simp [State.postBreaker]

/-- What `State.trip` changes: permit, links; the rest of the state is as it was. -/
@[simp] theorem State.trip_frame (s : State) (k : TripCause) :
    (s.trip k).phase = s.phase ∧ (s.trip k).resetLine = s.resetLine ∧ (s.trip k).resetKind = s.resetKind
      ∧ (s.trip k).siteResetDue = s.siteResetDue ∧ (s.trip k).uptime = s.uptime ∧ (s.trip k).clocks = s.clocks
      ∧ (s.trip k).chains = s.chains ∧ (s.trip k).supervision = s.supervision ∧ (s.trip k).strings = s.strings
      ∧ (s.trip k).envelope = s.envelope ∧ (s.trip k).plant = s.plant ∧ (s.trip k).fire = s.fire
      ∧ (s.trip k).store = s.store ∧ (s.trip k).agreement = s.agreement ∧ (s.trip k).siteMode = s.siteMode
      ∧ (s.trip k).stationCap = s.stationCap ∧ (s.trip k).serviceCap = s.serviceCap ∧ (s.trip k).config = s.config
      ∧ (s.trip k).choices = s.choices ∧ (s.trip k).pending = s.pending := by
  unfold State.trip
  repeat' split
  all_goals simp

/-- What `State.unpermittedClose` changes: permit, links; the rest of the state is as it was. -/
@[simp] theorem State.unpermittedClose_frame (s : State) :
    (s.unpermittedClose).phase = s.phase ∧ (s.unpermittedClose).resetLine = s.resetLine
      ∧ (s.unpermittedClose).resetKind = s.resetKind ∧ (s.unpermittedClose).siteResetDue = s.siteResetDue
      ∧ (s.unpermittedClose).uptime = s.uptime ∧ (s.unpermittedClose).clocks = s.clocks
      ∧ (s.unpermittedClose).chains = s.chains ∧ (s.unpermittedClose).supervision = s.supervision
      ∧ (s.unpermittedClose).strings = s.strings ∧ (s.unpermittedClose).envelope = s.envelope
      ∧ (s.unpermittedClose).plant = s.plant ∧ (s.unpermittedClose).fire = s.fire
      ∧ (s.unpermittedClose).store = s.store ∧ (s.unpermittedClose).agreement = s.agreement
      ∧ (s.unpermittedClose).siteMode = s.siteMode ∧ (s.unpermittedClose).stationCap = s.stationCap
      ∧ (s.unpermittedClose).serviceCap = s.serviceCap ∧ (s.unpermittedClose).config = s.config
      ∧ (s.unpermittedClose).choices = s.choices
      ∧ (s.unpermittedClose).pending = s.pending := by simp [State.unpermittedClose]

/-- What `State.forcedTrip` changes: permit, links; the rest of the state is as it was. -/
@[simp] theorem State.forcedTrip_frame (s : State) :
    (s.forcedTrip).phase = s.phase ∧ (s.forcedTrip).resetLine = s.resetLine ∧ (s.forcedTrip).resetKind = s.resetKind
      ∧ (s.forcedTrip).siteResetDue = s.siteResetDue ∧ (s.forcedTrip).uptime = s.uptime
      ∧ (s.forcedTrip).clocks = s.clocks ∧ (s.forcedTrip).chains = s.chains
      ∧ (s.forcedTrip).supervision = s.supervision ∧ (s.forcedTrip).strings = s.strings
      ∧ (s.forcedTrip).envelope = s.envelope ∧ (s.forcedTrip).plant = s.plant ∧ (s.forcedTrip).fire = s.fire
      ∧ (s.forcedTrip).store = s.store ∧ (s.forcedTrip).agreement = s.agreement
      ∧ (s.forcedTrip).siteMode = s.siteMode ∧ (s.forcedTrip).stationCap = s.stationCap
      ∧ (s.forcedTrip).serviceCap = s.serviceCap ∧ (s.forcedTrip).config = s.config
      ∧ (s.forcedTrip).choices = s.choices ∧ (s.forcedTrip).pending = s.pending := by
  unfold State.forcedTrip
  repeat' split
  all_goals simp

/-- What `State.noStringTrip` changes: permit, links; the rest of the state is as it was. -/
@[simp] theorem State.noStringTrip_frame (s : State) :
    (s.noStringTrip).phase = s.phase ∧ (s.noStringTrip).resetLine = s.resetLine
      ∧ (s.noStringTrip).resetKind = s.resetKind ∧ (s.noStringTrip).siteResetDue = s.siteResetDue
      ∧ (s.noStringTrip).uptime = s.uptime ∧ (s.noStringTrip).clocks = s.clocks ∧ (s.noStringTrip).chains = s.chains
      ∧ (s.noStringTrip).supervision = s.supervision ∧ (s.noStringTrip).strings = s.strings
      ∧ (s.noStringTrip).envelope = s.envelope ∧ (s.noStringTrip).plant = s.plant ∧ (s.noStringTrip).fire = s.fire
      ∧ (s.noStringTrip).store = s.store ∧ (s.noStringTrip).agreement = s.agreement
      ∧ (s.noStringTrip).siteMode = s.siteMode ∧ (s.noStringTrip).stationCap = s.stationCap
      ∧ (s.noStringTrip).serviceCap = s.serviceCap ∧ (s.noStringTrip).config = s.config
      ∧ (s.noStringTrip).choices = s.choices ∧ (s.noStringTrip).pending = s.pending := by
  unfold State.noStringTrip
  repeat' split
  all_goals simp

/-- What `State.grant` changes: permit, links; the rest of the state is as it was. -/
@[simp] theorem State.grant_frame (s : State) :
    (s.grant).phase = s.phase ∧ (s.grant).resetLine = s.resetLine ∧ (s.grant).resetKind = s.resetKind
      ∧ (s.grant).siteResetDue = s.siteResetDue ∧ (s.grant).uptime = s.uptime ∧ (s.grant).clocks = s.clocks
      ∧ (s.grant).chains = s.chains ∧ (s.grant).supervision = s.supervision ∧ (s.grant).strings = s.strings
      ∧ (s.grant).envelope = s.envelope ∧ (s.grant).plant = s.plant ∧ (s.grant).fire = s.fire
      ∧ (s.grant).store = s.store ∧ (s.grant).agreement = s.agreement ∧ (s.grant).siteMode = s.siteMode
      ∧ (s.grant).stationCap = s.stationCap ∧ (s.grant).serviceCap = s.serviceCap ∧ (s.grant).config = s.config
      ∧ (s.grant).choices = s.choices ∧ (s.grant).pending = s.pending := by simp [State.grant]

/-- What `State.disconnect` changes: permit, links; the rest of the state is as it was. -/
@[simp] theorem State.disconnect_frame (s : State) :
    (s.disconnect).phase = s.phase ∧ (s.disconnect).resetLine = s.resetLine ∧ (s.disconnect).resetKind = s.resetKind
      ∧ (s.disconnect).siteResetDue = s.siteResetDue ∧ (s.disconnect).uptime = s.uptime
      ∧ (s.disconnect).clocks = s.clocks ∧ (s.disconnect).chains = s.chains
      ∧ (s.disconnect).supervision = s.supervision ∧ (s.disconnect).strings = s.strings
      ∧ (s.disconnect).envelope = s.envelope ∧ (s.disconnect).plant = s.plant ∧ (s.disconnect).fire = s.fire
      ∧ (s.disconnect).store = s.store ∧ (s.disconnect).agreement = s.agreement
      ∧ (s.disconnect).siteMode = s.siteMode ∧ (s.disconnect).stationCap = s.stationCap
      ∧ (s.disconnect).serviceCap = s.serviceCap ∧ (s.disconnect).config = s.config
      ∧ (s.disconnect).choices = s.choices ∧ (s.disconnect).pending = s.pending := by
  unfold State.disconnect
  repeat' split
  all_goals simp

/-- What `State.judgeBreaker` changes: permit, links; the rest of the state is as it was. -/
@[simp] theorem State.judgeBreaker_frame (s : State) :
    (s.judgeBreaker).phase = s.phase ∧ (s.judgeBreaker).resetLine = s.resetLine
      ∧ (s.judgeBreaker).resetKind = s.resetKind ∧ (s.judgeBreaker).siteResetDue = s.siteResetDue
      ∧ (s.judgeBreaker).uptime = s.uptime ∧ (s.judgeBreaker).clocks = s.clocks ∧ (s.judgeBreaker).chains = s.chains
      ∧ (s.judgeBreaker).supervision = s.supervision ∧ (s.judgeBreaker).strings = s.strings
      ∧ (s.judgeBreaker).envelope = s.envelope ∧ (s.judgeBreaker).plant = s.plant ∧ (s.judgeBreaker).fire = s.fire
      ∧ (s.judgeBreaker).store = s.store ∧ (s.judgeBreaker).agreement = s.agreement
      ∧ (s.judgeBreaker).siteMode = s.siteMode ∧ (s.judgeBreaker).stationCap = s.stationCap
      ∧ (s.judgeBreaker).serviceCap = s.serviceCap ∧ (s.judgeBreaker).config = s.config
      ∧ (s.judgeBreaker).choices = s.choices ∧ (s.judgeBreaker).pending = s.pending := by
  unfold State.judgeBreaker
  repeat' split
  all_goals simp

/-- What `State.closeTimeout` changes: permit, links; the rest of the state is as it was. -/
@[simp] theorem State.closeTimeout_frame (s : State) :
    (s.closeTimeout).phase = s.phase ∧ (s.closeTimeout).resetLine = s.resetLine
      ∧ (s.closeTimeout).resetKind = s.resetKind ∧ (s.closeTimeout).siteResetDue = s.siteResetDue
      ∧ (s.closeTimeout).uptime = s.uptime ∧ (s.closeTimeout).clocks = s.clocks ∧ (s.closeTimeout).chains = s.chains
      ∧ (s.closeTimeout).supervision = s.supervision ∧ (s.closeTimeout).strings = s.strings
      ∧ (s.closeTimeout).envelope = s.envelope ∧ (s.closeTimeout).plant = s.plant ∧ (s.closeTimeout).fire = s.fire
      ∧ (s.closeTimeout).store = s.store ∧ (s.closeTimeout).agreement = s.agreement
      ∧ (s.closeTimeout).siteMode = s.siteMode ∧ (s.closeTimeout).stationCap = s.stationCap
      ∧ (s.closeTimeout).serviceCap = s.serviceCap ∧ (s.closeTimeout).config = s.config
      ∧ (s.closeTimeout).choices = s.choices ∧ (s.closeTimeout).pending = s.pending := by
  unfold State.closeTimeout
  repeat' split
  all_goals simp

/-- What `State.releaseTimeout` changes: permit, links; the rest of the state is as it was. -/
@[simp] theorem State.releaseTimeout_frame (s : State) :
    (s.releaseTimeout).phase = s.phase ∧ (s.releaseTimeout).resetLine = s.resetLine
      ∧ (s.releaseTimeout).resetKind = s.resetKind ∧ (s.releaseTimeout).siteResetDue = s.siteResetDue
      ∧ (s.releaseTimeout).uptime = s.uptime ∧ (s.releaseTimeout).clocks = s.clocks
      ∧ (s.releaseTimeout).chains = s.chains ∧ (s.releaseTimeout).supervision = s.supervision
      ∧ (s.releaseTimeout).strings = s.strings ∧ (s.releaseTimeout).envelope = s.envelope
      ∧ (s.releaseTimeout).plant = s.plant ∧ (s.releaseTimeout).fire = s.fire ∧ (s.releaseTimeout).store = s.store
      ∧ (s.releaseTimeout).agreement = s.agreement ∧ (s.releaseTimeout).siteMode = s.siteMode
      ∧ (s.releaseTimeout).stationCap = s.stationCap ∧ (s.releaseTimeout).serviceCap = s.serviceCap
      ∧ (s.releaseTimeout).config = s.config ∧ (s.releaseTimeout).choices = s.choices
      ∧ (s.releaseTimeout).pending = s.pending := by
  unfold State.releaseTimeout
  repeat' split
  all_goals simp

/-- What `State.recloseExpired` changes: permit, links; the rest of the state is as it was. -/
@[simp] theorem State.recloseExpired_frame (s : State) :
    (s.recloseExpired).phase = s.phase ∧ (s.recloseExpired).resetLine = s.resetLine
      ∧ (s.recloseExpired).resetKind = s.resetKind ∧ (s.recloseExpired).siteResetDue = s.siteResetDue
      ∧ (s.recloseExpired).uptime = s.uptime ∧ (s.recloseExpired).clocks = s.clocks
      ∧ (s.recloseExpired).chains = s.chains ∧ (s.recloseExpired).supervision = s.supervision
      ∧ (s.recloseExpired).strings = s.strings ∧ (s.recloseExpired).envelope = s.envelope
      ∧ (s.recloseExpired).plant = s.plant ∧ (s.recloseExpired).fire = s.fire ∧ (s.recloseExpired).store = s.store
      ∧ (s.recloseExpired).agreement = s.agreement ∧ (s.recloseExpired).siteMode = s.siteMode
      ∧ (s.recloseExpired).stationCap = s.stationCap ∧ (s.recloseExpired).serviceCap = s.serviceCap
      ∧ (s.recloseExpired).config = s.config ∧ (s.recloseExpired).choices = s.choices
      ∧ (s.recloseExpired).pending = s.pending := by
  unfold State.recloseExpired
  repeat' split
  all_goals simp

/-- What `State.cnvPass` changes: permit, links; the rest of the state is as it was. -/
@[simp] theorem State.cnvPass_frame (s : State) (k : Code) :
    (s.cnvPass k).phase = s.phase ∧ (s.cnvPass k).resetLine = s.resetLine ∧ (s.cnvPass k).resetKind = s.resetKind
      ∧ (s.cnvPass k).siteResetDue = s.siteResetDue ∧ (s.cnvPass k).uptime = s.uptime
      ∧ (s.cnvPass k).clocks = s.clocks ∧ (s.cnvPass k).chains = s.chains
      ∧ (s.cnvPass k).supervision = s.supervision ∧ (s.cnvPass k).strings = s.strings
      ∧ (s.cnvPass k).envelope = s.envelope ∧ (s.cnvPass k).plant = s.plant ∧ (s.cnvPass k).fire = s.fire
      ∧ (s.cnvPass k).store = s.store ∧ (s.cnvPass k).agreement = s.agreement ∧ (s.cnvPass k).siteMode = s.siteMode
      ∧ (s.cnvPass k).stationCap = s.stationCap ∧ (s.cnvPass k).serviceCap = s.serviceCap
      ∧ (s.cnvPass k).config = s.config ∧ (s.cnvPass k).choices = s.choices ∧ (s.cnvPass k).pending = s.pending := by
  unfold State.cnvPass
  repeat' split
  all_goals simp

/-- What `State.stnPass` changes: permit, links; the rest of the state is as it was. -/
@[simp] theorem State.stnPass_frame (s : State) (k : Code) :
    (s.stnPass k).phase = s.phase ∧ (s.stnPass k).resetLine = s.resetLine ∧ (s.stnPass k).resetKind = s.resetKind
      ∧ (s.stnPass k).siteResetDue = s.siteResetDue ∧ (s.stnPass k).uptime = s.uptime
      ∧ (s.stnPass k).clocks = s.clocks ∧ (s.stnPass k).chains = s.chains
      ∧ (s.stnPass k).supervision = s.supervision ∧ (s.stnPass k).strings = s.strings
      ∧ (s.stnPass k).envelope = s.envelope ∧ (s.stnPass k).plant = s.plant ∧ (s.stnPass k).fire = s.fire
      ∧ (s.stnPass k).store = s.store ∧ (s.stnPass k).agreement = s.agreement ∧ (s.stnPass k).siteMode = s.siteMode
      ∧ (s.stnPass k).stationCap = s.stationCap ∧ (s.stnPass k).serviceCap = s.serviceCap
      ∧ (s.stnPass k).config = s.config ∧ (s.stnPass k).choices = s.choices ∧ (s.stnPass k).pending = s.pending := by
  unfold State.stnPass
  repeat' split
  all_goals simp

/-- What `State.connectAnswer` changes: permit, links; the rest of the state is as it was. -/
@[simp] theorem State.connectAnswer_frame (s : State) (l : Link) :
    ((s.connectAnswer l).1).phase = s.phase ∧ ((s.connectAnswer l).1).resetLine = s.resetLine
      ∧ ((s.connectAnswer l).1).resetKind = s.resetKind ∧ ((s.connectAnswer l).1).siteResetDue = s.siteResetDue
      ∧ ((s.connectAnswer l).1).uptime = s.uptime ∧ ((s.connectAnswer l).1).clocks = s.clocks
      ∧ ((s.connectAnswer l).1).chains = s.chains ∧ ((s.connectAnswer l).1).supervision = s.supervision
      ∧ ((s.connectAnswer l).1).strings = s.strings ∧ ((s.connectAnswer l).1).envelope = s.envelope
      ∧ ((s.connectAnswer l).1).plant = s.plant ∧ ((s.connectAnswer l).1).fire = s.fire
      ∧ ((s.connectAnswer l).1).store = s.store ∧ ((s.connectAnswer l).1).agreement = s.agreement
      ∧ ((s.connectAnswer l).1).siteMode = s.siteMode ∧ ((s.connectAnswer l).1).stationCap = s.stationCap
      ∧ ((s.connectAnswer l).1).serviceCap = s.serviceCap ∧ ((s.connectAnswer l).1).config = s.config
      ∧ ((s.connectAnswer l).1).choices = s.choices ∧ ((s.connectAnswer l).1).pending = s.pending := by
  unfold State.connectAnswer
  repeat' split
  all_goals simp

/-- What `State.clearBreaker` changes: permit, links; the rest of the state is as it was. -/
@[simp] theorem State.clearBreaker_frame (s : State) :
    (s.clearBreaker.1).phase = s.phase ∧ (s.clearBreaker.1).resetLine = s.resetLine
      ∧ (s.clearBreaker.1).resetKind = s.resetKind ∧ (s.clearBreaker.1).siteResetDue = s.siteResetDue
      ∧ (s.clearBreaker.1).uptime = s.uptime ∧ (s.clearBreaker.1).clocks = s.clocks
      ∧ (s.clearBreaker.1).chains = s.chains ∧ (s.clearBreaker.1).supervision = s.supervision
      ∧ (s.clearBreaker.1).strings = s.strings ∧ (s.clearBreaker.1).envelope = s.envelope
      ∧ (s.clearBreaker.1).plant = s.plant ∧ (s.clearBreaker.1).fire = s.fire ∧ (s.clearBreaker.1).store = s.store
      ∧ (s.clearBreaker.1).agreement = s.agreement ∧ (s.clearBreaker.1).siteMode = s.siteMode
      ∧ (s.clearBreaker.1).stationCap = s.stationCap ∧ (s.clearBreaker.1).serviceCap = s.serviceCap
      ∧ (s.clearBreaker.1).config = s.config ∧ (s.clearBreaker.1).choices = s.choices
      ∧ (s.clearBreaker.1).pending = s.pending := by
  unfold State.clearBreaker
  repeat' split
  all_goals simp

/-! ## The grid agreement unit -/

/-- What `State.modAgreement` changes: agreement; the rest of the state is as it was. -/
@[simp] theorem State.modAgreement_frame (s : State) (f : Agreement → Agreement) :
    (s.modAgreement f).phase = s.phase ∧ (s.modAgreement f).resetLine = s.resetLine
      ∧ (s.modAgreement f).resetKind = s.resetKind ∧ (s.modAgreement f).siteResetDue = s.siteResetDue
      ∧ (s.modAgreement f).uptime = s.uptime ∧ (s.modAgreement f).clocks = s.clocks
      ∧ (s.modAgreement f).chains = s.chains ∧ (s.modAgreement f).supervision = s.supervision
      ∧ (s.modAgreement f).strings = s.strings ∧ (s.modAgreement f).envelope = s.envelope
      ∧ (s.modAgreement f).plant = s.plant ∧ (s.modAgreement f).fire = s.fire ∧ (s.modAgreement f).store = s.store
      ∧ (s.modAgreement f).permit = s.permit ∧ (s.modAgreement f).links = s.links
      ∧ (s.modAgreement f).siteMode = s.siteMode ∧ (s.modAgreement f).stationCap = s.stationCap
      ∧ (s.modAgreement f).serviceCap = s.serviceCap ∧ (s.modAgreement f).config = s.config
      ∧ (s.modAgreement f).choices = s.choices
      ∧ (s.modAgreement f).pending = s.pending := by simp [State.modAgreement]

/-- What `State.computeGa` changes: agreement, envelope, links; the rest of the state is as it was. -/
@[simp] theorem State.computeGa_frame (s : State) :
    (s.computeGa).phase = s.phase ∧ (s.computeGa).resetLine = s.resetLine ∧ (s.computeGa).resetKind = s.resetKind
      ∧ (s.computeGa).siteResetDue = s.siteResetDue ∧ (s.computeGa).uptime = s.uptime
      ∧ (s.computeGa).clocks = s.clocks ∧ (s.computeGa).chains = s.chains
      ∧ (s.computeGa).supervision = s.supervision ∧ (s.computeGa).strings = s.strings
      ∧ (s.computeGa).plant = s.plant ∧ (s.computeGa).fire = s.fire ∧ (s.computeGa).store = s.store
      ∧ (s.computeGa).permit = s.permit ∧ (s.computeGa).siteMode = s.siteMode
      ∧ (s.computeGa).stationCap = s.stationCap ∧ (s.computeGa).serviceCap = s.serviceCap
      ∧ (s.computeGa).config = s.config ∧ (s.computeGa).choices = s.choices
      ∧ (s.computeGa).pending = s.pending := by simp [State.computeGa]

/-- What `State.agreementHeadReply` changes: agreement, envelope, links; the rest of the state is as it was. -/
@[simp] theorem State.agreementHeadReply_frame (s : State) :
    (s.agreementHeadReply).phase = s.phase ∧ (s.agreementHeadReply).resetLine = s.resetLine
      ∧ (s.agreementHeadReply).resetKind = s.resetKind ∧ (s.agreementHeadReply).siteResetDue = s.siteResetDue
      ∧ (s.agreementHeadReply).uptime = s.uptime ∧ (s.agreementHeadReply).clocks = s.clocks
      ∧ (s.agreementHeadReply).chains = s.chains ∧ (s.agreementHeadReply).supervision = s.supervision
      ∧ (s.agreementHeadReply).strings = s.strings ∧ (s.agreementHeadReply).plant = s.plant
      ∧ (s.agreementHeadReply).fire = s.fire ∧ (s.agreementHeadReply).store = s.store
      ∧ (s.agreementHeadReply).permit = s.permit ∧ (s.agreementHeadReply).siteMode = s.siteMode
      ∧ (s.agreementHeadReply).stationCap = s.stationCap ∧ (s.agreementHeadReply).serviceCap = s.serviceCap
      ∧ (s.agreementHeadReply).config = s.config ∧ (s.agreementHeadReply).choices = s.choices
      ∧ (s.agreementHeadReply).pending = s.pending := by
  unfold State.agreementHeadReply
  repeat' split
  all_goals simp

/-- What `State.resolveAgreement` changes: agreement, permit, links; the rest of the state is as it was. -/
@[simp] theorem State.resolveAgreement_frame (s : State) :
    (s.resolveAgreement).phase = s.phase ∧ (s.resolveAgreement).resetLine = s.resetLine
      ∧ (s.resolveAgreement).resetKind = s.resetKind ∧ (s.resolveAgreement).siteResetDue = s.siteResetDue
      ∧ (s.resolveAgreement).uptime = s.uptime ∧ (s.resolveAgreement).clocks = s.clocks
      ∧ (s.resolveAgreement).chains = s.chains ∧ (s.resolveAgreement).supervision = s.supervision
      ∧ (s.resolveAgreement).strings = s.strings ∧ (s.resolveAgreement).envelope = s.envelope
      ∧ (s.resolveAgreement).plant = s.plant ∧ (s.resolveAgreement).fire = s.fire
      ∧ (s.resolveAgreement).store = s.store ∧ (s.resolveAgreement).siteMode = s.siteMode
      ∧ (s.resolveAgreement).stationCap = s.stationCap ∧ (s.resolveAgreement).serviceCap = s.serviceCap
      ∧ (s.resolveAgreement).config = s.config ∧ (s.resolveAgreement).choices = s.choices
      ∧ (s.resolveAgreement).pending = s.pending := by
  unfold State.resolveAgreement
  dsimp only
  repeat' split
  all_goals simp

/-- What `State.postAgreement` changes: links; the rest of the state is as it was. -/
@[simp] theorem State.postAgreement_frame (s : State) :
    (s.postAgreement).phase = s.phase ∧ (s.postAgreement).resetLine = s.resetLine
      ∧ (s.postAgreement).resetKind = s.resetKind ∧ (s.postAgreement).siteResetDue = s.siteResetDue
      ∧ (s.postAgreement).uptime = s.uptime ∧ (s.postAgreement).clocks = s.clocks
      ∧ (s.postAgreement).chains = s.chains ∧ (s.postAgreement).supervision = s.supervision
      ∧ (s.postAgreement).strings = s.strings ∧ (s.postAgreement).envelope = s.envelope
      ∧ (s.postAgreement).plant = s.plant ∧ (s.postAgreement).fire = s.fire ∧ (s.postAgreement).store = s.store
      ∧ (s.postAgreement).agreement = s.agreement ∧ (s.postAgreement).permit = s.permit
      ∧ (s.postAgreement).siteMode = s.siteMode ∧ (s.postAgreement).stationCap = s.stationCap
      ∧ (s.postAgreement).serviceCap = s.serviceCap ∧ (s.postAgreement).config = s.config
      ∧ (s.postAgreement).choices = s.choices ∧ (s.postAgreement).pending = s.pending := by simp [State.postAgreement]

/-- What `State.takeOffer` changes: agreement, envelope, permit, links; the rest of the state is as it was. -/
@[simp] theorem State.takeOffer_frame (s : State) (l : Link) (o : Offer) :
    (s.takeOffer l o).phase = s.phase ∧ (s.takeOffer l o).resetLine = s.resetLine
      ∧ (s.takeOffer l o).resetKind = s.resetKind ∧ (s.takeOffer l o).siteResetDue = s.siteResetDue
      ∧ (s.takeOffer l o).uptime = s.uptime ∧ (s.takeOffer l o).clocks = s.clocks
      ∧ (s.takeOffer l o).chains = s.chains ∧ (s.takeOffer l o).supervision = s.supervision
      ∧ (s.takeOffer l o).strings = s.strings ∧ (s.takeOffer l o).plant = s.plant ∧ (s.takeOffer l o).fire = s.fire
      ∧ (s.takeOffer l o).store = s.store ∧ (s.takeOffer l o).siteMode = s.siteMode
      ∧ (s.takeOffer l o).stationCap = s.stationCap ∧ (s.takeOffer l o).serviceCap = s.serviceCap
      ∧ (s.takeOffer l o).config = s.config ∧ (s.takeOffer l o).choices = s.choices
      ∧ (s.takeOffer l o).pending = s.pending := by simp [State.takeOffer]

/-- What `State.stationLapse` changes: agreement, envelope, links; the rest of the state is as it was. -/
@[simp] theorem State.stationLapse_frame (s : State) :
    (s.stationLapse).phase = s.phase ∧ (s.stationLapse).resetLine = s.resetLine
      ∧ (s.stationLapse).resetKind = s.resetKind ∧ (s.stationLapse).siteResetDue = s.siteResetDue
      ∧ (s.stationLapse).uptime = s.uptime ∧ (s.stationLapse).clocks = s.clocks ∧ (s.stationLapse).chains = s.chains
      ∧ (s.stationLapse).supervision = s.supervision ∧ (s.stationLapse).strings = s.strings
      ∧ (s.stationLapse).plant = s.plant ∧ (s.stationLapse).fire = s.fire ∧ (s.stationLapse).store = s.store
      ∧ (s.stationLapse).permit = s.permit ∧ (s.stationLapse).siteMode = s.siteMode
      ∧ (s.stationLapse).stationCap = s.stationCap ∧ (s.stationLapse).serviceCap = s.serviceCap
      ∧ (s.stationLapse).config = s.config ∧ (s.stationLapse).choices = s.choices
      ∧ (s.stationLapse).pending = s.pending := by
  unfold State.stationLapse
  dsimp only
  repeat' split
  all_goals simp

/-- What `State.discardCnvOffer` changes: agreement, envelope, permit, links; the rest of the state is as it was. -/
@[simp] theorem State.discardCnvOffer_frame (s : State) :
    (s.discardCnvOffer).phase = s.phase ∧ (s.discardCnvOffer).resetLine = s.resetLine
      ∧ (s.discardCnvOffer).resetKind = s.resetKind ∧ (s.discardCnvOffer).siteResetDue = s.siteResetDue
      ∧ (s.discardCnvOffer).uptime = s.uptime ∧ (s.discardCnvOffer).clocks = s.clocks
      ∧ (s.discardCnvOffer).chains = s.chains ∧ (s.discardCnvOffer).supervision = s.supervision
      ∧ (s.discardCnvOffer).strings = s.strings ∧ (s.discardCnvOffer).plant = s.plant
      ∧ (s.discardCnvOffer).fire = s.fire ∧ (s.discardCnvOffer).store = s.store
      ∧ (s.discardCnvOffer).siteMode = s.siteMode ∧ (s.discardCnvOffer).stationCap = s.stationCap
      ∧ (s.discardCnvOffer).serviceCap = s.serviceCap ∧ (s.discardCnvOffer).config = s.config
      ∧ (s.discardCnvOffer).choices = s.choices ∧ (s.discardCnvOffer).pending = s.pending := by
  simp only [State.discardCnvOffer]
  split
  all_goals simp

/-- What `State.restartAgreement` changes: agreement, envelope, permit, links; the rest of the state is as it was. -/
@[simp] theorem State.restartAgreement_frame (s : State) :
    (s.restartAgreement).phase = s.phase ∧ (s.restartAgreement).resetLine = s.resetLine
      ∧ (s.restartAgreement).resetKind = s.resetKind ∧ (s.restartAgreement).siteResetDue = s.siteResetDue
      ∧ (s.restartAgreement).uptime = s.uptime ∧ (s.restartAgreement).clocks = s.clocks
      ∧ (s.restartAgreement).chains = s.chains ∧ (s.restartAgreement).supervision = s.supervision
      ∧ (s.restartAgreement).strings = s.strings ∧ (s.restartAgreement).plant = s.plant
      ∧ (s.restartAgreement).fire = s.fire ∧ (s.restartAgreement).store = s.store
      ∧ (s.restartAgreement).siteMode = s.siteMode ∧ (s.restartAgreement).stationCap = s.stationCap
      ∧ (s.restartAgreement).serviceCap = s.serviceCap ∧ (s.restartAgreement).config = s.config
      ∧ (s.restartAgreement).choices = s.choices ∧ (s.restartAgreement).pending = s.pending := by
  simp only [State.restartAgreement]
  split
  all_goals simp

/-! ## The string controllers -/

/-- What the receivers of a report change: the envelope, the agreement and the permit units, and the links. -/
theorem State.report_any_frame (s : State) (effects : List (State → State))
    (hf : ∀ f ∈ effects, f = State.downward ∨ f = State.computeGa ∨ f = State.noStringTrip) :
    (s.inAnyOrder effects).phase = s.phase ∧ (s.inAnyOrder effects).resetLine = s.resetLine
        ∧ (s.inAnyOrder effects).resetKind = s.resetKind ∧ (s.inAnyOrder effects).siteResetDue = s.siteResetDue
        ∧ (s.inAnyOrder effects).uptime = s.uptime ∧ (s.inAnyOrder effects).clocks = s.clocks
        ∧ (s.inAnyOrder effects).chains = s.chains ∧ (s.inAnyOrder effects).supervision = s.supervision
        ∧ (s.inAnyOrder effects).strings = s.strings ∧ (s.inAnyOrder effects).plant = s.plant
        ∧ (s.inAnyOrder effects).fire = s.fire ∧ (s.inAnyOrder effects).store = s.store
        ∧ (s.inAnyOrder effects).siteMode = s.siteMode ∧ (s.inAnyOrder effects).stationCap = s.stationCap
        ∧ (s.inAnyOrder effects).serviceCap = s.serviceCap ∧ (s.inAnyOrder effects).config = s.config
        ∧ (s.inAnyOrder effects).pending = s.pending := by
  refine State.inAnyOrder_keeps
    (P := fun t => t.phase = s.phase ∧ t.resetLine = s.resetLine ∧ t.resetKind = s.resetKind
        ∧ t.siteResetDue = s.siteResetDue ∧ t.uptime = s.uptime ∧ t.clocks = s.clocks ∧ t.chains = s.chains
        ∧ t.supervision = s.supervision ∧ t.strings = s.strings ∧ t.plant = s.plant ∧ t.fire = s.fire
        ∧ t.store = s.store ∧ t.siteMode = s.siteMode ∧ t.stationCap = s.stationCap ∧ t.serviceCap = s.serviceCap
        ∧ t.config = s.config ∧ t.pending = s.pending) ?_ ?_ ?_
  · intro t n h
    exact h
  · intro f h t ht
    rcases hf f h with rfl | rfl | rfl <;> simpa using ht
  · simp

/-- What `State.reportString` changes: envelope, agreement, permit, links, choices; the rest of the state is as it was. -/
@[simp] theorem State.reportString_frame (s : State) (before : Nat) :
    (s.reportString before).phase = s.phase ∧ (s.reportString before).resetLine = s.resetLine
      ∧ (s.reportString before).resetKind = s.resetKind ∧ (s.reportString before).siteResetDue = s.siteResetDue
      ∧ (s.reportString before).uptime = s.uptime ∧ (s.reportString before).clocks = s.clocks
      ∧ (s.reportString before).chains = s.chains ∧ (s.reportString before).supervision = s.supervision
      ∧ (s.reportString before).strings = s.strings ∧ (s.reportString before).plant = s.plant
      ∧ (s.reportString before).fire = s.fire ∧ (s.reportString before).store = s.store
      ∧ (s.reportString before).siteMode = s.siteMode ∧ (s.reportString before).stationCap = s.stationCap
      ∧ (s.reportString before).serviceCap = s.serviceCap ∧ (s.reportString before).config = s.config
      ∧ (s.reportString before).pending = s.pending := by
  unfold State.reportString
  split
  · simp
  · split <;> exact State.report_any_frame s _ (by simp)

/-- What `State.setString` changes: strings, envelope, agreement, permit, links, choices; the rest of the state is as it was. -/
@[simp] theorem State.setString_frame (s : State) (c : Str) (new : StringState) :
    (s.setString c new).phase = s.phase ∧ (s.setString c new).resetLine = s.resetLine
      ∧ (s.setString c new).resetKind = s.resetKind ∧ (s.setString c new).siteResetDue = s.siteResetDue
      ∧ (s.setString c new).uptime = s.uptime ∧ (s.setString c new).clocks = s.clocks
      ∧ (s.setString c new).chains = s.chains ∧ (s.setString c new).supervision = s.supervision
      ∧ (s.setString c new).plant = s.plant ∧ (s.setString c new).fire = s.fire
      ∧ (s.setString c new).store = s.store ∧ (s.setString c new).siteMode = s.siteMode
      ∧ (s.setString c new).stationCap = s.stationCap ∧ (s.setString c new).serviceCap = s.serviceCap
      ∧ (s.setString c new).config = s.config ∧ (s.setString c new).pending = s.pending := by
  simp only [State.setString]
  split <;> simp

/-- What `State.protect` changes: store, strings, envelope, agreement, permit, links, choices; the rest of the state is as it was. -/
@[simp] theorem State.protect_frame (s : State) (c : Str) (k : LockCause) :
    (s.protect c k).phase = s.phase ∧ (s.protect c k).resetLine = s.resetLine
      ∧ (s.protect c k).resetKind = s.resetKind ∧ (s.protect c k).siteResetDue = s.siteResetDue
      ∧ (s.protect c k).uptime = s.uptime ∧ (s.protect c k).clocks = s.clocks ∧ (s.protect c k).chains = s.chains
      ∧ (s.protect c k).supervision = s.supervision ∧ (s.protect c k).plant = s.plant
      ∧ (s.protect c k).fire = s.fire ∧ (s.protect c k).siteMode = s.siteMode
      ∧ (s.protect c k).stationCap = s.stationCap ∧ (s.protect c k).serviceCap = s.serviceCap
      ∧ (s.protect c k).config = s.config ∧ (s.protect c k).pending = s.pending := by
  unfold State.protect
  split
  · split <;> simp
  all_goals simp

/-- What `State.unitLost` changes: strings, envelope, agreement, permit, links, choices; the rest of the state is as it was. -/
@[simp] theorem State.unitLost_frame (s : State) (c : Str) :
    (s.unitLost c).phase = s.phase ∧ (s.unitLost c).resetLine = s.resetLine ∧ (s.unitLost c).resetKind = s.resetKind
      ∧ (s.unitLost c).siteResetDue = s.siteResetDue ∧ (s.unitLost c).uptime = s.uptime
      ∧ (s.unitLost c).clocks = s.clocks ∧ (s.unitLost c).chains = s.chains
      ∧ (s.unitLost c).supervision = s.supervision ∧ (s.unitLost c).plant = s.plant ∧ (s.unitLost c).fire = s.fire
      ∧ (s.unitLost c).store = s.store ∧ (s.unitLost c).siteMode = s.siteMode
      ∧ (s.unitLost c).stationCap = s.stationCap ∧ (s.unitLost c).serviceCap = s.serviceCap
      ∧ (s.unitLost c).config = s.config ∧ (s.unitLost c).pending = s.pending := by
  unfold State.unitLost
  repeat' split
  all_goals simp

/-- What `State.forceOpen` changes: strings, envelope, agreement, permit, links, choices; the rest of the state is as it was. -/
@[simp] theorem State.forceOpen_frame (s : State) (c : Str) :
    (s.forceOpen c).phase = s.phase ∧ (s.forceOpen c).resetLine = s.resetLine
      ∧ (s.forceOpen c).resetKind = s.resetKind ∧ (s.forceOpen c).siteResetDue = s.siteResetDue
      ∧ (s.forceOpen c).uptime = s.uptime ∧ (s.forceOpen c).clocks = s.clocks ∧ (s.forceOpen c).chains = s.chains
      ∧ (s.forceOpen c).supervision = s.supervision ∧ (s.forceOpen c).plant = s.plant
      ∧ (s.forceOpen c).fire = s.fire ∧ (s.forceOpen c).store = s.store ∧ (s.forceOpen c).siteMode = s.siteMode
      ∧ (s.forceOpen c).stationCap = s.stationCap ∧ (s.forceOpen c).serviceCap = s.serviceCap
      ∧ (s.forceOpen c).config = s.config ∧ (s.forceOpen c).pending = s.pending := by
  unfold State.forceOpen
  repeat' split
  all_goals simp

/-- What `State.finishOpening` changes: strings, envelope, agreement, permit, links, choices; the rest of the state is as it was. -/
@[simp] theorem State.finishOpening_frame (s : State) (c : Str) :
    (s.finishOpening c).phase = s.phase ∧ (s.finishOpening c).resetLine = s.resetLine
      ∧ (s.finishOpening c).resetKind = s.resetKind ∧ (s.finishOpening c).siteResetDue = s.siteResetDue
      ∧ (s.finishOpening c).uptime = s.uptime ∧ (s.finishOpening c).clocks = s.clocks
      ∧ (s.finishOpening c).chains = s.chains ∧ (s.finishOpening c).supervision = s.supervision
      ∧ (s.finishOpening c).plant = s.plant ∧ (s.finishOpening c).fire = s.fire
      ∧ (s.finishOpening c).store = s.store ∧ (s.finishOpening c).siteMode = s.siteMode
      ∧ (s.finishOpening c).stationCap = s.stationCap ∧ (s.finishOpening c).serviceCap = s.serviceCap
      ∧ (s.finishOpening c).config = s.config ∧ (s.finishOpening c).pending = s.pending := by
  unfold State.finishOpening
  repeat' split
  all_goals simp

/-- What `State.compareFeedback` changes: strings, links; the rest of the state is as it was. -/
@[simp] theorem State.compareFeedback_frame (s : State) (c : Str) :
    (s.compareFeedback c).phase = s.phase ∧ (s.compareFeedback c).resetLine = s.resetLine
      ∧ (s.compareFeedback c).resetKind = s.resetKind ∧ (s.compareFeedback c).siteResetDue = s.siteResetDue
      ∧ (s.compareFeedback c).uptime = s.uptime ∧ (s.compareFeedback c).clocks = s.clocks
      ∧ (s.compareFeedback c).chains = s.chains ∧ (s.compareFeedback c).supervision = s.supervision
      ∧ (s.compareFeedback c).envelope = s.envelope ∧ (s.compareFeedback c).plant = s.plant
      ∧ (s.compareFeedback c).fire = s.fire ∧ (s.compareFeedback c).store = s.store
      ∧ (s.compareFeedback c).agreement = s.agreement ∧ (s.compareFeedback c).permit = s.permit
      ∧ (s.compareFeedback c).siteMode = s.siteMode ∧ (s.compareFeedback c).stationCap = s.stationCap
      ∧ (s.compareFeedback c).serviceCap = s.serviceCap ∧ (s.compareFeedback c).config = s.config
      ∧ (s.compareFeedback c).choices = s.choices ∧ (s.compareFeedback c).pending = s.pending := by
  simp only [State.compareFeedback]
  repeat' split
  all_goals simp

/-- What `State.checkExcursion` changes: store, strings, envelope, agreement, permit, links, choices; the rest of the state is as it was. -/
@[simp] theorem State.checkExcursion_frame (s : State) (c : Str) :
    (s.checkExcursion c).phase = s.phase ∧ (s.checkExcursion c).resetLine = s.resetLine
      ∧ (s.checkExcursion c).resetKind = s.resetKind ∧ (s.checkExcursion c).siteResetDue = s.siteResetDue
      ∧ (s.checkExcursion c).uptime = s.uptime ∧ (s.checkExcursion c).clocks = s.clocks
      ∧ (s.checkExcursion c).chains = s.chains ∧ (s.checkExcursion c).supervision = s.supervision
      ∧ (s.checkExcursion c).plant = s.plant ∧ (s.checkExcursion c).fire = s.fire
      ∧ (s.checkExcursion c).siteMode = s.siteMode ∧ (s.checkExcursion c).stationCap = s.stationCap
      ∧ (s.checkExcursion c).serviceCap = s.serviceCap ∧ (s.checkExcursion c).config = s.config
      ∧ (s.checkExcursion c).pending = s.pending := by
  simp only [State.checkExcursion]
  repeat' split
  all_goals simp

/-- What `State.stateHeadReply` changes: store, strings, envelope, agreement, permit, links, choices; the rest of the state is as it was. -/
@[simp] theorem State.stateHeadReply_frame (s : State) (c : Str) :
    (s.stateHeadReply c).phase = s.phase ∧ (s.stateHeadReply c).resetLine = s.resetLine
      ∧ (s.stateHeadReply c).resetKind = s.resetKind ∧ (s.stateHeadReply c).siteResetDue = s.siteResetDue
      ∧ (s.stateHeadReply c).uptime = s.uptime ∧ (s.stateHeadReply c).clocks = s.clocks
      ∧ (s.stateHeadReply c).chains = s.chains ∧ (s.stateHeadReply c).supervision = s.supervision
      ∧ (s.stateHeadReply c).plant = s.plant ∧ (s.stateHeadReply c).fire = s.fire
      ∧ (s.stateHeadReply c).siteMode = s.siteMode ∧ (s.stateHeadReply c).stationCap = s.stationCap
      ∧ (s.stateHeadReply c).serviceCap = s.serviceCap ∧ (s.stateHeadReply c).config = s.config
      ∧ (s.stateHeadReply c).pending = s.pending := by
  unfold State.stateHeadReply
  repeat' split
  all_goals simp

/-- What `State.stringHeadReply` changes: store, strings, envelope, agreement, permit, links, choices; the rest of the state is as it was. -/
@[simp] theorem State.stringHeadReply_frame (s : State) (c : Str) :
    (s.stringHeadReply c).phase = s.phase ∧ (s.stringHeadReply c).resetLine = s.resetLine
      ∧ (s.stringHeadReply c).resetKind = s.resetKind ∧ (s.stringHeadReply c).siteResetDue = s.siteResetDue
      ∧ (s.stringHeadReply c).uptime = s.uptime ∧ (s.stringHeadReply c).clocks = s.clocks
      ∧ (s.stringHeadReply c).chains = s.chains ∧ (s.stringHeadReply c).supervision = s.supervision
      ∧ (s.stringHeadReply c).plant = s.plant ∧ (s.stringHeadReply c).fire = s.fire
      ∧ (s.stringHeadReply c).siteMode = s.siteMode ∧ (s.stringHeadReply c).stationCap = s.stationCap
      ∧ (s.stringHeadReply c).serviceCap = s.serviceCap ∧ (s.stringHeadReply c).config = s.config
      ∧ (s.stringHeadReply c).pending = s.pending := by simp [State.stringHeadReply]

/-- What `State.join` changes: strings, envelope, agreement, permit, links, choices; the rest of the state is as it was. -/
@[simp] theorem State.join_frame (s : State) (c : Str) :
    ((s.join c).1).phase = s.phase ∧ ((s.join c).1).resetLine = s.resetLine ∧ ((s.join c).1).resetKind = s.resetKind
      ∧ ((s.join c).1).siteResetDue = s.siteResetDue ∧ ((s.join c).1).uptime = s.uptime
      ∧ ((s.join c).1).clocks = s.clocks ∧ ((s.join c).1).chains = s.chains
      ∧ ((s.join c).1).supervision = s.supervision ∧ ((s.join c).1).plant = s.plant ∧ ((s.join c).1).fire = s.fire
      ∧ ((s.join c).1).store = s.store ∧ ((s.join c).1).siteMode = s.siteMode
      ∧ ((s.join c).1).stationCap = s.stationCap ∧ ((s.join c).1).serviceCap = s.serviceCap
      ∧ ((s.join c).1).config = s.config ∧ ((s.join c).1).pending = s.pending := by
  unfold State.join
  repeat' split
  all_goals simp

/-- What `State.clearLock` changes: strings, envelope, agreement, permit, links, choices; the rest of the state is as it was. -/
@[simp] theorem State.clearLock_frame (s : State) (c : Str) :
    ((s.clearLock c).1).phase = s.phase ∧ ((s.clearLock c).1).resetLine = s.resetLine
      ∧ ((s.clearLock c).1).resetKind = s.resetKind ∧ ((s.clearLock c).1).siteResetDue = s.siteResetDue
      ∧ ((s.clearLock c).1).uptime = s.uptime ∧ ((s.clearLock c).1).clocks = s.clocks
      ∧ ((s.clearLock c).1).chains = s.chains ∧ ((s.clearLock c).1).supervision = s.supervision
      ∧ ((s.clearLock c).1).plant = s.plant ∧ ((s.clearLock c).1).fire = s.fire
      ∧ ((s.clearLock c).1).store = s.store ∧ ((s.clearLock c).1).siteMode = s.siteMode
      ∧ ((s.clearLock c).1).stationCap = s.stationCap ∧ ((s.clearLock c).1).serviceCap = s.serviceCap
      ∧ ((s.clearLock c).1).config = s.config ∧ ((s.clearLock c).1).pending = s.pending := by
  unfold State.clearLock
  repeat' split
  all_goals simp

/-- What `State.release` changes: strings, envelope, agreement, permit, links, choices; the rest of the state is as it was. -/
@[simp] theorem State.release_frame (s : State) (c : Str) :
    (s.release c).phase = s.phase ∧ (s.release c).resetLine = s.resetLine ∧ (s.release c).resetKind = s.resetKind
      ∧ (s.release c).siteResetDue = s.siteResetDue ∧ (s.release c).uptime = s.uptime
      ∧ (s.release c).clocks = s.clocks ∧ (s.release c).chains = s.chains
      ∧ (s.release c).supervision = s.supervision ∧ (s.release c).plant = s.plant ∧ (s.release c).fire = s.fire
      ∧ (s.release c).store = s.store ∧ (s.release c).siteMode = s.siteMode
      ∧ (s.release c).stationCap = s.stationCap ∧ (s.release c).serviceCap = s.serviceCap
      ∧ (s.release c).config = s.config ∧ (s.release c).pending = s.pending := by
  unfold State.release
  repeat' split
  all_goals simp

/-- What `State.prechargeFailed` changes: store, strings, envelope, agreement, permit, links, choices; the rest of the state is as it was. -/
@[simp] theorem State.prechargeFailed_frame (s : State) (c : Str) :
    (s.prechargeFailed c).phase = s.phase ∧ (s.prechargeFailed c).resetLine = s.resetLine
      ∧ (s.prechargeFailed c).resetKind = s.resetKind ∧ (s.prechargeFailed c).siteResetDue = s.siteResetDue
      ∧ (s.prechargeFailed c).uptime = s.uptime ∧ (s.prechargeFailed c).clocks = s.clocks
      ∧ (s.prechargeFailed c).chains = s.chains ∧ (s.prechargeFailed c).supervision = s.supervision
      ∧ (s.prechargeFailed c).plant = s.plant ∧ (s.prechargeFailed c).fire = s.fire
      ∧ (s.prechargeFailed c).siteMode = s.siteMode ∧ (s.prechargeFailed c).stationCap = s.stationCap
      ∧ (s.prechargeFailed c).serviceCap = s.serviceCap ∧ (s.prechargeFailed c).config = s.config
      ∧ (s.prechargeFailed c).pending = s.pending := by simp [State.prechargeFailed]

/-- What `State.checkLocks` changes: store, strings, envelope, agreement, permit, links, choices; the rest of the state is as it was. -/
@[simp] theorem State.checkLocks_frame (s : State) (c : Str) (k : LockCause) :
    (s.checkLocks c k).phase = s.phase ∧ (s.checkLocks c k).resetLine = s.resetLine
      ∧ (s.checkLocks c k).resetKind = s.resetKind ∧ (s.checkLocks c k).siteResetDue = s.siteResetDue
      ∧ (s.checkLocks c k).uptime = s.uptime ∧ (s.checkLocks c k).clocks = s.clocks
      ∧ (s.checkLocks c k).chains = s.chains ∧ (s.checkLocks c k).supervision = s.supervision
      ∧ (s.checkLocks c k).plant = s.plant ∧ (s.checkLocks c k).fire = s.fire
      ∧ (s.checkLocks c k).siteMode = s.siteMode ∧ (s.checkLocks c k).stationCap = s.stationCap
      ∧ (s.checkLocks c k).serviceCap = s.serviceCap ∧ (s.checkLocks c k).config = s.config
      ∧ (s.checkLocks c k).pending = s.pending := by
  unfold State.checkLocks
  repeat' split
  all_goals simp

/-- What `State.judgeCheck` changes: store, strings, envelope, agreement, permit, links, choices; the rest of the state is as it was. -/
@[simp] theorem State.judgeCheck_frame (s : State) (c : Str) :
    (s.judgeCheck c).phase = s.phase ∧ (s.judgeCheck c).resetLine = s.resetLine
      ∧ (s.judgeCheck c).resetKind = s.resetKind ∧ (s.judgeCheck c).siteResetDue = s.siteResetDue
      ∧ (s.judgeCheck c).uptime = s.uptime ∧ (s.judgeCheck c).clocks = s.clocks ∧ (s.judgeCheck c).chains = s.chains
      ∧ (s.judgeCheck c).supervision = s.supervision ∧ (s.judgeCheck c).plant = s.plant
      ∧ (s.judgeCheck c).fire = s.fire ∧ (s.judgeCheck c).siteMode = s.siteMode
      ∧ (s.judgeCheck c).stationCap = s.stationCap ∧ (s.judgeCheck c).serviceCap = s.serviceCap
      ∧ (s.judgeCheck c).config = s.config ∧ (s.judgeCheck c).pending = s.pending := by
  unfold State.judgeCheck
  repeat' split
  all_goals simp

/-! ## The cell supervision unit -/

/-- What `State.emptyAllSets` changes: chains; the rest of the state is as it was. -/
@[simp] theorem State.emptyAllSets_frame (s : State) :
    (s.emptyAllSets).phase = s.phase ∧ (s.emptyAllSets).resetLine = s.resetLine
      ∧ (s.emptyAllSets).resetKind = s.resetKind ∧ (s.emptyAllSets).siteResetDue = s.siteResetDue
      ∧ (s.emptyAllSets).uptime = s.uptime ∧ (s.emptyAllSets).clocks = s.clocks
      ∧ (s.emptyAllSets).supervision = s.supervision ∧ (s.emptyAllSets).strings = s.strings
      ∧ (s.emptyAllSets).envelope = s.envelope ∧ (s.emptyAllSets).plant = s.plant ∧ (s.emptyAllSets).fire = s.fire
      ∧ (s.emptyAllSets).store = s.store ∧ (s.emptyAllSets).agreement = s.agreement
      ∧ (s.emptyAllSets).permit = s.permit ∧ (s.emptyAllSets).links = s.links
      ∧ (s.emptyAllSets).siteMode = s.siteMode ∧ (s.emptyAllSets).stationCap = s.stationCap
      ∧ (s.emptyAllSets).serviceCap = s.serviceCap ∧ (s.emptyAllSets).config = s.config
      ∧ (s.emptyAllSets).choices = s.choices ∧ (s.emptyAllSets).pending = s.pending := by simp [State.emptyAllSets]

/-- What `State.ceilingWritten` changes: chains; the rest of the state is as it was. -/
@[simp] theorem State.ceilingWritten_frame (s : State) :
    (s.ceilingWritten).phase = s.phase ∧ (s.ceilingWritten).resetLine = s.resetLine
      ∧ (s.ceilingWritten).resetKind = s.resetKind ∧ (s.ceilingWritten).siteResetDue = s.siteResetDue
      ∧ (s.ceilingWritten).uptime = s.uptime ∧ (s.ceilingWritten).clocks = s.clocks
      ∧ (s.ceilingWritten).supervision = s.supervision ∧ (s.ceilingWritten).strings = s.strings
      ∧ (s.ceilingWritten).envelope = s.envelope ∧ (s.ceilingWritten).plant = s.plant
      ∧ (s.ceilingWritten).fire = s.fire ∧ (s.ceilingWritten).store = s.store
      ∧ (s.ceilingWritten).agreement = s.agreement ∧ (s.ceilingWritten).permit = s.permit
      ∧ (s.ceilingWritten).links = s.links ∧ (s.ceilingWritten).siteMode = s.siteMode
      ∧ (s.ceilingWritten).stationCap = s.stationCap ∧ (s.ceilingWritten).serviceCap = s.serviceCap
      ∧ (s.ceilingWritten).config = s.config ∧ (s.ceilingWritten).choices = s.choices
      ∧ (s.ceilingWritten).pending = s.pending := by simp [State.ceilingWritten]

/-- What `State.evaluateSensors` changes: supervision; the rest of the state is as it was. -/
@[simp] theorem State.evaluateSensors_frame (s : State) (c : Str) (a : Addr) :
    (s.evaluateSensors c a).phase = s.phase ∧ (s.evaluateSensors c a).resetLine = s.resetLine
      ∧ (s.evaluateSensors c a).resetKind = s.resetKind ∧ (s.evaluateSensors c a).siteResetDue = s.siteResetDue
      ∧ (s.evaluateSensors c a).uptime = s.uptime ∧ (s.evaluateSensors c a).clocks = s.clocks
      ∧ (s.evaluateSensors c a).chains = s.chains ∧ (s.evaluateSensors c a).strings = s.strings
      ∧ (s.evaluateSensors c a).envelope = s.envelope ∧ (s.evaluateSensors c a).plant = s.plant
      ∧ (s.evaluateSensors c a).fire = s.fire ∧ (s.evaluateSensors c a).store = s.store
      ∧ (s.evaluateSensors c a).agreement = s.agreement ∧ (s.evaluateSensors c a).permit = s.permit
      ∧ (s.evaluateSensors c a).links = s.links ∧ (s.evaluateSensors c a).siteMode = s.siteMode
      ∧ (s.evaluateSensors c a).stationCap = s.stationCap ∧ (s.evaluateSensors c a).serviceCap = s.serviceCap
      ∧ (s.evaluateSensors c a).config = s.config ∧ (s.evaluateSensors c a).choices = s.choices
      ∧ (s.evaluateSensors c a).pending = s.pending := by simp [State.evaluateSensors]

/-- What `State.judgeInvalid` changes: chains; the rest of the state is as it was. -/
@[simp] theorem State.judgeInvalid_frame (s : State) (c : Str) (a : Addr) :
    (s.judgeInvalid c a).phase = s.phase ∧ (s.judgeInvalid c a).resetLine = s.resetLine
      ∧ (s.judgeInvalid c a).resetKind = s.resetKind ∧ (s.judgeInvalid c a).siteResetDue = s.siteResetDue
      ∧ (s.judgeInvalid c a).uptime = s.uptime ∧ (s.judgeInvalid c a).clocks = s.clocks
      ∧ (s.judgeInvalid c a).supervision = s.supervision ∧ (s.judgeInvalid c a).strings = s.strings
      ∧ (s.judgeInvalid c a).envelope = s.envelope ∧ (s.judgeInvalid c a).plant = s.plant
      ∧ (s.judgeInvalid c a).fire = s.fire ∧ (s.judgeInvalid c a).store = s.store
      ∧ (s.judgeInvalid c a).agreement = s.agreement ∧ (s.judgeInvalid c a).permit = s.permit
      ∧ (s.judgeInvalid c a).links = s.links ∧ (s.judgeInvalid c a).siteMode = s.siteMode
      ∧ (s.judgeInvalid c a).stationCap = s.stationCap ∧ (s.judgeInvalid c a).serviceCap = s.serviceCap
      ∧ (s.judgeInvalid c a).config = s.config ∧ (s.judgeInvalid c a).choices = s.choices
      ∧ (s.judgeInvalid c a).pending = s.pending := by
  unfold State.judgeInvalid
  repeat' split
  all_goals simp

/-- What `State.balance` changes: chains; the rest of the state is as it was. -/
@[simp] theorem State.balance_frame (s : State) (c : Str) (a : Addr) :
    (s.balance c a).phase = s.phase ∧ (s.balance c a).resetLine = s.resetLine
      ∧ (s.balance c a).resetKind = s.resetKind ∧ (s.balance c a).siteResetDue = s.siteResetDue
      ∧ (s.balance c a).uptime = s.uptime ∧ (s.balance c a).clocks = s.clocks
      ∧ (s.balance c a).supervision = s.supervision ∧ (s.balance c a).strings = s.strings
      ∧ (s.balance c a).envelope = s.envelope ∧ (s.balance c a).plant = s.plant ∧ (s.balance c a).fire = s.fire
      ∧ (s.balance c a).store = s.store ∧ (s.balance c a).agreement = s.agreement
      ∧ (s.balance c a).permit = s.permit ∧ (s.balance c a).links = s.links ∧ (s.balance c a).siteMode = s.siteMode
      ∧ (s.balance c a).stationCap = s.stationCap ∧ (s.balance c a).serviceCap = s.serviceCap
      ∧ (s.balance c a).config = s.config ∧ (s.balance c a).choices = s.choices
      ∧ (s.balance c a).pending = s.pending := by simp [State.balance]

/-- What `State.moduleReply` changes: chains, supervision; the rest of the state is as it was. -/
@[simp] theorem State.moduleReply_frame (s : State) (c : Str) (a : Addr) :
    (s.moduleReply c a).phase = s.phase ∧ (s.moduleReply c a).resetLine = s.resetLine
      ∧ (s.moduleReply c a).resetKind = s.resetKind ∧ (s.moduleReply c a).siteResetDue = s.siteResetDue
      ∧ (s.moduleReply c a).uptime = s.uptime ∧ (s.moduleReply c a).clocks = s.clocks
      ∧ (s.moduleReply c a).strings = s.strings ∧ (s.moduleReply c a).envelope = s.envelope
      ∧ (s.moduleReply c a).plant = s.plant ∧ (s.moduleReply c a).fire = s.fire
      ∧ (s.moduleReply c a).store = s.store ∧ (s.moduleReply c a).agreement = s.agreement
      ∧ (s.moduleReply c a).permit = s.permit ∧ (s.moduleReply c a).links = s.links
      ∧ (s.moduleReply c a).siteMode = s.siteMode ∧ (s.moduleReply c a).stationCap = s.stationCap
      ∧ (s.moduleReply c a).serviceCap = s.serviceCap ∧ (s.moduleReply c a).config = s.config
      ∧ (s.moduleReply c a).choices = s.choices
      ∧ (s.moduleReply c a).pending = s.pending := by simp [State.moduleReply]

/-- What `State.cycleComplete` changes: supervision, store, strings, envelope, agreement, permit, links, choices; the rest of the state is as it was. -/
@[simp] theorem State.cycleComplete_frame (s : State) (c : Str) :
    (s.cycleComplete c).phase = s.phase ∧ (s.cycleComplete c).resetLine = s.resetLine
      ∧ (s.cycleComplete c).resetKind = s.resetKind ∧ (s.cycleComplete c).siteResetDue = s.siteResetDue
      ∧ (s.cycleComplete c).uptime = s.uptime ∧ (s.cycleComplete c).clocks = s.clocks
      ∧ (s.cycleComplete c).chains = s.chains ∧ (s.cycleComplete c).plant = s.plant
      ∧ (s.cycleComplete c).fire = s.fire ∧ (s.cycleComplete c).siteMode = s.siteMode
      ∧ (s.cycleComplete c).stationCap = s.stationCap ∧ (s.cycleComplete c).serviceCap = s.serviceCap
      ∧ (s.cycleComplete c).config = s.config ∧ (s.cycleComplete c).pending = s.pending := by
  simp only [State.cycleComplete]
  split
  · simp
  · refine State.inAnyOrder_keeps
      (P := fun t => t.phase = s.phase ∧ t.resetLine = s.resetLine ∧ t.resetKind = s.resetKind
          ∧ t.siteResetDue = s.siteResetDue ∧ t.uptime = s.uptime ∧ t.clocks = s.clocks ∧ t.chains = s.chains
          ∧ t.plant = s.plant ∧ t.fire = s.fire ∧ t.siteMode = s.siteMode ∧ t.stationCap = s.stationCap
          ∧ t.serviceCap = s.serviceCap ∧ t.config = s.config ∧ t.pending = s.pending) ?_ ?_ ?_
    · intro t n h
      exact h
    · intro f h t ht
      simp only [List.mem_cons, List.not_mem_nil, or_false] at h
      rcases h with rfl | rfl <;> simpa using ht
    · simp

/-! ## The record store -/

/-- What `State.freeze` changes: store, links; the rest of the state is as it was. -/
@[simp] theorem State.freeze_frame (s : State) (order : Nat → Snapshot) :
    (s.freeze order).phase = s.phase ∧ (s.freeze order).resetLine = s.resetLine
      ∧ (s.freeze order).resetKind = s.resetKind ∧ (s.freeze order).siteResetDue = s.siteResetDue
      ∧ (s.freeze order).uptime = s.uptime ∧ (s.freeze order).clocks = s.clocks ∧ (s.freeze order).chains = s.chains
      ∧ (s.freeze order).supervision = s.supervision ∧ (s.freeze order).strings = s.strings
      ∧ (s.freeze order).envelope = s.envelope ∧ (s.freeze order).plant = s.plant ∧ (s.freeze order).fire = s.fire
      ∧ (s.freeze order).agreement = s.agreement ∧ (s.freeze order).permit = s.permit
      ∧ (s.freeze order).siteMode = s.siteMode ∧ (s.freeze order).stationCap = s.stationCap
      ∧ (s.freeze order).serviceCap = s.serviceCap ∧ (s.freeze order).config = s.config
      ∧ (s.freeze order).choices = s.choices ∧ (s.freeze order).pending = s.pending := by simp [State.freeze]

/-- What `State.sampleString` changes: store; the rest of the state is as it was. -/
@[simp] theorem State.sampleString_frame (s : State) (c : Str) :
    (s.sampleString c).phase = s.phase ∧ (s.sampleString c).resetLine = s.resetLine
      ∧ (s.sampleString c).resetKind = s.resetKind ∧ (s.sampleString c).siteResetDue = s.siteResetDue
      ∧ (s.sampleString c).uptime = s.uptime ∧ (s.sampleString c).clocks = s.clocks
      ∧ (s.sampleString c).chains = s.chains ∧ (s.sampleString c).supervision = s.supervision
      ∧ (s.sampleString c).strings = s.strings ∧ (s.sampleString c).envelope = s.envelope
      ∧ (s.sampleString c).plant = s.plant ∧ (s.sampleString c).fire = s.fire
      ∧ (s.sampleString c).agreement = s.agreement ∧ (s.sampleString c).permit = s.permit
      ∧ (s.sampleString c).links = s.links ∧ (s.sampleString c).siteMode = s.siteMode
      ∧ (s.sampleString c).stationCap = s.stationCap ∧ (s.sampleString c).serviceCap = s.serviceCap
      ∧ (s.sampleString c).config = s.config ∧ (s.sampleString c).choices = s.choices
      ∧ (s.sampleString c).pending = s.pending := by
  unfold State.sampleString
  repeat' split
  all_goals simp

/-! ## The chain controllers -/

/-- What `State.judgeLoss` changes: strings, envelope, agreement, permit, links, choices; the rest of the state is as it was. -/
@[simp] theorem State.judgeLoss_frame (s : State) (c : Str) (u : ChainUnit) (before : UnitStatus) :
    (s.judgeLoss c u before).phase = s.phase ∧ (s.judgeLoss c u before).resetLine = s.resetLine
      ∧ (s.judgeLoss c u before).resetKind = s.resetKind ∧ (s.judgeLoss c u before).siteResetDue = s.siteResetDue
      ∧ (s.judgeLoss c u before).uptime = s.uptime ∧ (s.judgeLoss c u before).clocks = s.clocks
      ∧ (s.judgeLoss c u before).chains = s.chains ∧ (s.judgeLoss c u before).supervision = s.supervision
      ∧ (s.judgeLoss c u before).plant = s.plant ∧ (s.judgeLoss c u before).fire = s.fire
      ∧ (s.judgeLoss c u before).store = s.store ∧ (s.judgeLoss c u before).siteMode = s.siteMode
      ∧ (s.judgeLoss c u before).stationCap = s.stationCap ∧ (s.judgeLoss c u before).serviceCap = s.serviceCap
      ∧ (s.judgeLoss c u before).config = s.config ∧ (s.judgeLoss c u before).pending = s.pending := by
  simp only [State.judgeLoss]
  split <;> simp

/-- What `State.headGood` changes: chains, store, strings, envelope, agreement, permit, links, choices; the rest of the state is as it was. -/
@[simp] theorem State.headGood_frame (s : State) (c : Str) (current : Int) (stringVoltage : Int)
    (busVoltage : Int) (main : Contact) (precharge : Contact) :
    (s.headGood c current stringVoltage busVoltage main precharge).phase = s.phase
      ∧ (s.headGood c current stringVoltage busVoltage main precharge).resetLine = s.resetLine
      ∧ (s.headGood c current stringVoltage busVoltage main precharge).resetKind = s.resetKind
      ∧ (s.headGood c current stringVoltage busVoltage main precharge).siteResetDue = s.siteResetDue
      ∧ (s.headGood c current stringVoltage busVoltage main precharge).uptime = s.uptime
      ∧ (s.headGood c current stringVoltage busVoltage main precharge).clocks = s.clocks
      ∧ (s.headGood c current stringVoltage busVoltage main precharge).supervision = s.supervision
      ∧ (s.headGood c current stringVoltage busVoltage main precharge).plant = s.plant
      ∧ (s.headGood c current stringVoltage busVoltage main precharge).fire = s.fire
      ∧ (s.headGood c current stringVoltage busVoltage main precharge).siteMode = s.siteMode
      ∧ (s.headGood c current stringVoltage busVoltage main precharge).stationCap = s.stationCap
      ∧ (s.headGood c current stringVoltage busVoltage main precharge).serviceCap = s.serviceCap
      ∧ (s.headGood c current stringVoltage busVoltage main precharge).config = s.config
      ∧ (s.headGood c current stringVoltage busVoltage main precharge).pending = s.pending := by
  simp only [State.headGood]
  refine State.inAnyOrder_keeps
    (P := fun t => t.phase = s.phase ∧ t.resetLine = s.resetLine ∧ t.resetKind = s.resetKind
        ∧ t.siteResetDue = s.siteResetDue ∧ t.uptime = s.uptime ∧ t.clocks = s.clocks
        ∧ t.supervision = s.supervision ∧ t.plant = s.plant ∧ t.fire = s.fire ∧ t.siteMode = s.siteMode
        ∧ t.stationCap = s.stationCap ∧ t.serviceCap = s.serviceCap ∧ t.config = s.config
        ∧ t.pending = s.pending) ?_ ?_ ?_
  · intro t n h
    exact h
  · intro f h t ht
    simp only [List.mem_cons, List.not_mem_nil, or_false] at h
    rcases h with rfl | rfl <;> simpa using ht
  · simp

/-- What `State.applyGood` changes: supervision, chains, store, strings, envelope, agreement, permit, links, choices; the rest of the state is as it was. -/
@[simp] theorem State.applyGood_frame (s : State) (c : Str) (u : ChainUnit) (r : Reply) :
    (s.applyGood c u r).phase = s.phase ∧ (s.applyGood c u r).resetLine = s.resetLine
      ∧ (s.applyGood c u r).resetKind = s.resetKind ∧ (s.applyGood c u r).siteResetDue = s.siteResetDue
      ∧ (s.applyGood c u r).uptime = s.uptime ∧ (s.applyGood c u r).clocks = s.clocks
      ∧ (s.applyGood c u r).plant = s.plant ∧ (s.applyGood c u r).fire = s.fire
      ∧ (s.applyGood c u r).siteMode = s.siteMode ∧ (s.applyGood c u r).stationCap = s.stationCap
      ∧ (s.applyGood c u r).serviceCap = s.serviceCap ∧ (s.applyGood c u r).config = s.config
      ∧ (s.applyGood c u r).pending = s.pending := by
  unfold State.applyGood
  repeat' split
  all_goals simp

/-- What `State.applyOutcome` changes: supervision, chains, store, strings, envelope, agreement, permit, links, choices; the rest of the state is as it was. -/
@[simp] theorem State.applyOutcome_frame (s : State) (c : Str) (u : ChainUnit) (r : Option Reply) :
    (s.applyOutcome c u r).phase = s.phase ∧ (s.applyOutcome c u r).resetLine = s.resetLine
      ∧ (s.applyOutcome c u r).resetKind = s.resetKind ∧ (s.applyOutcome c u r).siteResetDue = s.siteResetDue
      ∧ (s.applyOutcome c u r).uptime = s.uptime ∧ (s.applyOutcome c u r).clocks = s.clocks
      ∧ (s.applyOutcome c u r).plant = s.plant ∧ (s.applyOutcome c u r).fire = s.fire
      ∧ (s.applyOutcome c u r).siteMode = s.siteMode ∧ (s.applyOutcome c u r).stationCap = s.stationCap
      ∧ (s.applyOutcome c u r).serviceCap = s.serviceCap ∧ (s.applyOutcome c u r).config = s.config
      ∧ (s.applyOutcome c u r).pending = s.pending := by
  unfold State.applyOutcome
  split <;> simp

/-- What `State.clearModules` changes: chains, supervision; the rest of the state is as it was. -/
@[simp] theorem State.clearModules_frame (s : State) (c : Str) (picks : Addr → Bool) :
    (s.clearModules c picks).phase = s.phase ∧ (s.clearModules c picks).resetLine = s.resetLine
      ∧ (s.clearModules c picks).resetKind = s.resetKind ∧ (s.clearModules c picks).siteResetDue = s.siteResetDue
      ∧ (s.clearModules c picks).uptime = s.uptime ∧ (s.clearModules c picks).clocks = s.clocks
      ∧ (s.clearModules c picks).strings = s.strings ∧ (s.clearModules c picks).envelope = s.envelope
      ∧ (s.clearModules c picks).plant = s.plant ∧ (s.clearModules c picks).fire = s.fire
      ∧ (s.clearModules c picks).store = s.store ∧ (s.clearModules c picks).agreement = s.agreement
      ∧ (s.clearModules c picks).permit = s.permit ∧ (s.clearModules c picks).links = s.links
      ∧ (s.clearModules c picks).siteMode = s.siteMode ∧ (s.clearModules c picks).stationCap = s.stationCap
      ∧ (s.clearModules c picks).serviceCap = s.serviceCap ∧ (s.clearModules c picks).config = s.config
      ∧ (s.clearModules c picks).choices = s.choices
      ∧ (s.clearModules c picks).pending = s.pending := by simp [State.clearModules]

/-- The answering of waiting requests touches the links alone. -/
@[simp] theorem State.answerWaiters_frame (s : State) (waiters : List Waiter) (code : AnswerCode)
    (content : List Item) :
    (s.answerWaiters waiters code content).phase = s.phase
        ∧ (s.answerWaiters waiters code content).resetLine = s.resetLine
        ∧ (s.answerWaiters waiters code content).resetKind = s.resetKind
        ∧ (s.answerWaiters waiters code content).siteResetDue = s.siteResetDue
        ∧ (s.answerWaiters waiters code content).uptime = s.uptime
        ∧ (s.answerWaiters waiters code content).clocks = s.clocks
        ∧ (s.answerWaiters waiters code content).chains = s.chains
        ∧ (s.answerWaiters waiters code content).supervision = s.supervision
        ∧ (s.answerWaiters waiters code content).strings = s.strings
        ∧ (s.answerWaiters waiters code content).envelope = s.envelope
        ∧ (s.answerWaiters waiters code content).plant = s.plant
        ∧ (s.answerWaiters waiters code content).fire = s.fire
        ∧ (s.answerWaiters waiters code content).store = s.store
        ∧ (s.answerWaiters waiters code content).agreement = s.agreement
        ∧ (s.answerWaiters waiters code content).permit = s.permit
        ∧ (s.answerWaiters waiters code content).siteMode = s.siteMode
        ∧ (s.answerWaiters waiters code content).stationCap = s.stationCap
        ∧ (s.answerWaiters waiters code content).serviceCap = s.serviceCap
        ∧ (s.answerWaiters waiters code content).config = s.config
        ∧ (s.answerWaiters waiters code content).choices = s.choices
        ∧ (s.answerWaiters waiters code content).pending = s.pending := by
  refine State.answerWaiters_keeps
    (P := fun t => t.phase = s.phase ∧ t.resetLine = s.resetLine ∧ t.resetKind = s.resetKind
        ∧ t.siteResetDue = s.siteResetDue ∧ t.uptime = s.uptime ∧ t.clocks = s.clocks ∧ t.chains = s.chains
        ∧ t.supervision = s.supervision ∧ t.strings = s.strings ∧ t.envelope = s.envelope ∧ t.plant = s.plant
        ∧ t.fire = s.fire ∧ t.store = s.store ∧ t.agreement = s.agreement ∧ t.permit = s.permit
        ∧ t.siteMode = s.siteMode ∧ t.stationCap = s.stationCap ∧ t.serviceCap = s.serviceCap
        ∧ t.config = s.config ∧ t.choices = s.choices ∧ t.pending = s.pending) ?_ waiters code content ?_
  · intro t l a ht
    simpa using ht
  · simp

/-- What `State.removeProbes` changes: chains, links; the rest of the state is as it was. -/
@[simp] theorem State.removeProbes_frame (s : State) (c : Str) (picks : Addr → Bool) :
    (s.removeProbes c picks).phase = s.phase ∧ (s.removeProbes c picks).resetLine = s.resetLine
      ∧ (s.removeProbes c picks).resetKind = s.resetKind ∧ (s.removeProbes c picks).siteResetDue = s.siteResetDue
      ∧ (s.removeProbes c picks).uptime = s.uptime ∧ (s.removeProbes c picks).clocks = s.clocks
      ∧ (s.removeProbes c picks).supervision = s.supervision ∧ (s.removeProbes c picks).strings = s.strings
      ∧ (s.removeProbes c picks).envelope = s.envelope ∧ (s.removeProbes c picks).plant = s.plant
      ∧ (s.removeProbes c picks).fire = s.fire ∧ (s.removeProbes c picks).store = s.store
      ∧ (s.removeProbes c picks).agreement = s.agreement ∧ (s.removeProbes c picks).permit = s.permit
      ∧ (s.removeProbes c picks).siteMode = s.siteMode ∧ (s.removeProbes c picks).stationCap = s.stationCap
      ∧ (s.removeProbes c picks).serviceCap = s.serviceCap ∧ (s.removeProbes c picks).config = s.config
      ∧ (s.removeProbes c picks).choices = s.choices
      ∧ (s.removeProbes c picks).pending = s.pending := by simp [State.removeProbes]

/-- What `State.takeRange` changes: chains, supervision, links; the rest of the state is as it was. -/
@[simp] theorem State.takeRange_frame (s : State) (c : Str) (r : ScanRange) :
    (s.takeRange c r).phase = s.phase ∧ (s.takeRange c r).resetLine = s.resetLine
      ∧ (s.takeRange c r).resetKind = s.resetKind ∧ (s.takeRange c r).siteResetDue = s.siteResetDue
      ∧ (s.takeRange c r).uptime = s.uptime ∧ (s.takeRange c r).clocks = s.clocks
      ∧ (s.takeRange c r).strings = s.strings ∧ (s.takeRange c r).envelope = s.envelope
      ∧ (s.takeRange c r).plant = s.plant ∧ (s.takeRange c r).fire = s.fire ∧ (s.takeRange c r).store = s.store
      ∧ (s.takeRange c r).agreement = s.agreement ∧ (s.takeRange c r).permit = s.permit
      ∧ (s.takeRange c r).siteMode = s.siteMode ∧ (s.takeRange c r).stationCap = s.stationCap
      ∧ (s.takeRange c r).serviceCap = s.serviceCap ∧ (s.takeRange c r).config = s.config
      ∧ (s.takeRange c r).choices = s.choices ∧ (s.takeRange c r).pending = s.pending := by simp [State.takeRange]

/-- What `State.compareRange` changes: chains, supervision, links; the rest of the state is as it was. -/
@[simp] theorem State.compareRange_frame (s : State) (c : Str) :
    (s.compareRange c).phase = s.phase ∧ (s.compareRange c).resetLine = s.resetLine
      ∧ (s.compareRange c).resetKind = s.resetKind ∧ (s.compareRange c).siteResetDue = s.siteResetDue
      ∧ (s.compareRange c).uptime = s.uptime ∧ (s.compareRange c).clocks = s.clocks
      ∧ (s.compareRange c).strings = s.strings ∧ (s.compareRange c).envelope = s.envelope
      ∧ (s.compareRange c).plant = s.plant ∧ (s.compareRange c).fire = s.fire ∧ (s.compareRange c).store = s.store
      ∧ (s.compareRange c).agreement = s.agreement ∧ (s.compareRange c).permit = s.permit
      ∧ (s.compareRange c).siteMode = s.siteMode ∧ (s.compareRange c).stationCap = s.stationCap
      ∧ (s.compareRange c).serviceCap = s.serviceCap ∧ (s.compareRange c).config = s.config
      ∧ (s.compareRange c).choices = s.choices ∧ (s.compareRange c).pending = s.pending := by
  unfold State.compareRange
  repeat' split
  all_goals simp

/-- What `State.enterUnfitted` changes: chains, supervision, links; the rest of the state is as it was. -/
@[simp] theorem State.enterUnfitted_frame (s : State) (c : Str) :
    (s.enterUnfitted c).phase = s.phase ∧ (s.enterUnfitted c).resetLine = s.resetLine
      ∧ (s.enterUnfitted c).resetKind = s.resetKind ∧ (s.enterUnfitted c).siteResetDue = s.siteResetDue
      ∧ (s.enterUnfitted c).uptime = s.uptime ∧ (s.enterUnfitted c).clocks = s.clocks
      ∧ (s.enterUnfitted c).strings = s.strings ∧ (s.enterUnfitted c).envelope = s.envelope
      ∧ (s.enterUnfitted c).plant = s.plant ∧ (s.enterUnfitted c).fire = s.fire
      ∧ (s.enterUnfitted c).store = s.store ∧ (s.enterUnfitted c).agreement = s.agreement
      ∧ (s.enterUnfitted c).permit = s.permit ∧ (s.enterUnfitted c).siteMode = s.siteMode
      ∧ (s.enterUnfitted c).stationCap = s.stationCap ∧ (s.enterUnfitted c).serviceCap = s.serviceCap
      ∧ (s.enterUnfitted c).config = s.config ∧ (s.enterUnfitted c).choices = s.choices
      ∧ (s.enterUnfitted c).pending = s.pending := by simp [State.enterUnfitted]

/-- What `State.dueMoment` changes: chains, supervision, links; the rest of the state is as it was. -/
@[simp] theorem State.dueMoment_frame (s : State) (c : Str) :
    (s.dueMoment c).phase = s.phase ∧ (s.dueMoment c).resetLine = s.resetLine
      ∧ (s.dueMoment c).resetKind = s.resetKind ∧ (s.dueMoment c).siteResetDue = s.siteResetDue
      ∧ (s.dueMoment c).uptime = s.uptime ∧ (s.dueMoment c).clocks = s.clocks ∧ (s.dueMoment c).strings = s.strings
      ∧ (s.dueMoment c).envelope = s.envelope ∧ (s.dueMoment c).plant = s.plant ∧ (s.dueMoment c).fire = s.fire
      ∧ (s.dueMoment c).store = s.store ∧ (s.dueMoment c).agreement = s.agreement
      ∧ (s.dueMoment c).permit = s.permit ∧ (s.dueMoment c).siteMode = s.siteMode
      ∧ (s.dueMoment c).stationCap = s.stationCap ∧ (s.dueMoment c).serviceCap = s.serviceCap
      ∧ (s.dueMoment c).config = s.config ∧ (s.dueMoment c).choices = s.choices
      ∧ (s.dueMoment c).pending = s.pending := by
  simp only [State.dueMoment]
  split <;> simp

/-- What `State.startIfIdle` changes: chains; the rest of the state is as it was. -/
@[simp] theorem State.startIfIdle_frame (s : State) (c : Str) :
    (s.startIfIdle c).phase = s.phase ∧ (s.startIfIdle c).resetLine = s.resetLine
      ∧ (s.startIfIdle c).resetKind = s.resetKind ∧ (s.startIfIdle c).siteResetDue = s.siteResetDue
      ∧ (s.startIfIdle c).uptime = s.uptime ∧ (s.startIfIdle c).clocks = s.clocks
      ∧ (s.startIfIdle c).supervision = s.supervision ∧ (s.startIfIdle c).strings = s.strings
      ∧ (s.startIfIdle c).envelope = s.envelope ∧ (s.startIfIdle c).plant = s.plant
      ∧ (s.startIfIdle c).fire = s.fire ∧ (s.startIfIdle c).store = s.store
      ∧ (s.startIfIdle c).agreement = s.agreement ∧ (s.startIfIdle c).permit = s.permit
      ∧ (s.startIfIdle c).links = s.links ∧ (s.startIfIdle c).siteMode = s.siteMode
      ∧ (s.startIfIdle c).stationCap = s.stationCap ∧ (s.startIfIdle c).serviceCap = s.serviceCap
      ∧ (s.startIfIdle c).config = s.config ∧ (s.startIfIdle c).choices = s.choices
      ∧ (s.startIfIdle c).pending = s.pending := by simp [State.startIfIdle]

/-- What `State.completeCycle` changes: chains, supervision, store, strings, envelope, agreement, permit, links, choices; the rest of the state is as it was. -/
@[simp] theorem State.completeCycle_frame (s : State) (c : Str) :
    (s.completeCycle c).phase = s.phase ∧ (s.completeCycle c).resetLine = s.resetLine
      ∧ (s.completeCycle c).resetKind = s.resetKind ∧ (s.completeCycle c).siteResetDue = s.siteResetDue
      ∧ (s.completeCycle c).uptime = s.uptime ∧ (s.completeCycle c).clocks = s.clocks
      ∧ (s.completeCycle c).plant = s.plant ∧ (s.completeCycle c).fire = s.fire
      ∧ (s.completeCycle c).siteMode = s.siteMode ∧ (s.completeCycle c).stationCap = s.stationCap
      ∧ (s.completeCycle c).serviceCap = s.serviceCap ∧ (s.completeCycle c).config = s.config
      ∧ (s.completeCycle c).pending = s.pending := by
  simp only [State.completeCycle]
  split <;> simp

/-- What `State.advance` changes: chains, supervision, store, strings, envelope, agreement, permit, links, choices; the rest of the state is as it was. -/
@[simp] theorem State.advance_frame (s : State) (c : Str) (u : ChainUnit) :
    (s.advance c u).phase = s.phase ∧ (s.advance c u).resetLine = s.resetLine
      ∧ (s.advance c u).resetKind = s.resetKind ∧ (s.advance c u).siteResetDue = s.siteResetDue
      ∧ (s.advance c u).uptime = s.uptime ∧ (s.advance c u).clocks = s.clocks ∧ (s.advance c u).plant = s.plant
      ∧ (s.advance c u).fire = s.fire ∧ (s.advance c u).siteMode = s.siteMode
      ∧ (s.advance c u).stationCap = s.stationCap ∧ (s.advance c u).serviceCap = s.serviceCap
      ∧ (s.advance c u).config = s.config ∧ (s.advance c u).pending = s.pending := by
  unfold State.advance
  repeat' split
  all_goals simp

/-- What `State.answerProbe` changes: links; the rest of the state is as it was. -/
@[simp] theorem State.answerProbe_frame (s : State) (c : Str) (a : Addr) (waiters : List Waiter)
    (o : ChainOutcome) (fitted : Bool) :
    (s.answerProbe c a waiters o fitted).phase = s.phase
      ∧ (s.answerProbe c a waiters o fitted).resetLine = s.resetLine
      ∧ (s.answerProbe c a waiters o fitted).resetKind = s.resetKind
      ∧ (s.answerProbe c a waiters o fitted).siteResetDue = s.siteResetDue
      ∧ (s.answerProbe c a waiters o fitted).uptime = s.uptime
      ∧ (s.answerProbe c a waiters o fitted).clocks = s.clocks
      ∧ (s.answerProbe c a waiters o fitted).chains = s.chains
      ∧ (s.answerProbe c a waiters o fitted).supervision = s.supervision
      ∧ (s.answerProbe c a waiters o fitted).strings = s.strings
      ∧ (s.answerProbe c a waiters o fitted).envelope = s.envelope
      ∧ (s.answerProbe c a waiters o fitted).plant = s.plant ∧ (s.answerProbe c a waiters o fitted).fire = s.fire
      ∧ (s.answerProbe c a waiters o fitted).store = s.store
      ∧ (s.answerProbe c a waiters o fitted).agreement = s.agreement
      ∧ (s.answerProbe c a waiters o fitted).permit = s.permit
      ∧ (s.answerProbe c a waiters o fitted).siteMode = s.siteMode
      ∧ (s.answerProbe c a waiters o fitted).stationCap = s.stationCap
      ∧ (s.answerProbe c a waiters o fitted).serviceCap = s.serviceCap
      ∧ (s.answerProbe c a waiters o fitted).config = s.config
      ∧ (s.answerProbe c a waiters o fitted).choices = s.choices
      ∧ (s.answerProbe c a waiters o fitted).pending = s.pending := by
  unfold State.answerProbe
  repeat' split
  all_goals simp

/-- What `State.countMiss` changes: store; the rest of the state is as it was. -/
@[simp] theorem State.countMiss_frame (s : State) (c : Str) (o : ChainOutcome) :
    (s.countMiss c o).phase = s.phase ∧ (s.countMiss c o).resetLine = s.resetLine
      ∧ (s.countMiss c o).resetKind = s.resetKind ∧ (s.countMiss c o).siteResetDue = s.siteResetDue
      ∧ (s.countMiss c o).uptime = s.uptime ∧ (s.countMiss c o).clocks = s.clocks
      ∧ (s.countMiss c o).chains = s.chains ∧ (s.countMiss c o).supervision = s.supervision
      ∧ (s.countMiss c o).strings = s.strings ∧ (s.countMiss c o).envelope = s.envelope
      ∧ (s.countMiss c o).plant = s.plant ∧ (s.countMiss c o).fire = s.fire
      ∧ (s.countMiss c o).agreement = s.agreement ∧ (s.countMiss c o).permit = s.permit
      ∧ (s.countMiss c o).links = s.links ∧ (s.countMiss c o).siteMode = s.siteMode
      ∧ (s.countMiss c o).stationCap = s.stationCap ∧ (s.countMiss c o).serviceCap = s.serviceCap
      ∧ (s.countMiss c o).config = s.config ∧ (s.countMiss c o).choices = s.choices
      ∧ (s.countMiss c o).pending = s.pending := by
  unfold State.countMiss
  repeat' split
  all_goals simp

/-- What `State.concludeTransaction` changes: chains, supervision, store, strings, envelope, agreement, permit, links, choices; the rest of the state is as it was. -/
@[simp] theorem State.concludeTransaction_frame (s : State) (c : Str) (x : Transaction) (r : Option Reply) :
    (s.concludeTransaction c x r).phase = s.phase ∧ (s.concludeTransaction c x r).resetLine = s.resetLine
      ∧ (s.concludeTransaction c x r).resetKind = s.resetKind
      ∧ (s.concludeTransaction c x r).siteResetDue = s.siteResetDue
      ∧ (s.concludeTransaction c x r).uptime = s.uptime ∧ (s.concludeTransaction c x r).clocks = s.clocks
      ∧ (s.concludeTransaction c x r).plant = s.plant ∧ (s.concludeTransaction c x r).fire = s.fire
      ∧ (s.concludeTransaction c x r).siteMode = s.siteMode
      ∧ (s.concludeTransaction c x r).stationCap = s.stationCap
      ∧ (s.concludeTransaction c x r).serviceCap = s.serviceCap ∧ (s.concludeTransaction c x r).config = s.config
      ∧ (s.concludeTransaction c x r).pending = s.pending := by
  simp only [State.concludeTransaction]
  repeat' split
  all_goals simp

/-- What `State.endTransaction` changes: chains, supervision, store, strings, envelope, agreement, permit, links, choices; the rest of the state is as it was. -/
@[simp] theorem State.endTransaction_frame (s : State) (c : Str) (x : Transaction) (r : Option Reply) :
    (s.endTransaction c x r).phase = s.phase ∧ (s.endTransaction c x r).resetLine = s.resetLine
      ∧ (s.endTransaction c x r).resetKind = s.resetKind ∧ (s.endTransaction c x r).siteResetDue = s.siteResetDue
      ∧ (s.endTransaction c x r).uptime = s.uptime ∧ (s.endTransaction c x r).clocks = s.clocks
      ∧ (s.endTransaction c x r).plant = s.plant ∧ (s.endTransaction c x r).fire = s.fire
      ∧ (s.endTransaction c x r).siteMode = s.siteMode ∧ (s.endTransaction c x r).stationCap = s.stationCap
      ∧ (s.endTransaction c x r).serviceCap = s.serviceCap ∧ (s.endTransaction c x r).config = s.config
      ∧ (s.endTransaction c x r).pending = s.pending := by simp [State.endTransaction]

/-- What `State.checkUnfitted` changes: chains, supervision, links; the rest of the state is as it was. -/
@[simp] theorem State.checkUnfitted_frame (s : State) (c : Str) (t : Nat) :
    (s.checkUnfitted c t).phase = s.phase ∧ (s.checkUnfitted c t).resetLine = s.resetLine
      ∧ (s.checkUnfitted c t).resetKind = s.resetKind ∧ (s.checkUnfitted c t).siteResetDue = s.siteResetDue
      ∧ (s.checkUnfitted c t).uptime = s.uptime ∧ (s.checkUnfitted c t).clocks = s.clocks
      ∧ (s.checkUnfitted c t).strings = s.strings ∧ (s.checkUnfitted c t).envelope = s.envelope
      ∧ (s.checkUnfitted c t).plant = s.plant ∧ (s.checkUnfitted c t).fire = s.fire
      ∧ (s.checkUnfitted c t).store = s.store ∧ (s.checkUnfitted c t).agreement = s.agreement
      ∧ (s.checkUnfitted c t).permit = s.permit ∧ (s.checkUnfitted c t).siteMode = s.siteMode
      ∧ (s.checkUnfitted c t).stationCap = s.stationCap ∧ (s.checkUnfitted c t).serviceCap = s.serviceCap
      ∧ (s.checkUnfitted c t).config = s.config ∧ (s.checkUnfitted c t).choices = s.choices
      ∧ (s.checkUnfitted c t).pending = s.pending := by
  unfold State.checkUnfitted
  repeat' split
  all_goals simp

/-- What `State.probe` changes: chains; the rest of the state is as it was. -/
@[simp] theorem State.probe_frame (s : State) (c : Str) (a : Addr) (w : Waiter) :
    ((s.probe c a w).1).phase = s.phase ∧ ((s.probe c a w).1).resetLine = s.resetLine
      ∧ ((s.probe c a w).1).resetKind = s.resetKind ∧ ((s.probe c a w).1).siteResetDue = s.siteResetDue
      ∧ ((s.probe c a w).1).uptime = s.uptime ∧ ((s.probe c a w).1).clocks = s.clocks
      ∧ ((s.probe c a w).1).supervision = s.supervision ∧ ((s.probe c a w).1).strings = s.strings
      ∧ ((s.probe c a w).1).envelope = s.envelope ∧ ((s.probe c a w).1).plant = s.plant
      ∧ ((s.probe c a w).1).fire = s.fire ∧ ((s.probe c a w).1).store = s.store
      ∧ ((s.probe c a w).1).agreement = s.agreement ∧ ((s.probe c a w).1).permit = s.permit
      ∧ ((s.probe c a w).1).links = s.links ∧ ((s.probe c a w).1).siteMode = s.siteMode
      ∧ ((s.probe c a w).1).stationCap = s.stationCap ∧ ((s.probe c a w).1).serviceCap = s.serviceCap
      ∧ ((s.probe c a w).1).config = s.config ∧ ((s.probe c a w).1).choices = s.choices
      ∧ ((s.probe c a w).1).pending = s.pending := by
  simp only [State.probe]
  repeat' split
  all_goals simp

/-! ## The thermal plant controller -/

/-- What `State.modPlant` changes: plant; the rest of the state is as it was. -/
@[simp] theorem State.modPlant_frame (s : State) (f : Plant → Plant) :
    (s.modPlant f).phase = s.phase ∧ (s.modPlant f).resetLine = s.resetLine ∧ (s.modPlant f).resetKind = s.resetKind
      ∧ (s.modPlant f).siteResetDue = s.siteResetDue ∧ (s.modPlant f).uptime = s.uptime
      ∧ (s.modPlant f).clocks = s.clocks ∧ (s.modPlant f).chains = s.chains
      ∧ (s.modPlant f).supervision = s.supervision ∧ (s.modPlant f).strings = s.strings
      ∧ (s.modPlant f).envelope = s.envelope ∧ (s.modPlant f).fire = s.fire ∧ (s.modPlant f).store = s.store
      ∧ (s.modPlant f).agreement = s.agreement ∧ (s.modPlant f).permit = s.permit ∧ (s.modPlant f).links = s.links
      ∧ (s.modPlant f).siteMode = s.siteMode ∧ (s.modPlant f).stationCap = s.stationCap
      ∧ (s.modPlant f).serviceCap = s.serviceCap ∧ (s.modPlant f).config = s.config
      ∧ (s.modPlant f).choices = s.choices ∧ (s.modPlant f).pending = s.pending := by simp [State.modPlant]

/-- What `State.modeChoice` changes: plant; the rest of the state is as it was. -/
@[simp] theorem State.modeChoice_frame (s : State) :
    (s.modeChoice).phase = s.phase ∧ (s.modeChoice).resetLine = s.resetLine ∧ (s.modeChoice).resetKind = s.resetKind
      ∧ (s.modeChoice).siteResetDue = s.siteResetDue ∧ (s.modeChoice).uptime = s.uptime
      ∧ (s.modeChoice).clocks = s.clocks ∧ (s.modeChoice).chains = s.chains
      ∧ (s.modeChoice).supervision = s.supervision ∧ (s.modeChoice).strings = s.strings
      ∧ (s.modeChoice).envelope = s.envelope ∧ (s.modeChoice).fire = s.fire ∧ (s.modeChoice).store = s.store
      ∧ (s.modeChoice).agreement = s.agreement ∧ (s.modeChoice).permit = s.permit ∧ (s.modeChoice).links = s.links
      ∧ (s.modeChoice).siteMode = s.siteMode ∧ (s.modeChoice).stationCap = s.stationCap
      ∧ (s.modeChoice).serviceCap = s.serviceCap ∧ (s.modeChoice).config = s.config
      ∧ (s.modeChoice).choices = s.choices ∧ (s.modeChoice).pending = s.pending := by simp [State.modeChoice]

/-- What `State.plantStageChange` changes: plant; the rest of the state is as it was. -/
@[simp] theorem State.plantStageChange_frame (s : State) (confirmedEntry : Bool) :
    (s.plantStageChange confirmedEntry).phase = s.phase
      ∧ (s.plantStageChange confirmedEntry).resetLine = s.resetLine
      ∧ (s.plantStageChange confirmedEntry).resetKind = s.resetKind
      ∧ (s.plantStageChange confirmedEntry).siteResetDue = s.siteResetDue
      ∧ (s.plantStageChange confirmedEntry).uptime = s.uptime
      ∧ (s.plantStageChange confirmedEntry).clocks = s.clocks
      ∧ (s.plantStageChange confirmedEntry).chains = s.chains
      ∧ (s.plantStageChange confirmedEntry).supervision = s.supervision
      ∧ (s.plantStageChange confirmedEntry).strings = s.strings
      ∧ (s.plantStageChange confirmedEntry).envelope = s.envelope
      ∧ (s.plantStageChange confirmedEntry).fire = s.fire ∧ (s.plantStageChange confirmedEntry).store = s.store
      ∧ (s.plantStageChange confirmedEntry).agreement = s.agreement
      ∧ (s.plantStageChange confirmedEntry).permit = s.permit ∧ (s.plantStageChange confirmedEntry).links = s.links
      ∧ (s.plantStageChange confirmedEntry).siteMode = s.siteMode
      ∧ (s.plantStageChange confirmedEntry).stationCap = s.stationCap
      ∧ (s.plantStageChange confirmedEntry).serviceCap = s.serviceCap
      ∧ (s.plantStageChange confirmedEntry).config = s.config
      ∧ (s.plantStageChange confirmedEntry).choices = s.choices
      ∧ (s.plantStageChange confirmedEntry).pending = s.pending := by
  unfold State.plantStageChange
  repeat' split
  all_goals simp

/-- What `State.inputFault` changes: links; the rest of the state is as it was. -/
@[simp] theorem State.inputFault_frame (s : State) (n : InputName) (before : PlantInput) (after : PlantInput) :
    (s.inputFault n before after).phase = s.phase ∧ (s.inputFault n before after).resetLine = s.resetLine
      ∧ (s.inputFault n before after).resetKind = s.resetKind
      ∧ (s.inputFault n before after).siteResetDue = s.siteResetDue
      ∧ (s.inputFault n before after).uptime = s.uptime ∧ (s.inputFault n before after).clocks = s.clocks
      ∧ (s.inputFault n before after).chains = s.chains ∧ (s.inputFault n before after).supervision = s.supervision
      ∧ (s.inputFault n before after).strings = s.strings ∧ (s.inputFault n before after).envelope = s.envelope
      ∧ (s.inputFault n before after).plant = s.plant ∧ (s.inputFault n before after).fire = s.fire
      ∧ (s.inputFault n before after).store = s.store ∧ (s.inputFault n before after).agreement = s.agreement
      ∧ (s.inputFault n before after).permit = s.permit ∧ (s.inputFault n before after).siteMode = s.siteMode
      ∧ (s.inputFault n before after).stationCap = s.stationCap
      ∧ (s.inputFault n before after).serviceCap = s.serviceCap ∧ (s.inputFault n before after).config = s.config
      ∧ (s.inputFault n before after).choices = s.choices ∧ (s.inputFault n before after).pending = s.pending := by
  unfold State.inputFault
  repeat' split
  all_goals simp

/-- What `State.storeInputs` changes: plant, links; the rest of the state is as it was. -/
@[simp] theorem State.storeInputs_frame (s : State) (inlet : Int) (outlet : Int) (container : Int) (outside : Int) :
    (s.storeInputs inlet outlet container outside).phase = s.phase
      ∧ (s.storeInputs inlet outlet container outside).resetLine = s.resetLine
      ∧ (s.storeInputs inlet outlet container outside).resetKind = s.resetKind
      ∧ (s.storeInputs inlet outlet container outside).siteResetDue = s.siteResetDue
      ∧ (s.storeInputs inlet outlet container outside).uptime = s.uptime
      ∧ (s.storeInputs inlet outlet container outside).clocks = s.clocks
      ∧ (s.storeInputs inlet outlet container outside).chains = s.chains
      ∧ (s.storeInputs inlet outlet container outside).supervision = s.supervision
      ∧ (s.storeInputs inlet outlet container outside).strings = s.strings
      ∧ (s.storeInputs inlet outlet container outside).envelope = s.envelope
      ∧ (s.storeInputs inlet outlet container outside).fire = s.fire
      ∧ (s.storeInputs inlet outlet container outside).store = s.store
      ∧ (s.storeInputs inlet outlet container outside).agreement = s.agreement
      ∧ (s.storeInputs inlet outlet container outside).permit = s.permit
      ∧ (s.storeInputs inlet outlet container outside).siteMode = s.siteMode
      ∧ (s.storeInputs inlet outlet container outside).stationCap = s.stationCap
      ∧ (s.storeInputs inlet outlet container outside).serviceCap = s.serviceCap
      ∧ (s.storeInputs inlet outlet container outside).config = s.config
      ∧ (s.storeInputs inlet outlet container outside).choices = s.choices
      ∧ (s.storeInputs inlet outlet container outside).pending = s.pending := by simp [State.storeInputs]

/-- What `State.formDemand` changes: plant; the rest of the state is as it was. -/
@[simp] theorem State.formDemand_frame (s : State) :
    (s.formDemand).phase = s.phase ∧ (s.formDemand).resetLine = s.resetLine ∧ (s.formDemand).resetKind = s.resetKind
      ∧ (s.formDemand).siteResetDue = s.siteResetDue ∧ (s.formDemand).uptime = s.uptime
      ∧ (s.formDemand).clocks = s.clocks ∧ (s.formDemand).chains = s.chains
      ∧ (s.formDemand).supervision = s.supervision ∧ (s.formDemand).strings = s.strings
      ∧ (s.formDemand).envelope = s.envelope ∧ (s.formDemand).fire = s.fire ∧ (s.formDemand).store = s.store
      ∧ (s.formDemand).agreement = s.agreement ∧ (s.formDemand).permit = s.permit ∧ (s.formDemand).links = s.links
      ∧ (s.formDemand).siteMode = s.siteMode ∧ (s.formDemand).stationCap = s.stationCap
      ∧ (s.formDemand).serviceCap = s.serviceCap ∧ (s.formDemand).config = s.config
      ∧ (s.formDemand).choices = s.choices ∧ (s.formDemand).pending = s.pending := by simp [State.formDemand]

/-- What `State.deliverCd` changes: envelope, links; the rest of the state is as it was. -/
@[simp] theorem State.deliverCd_frame (s : State) :
    (s.deliverCd).phase = s.phase ∧ (s.deliverCd).resetLine = s.resetLine ∧ (s.deliverCd).resetKind = s.resetKind
      ∧ (s.deliverCd).siteResetDue = s.siteResetDue ∧ (s.deliverCd).uptime = s.uptime
      ∧ (s.deliverCd).clocks = s.clocks ∧ (s.deliverCd).chains = s.chains
      ∧ (s.deliverCd).supervision = s.supervision ∧ (s.deliverCd).strings = s.strings
      ∧ (s.deliverCd).plant = s.plant ∧ (s.deliverCd).fire = s.fire ∧ (s.deliverCd).store = s.store
      ∧ (s.deliverCd).agreement = s.agreement ∧ (s.deliverCd).permit = s.permit
      ∧ (s.deliverCd).siteMode = s.siteMode ∧ (s.deliverCd).stationCap = s.stationCap
      ∧ (s.deliverCd).serviceCap = s.serviceCap ∧ (s.deliverCd).config = s.config
      ∧ (s.deliverCd).choices = s.choices ∧ (s.deliverCd).pending = s.pending := by simp [State.deliverCd]

/-- What `State.flowExpired` changes: plant, links; the rest of the state is as it was. -/
@[simp] theorem State.flowExpired_frame (s : State) :
    (s.flowExpired).phase = s.phase ∧ (s.flowExpired).resetLine = s.resetLine
      ∧ (s.flowExpired).resetKind = s.resetKind ∧ (s.flowExpired).siteResetDue = s.siteResetDue
      ∧ (s.flowExpired).uptime = s.uptime ∧ (s.flowExpired).clocks = s.clocks ∧ (s.flowExpired).chains = s.chains
      ∧ (s.flowExpired).supervision = s.supervision ∧ (s.flowExpired).strings = s.strings
      ∧ (s.flowExpired).envelope = s.envelope ∧ (s.flowExpired).fire = s.fire ∧ (s.flowExpired).store = s.store
      ∧ (s.flowExpired).agreement = s.agreement ∧ (s.flowExpired).permit = s.permit
      ∧ (s.flowExpired).siteMode = s.siteMode ∧ (s.flowExpired).stationCap = s.stationCap
      ∧ (s.flowExpired).serviceCap = s.serviceCap ∧ (s.flowExpired).config = s.config
      ∧ (s.flowExpired).choices = s.choices ∧ (s.flowExpired).pending = s.pending := by
  unfold State.flowExpired
  repeat' split
  all_goals simp

/-- What `State.chillerExpired` changes: plant; the rest of the state is as it was. -/
@[simp] theorem State.chillerExpired_frame (s : State) (g : Stage) :
    (s.chillerExpired g).phase = s.phase ∧ (s.chillerExpired g).resetLine = s.resetLine
      ∧ (s.chillerExpired g).resetKind = s.resetKind ∧ (s.chillerExpired g).siteResetDue = s.siteResetDue
      ∧ (s.chillerExpired g).uptime = s.uptime ∧ (s.chillerExpired g).clocks = s.clocks
      ∧ (s.chillerExpired g).chains = s.chains ∧ (s.chillerExpired g).supervision = s.supervision
      ∧ (s.chillerExpired g).strings = s.strings ∧ (s.chillerExpired g).envelope = s.envelope
      ∧ (s.chillerExpired g).fire = s.fire ∧ (s.chillerExpired g).store = s.store
      ∧ (s.chillerExpired g).agreement = s.agreement ∧ (s.chillerExpired g).permit = s.permit
      ∧ (s.chillerExpired g).links = s.links ∧ (s.chillerExpired g).siteMode = s.siteMode
      ∧ (s.chillerExpired g).stationCap = s.stationCap ∧ (s.chillerExpired g).serviceCap = s.serviceCap
      ∧ (s.chillerExpired g).config = s.config ∧ (s.chillerExpired g).choices = s.choices
      ∧ (s.chillerExpired g).pending = s.pending := by simp [State.chillerExpired]

/-- What `State.heaterExpired` changes: plant; the rest of the state is as it was. -/
@[simp] theorem State.heaterExpired_frame (s : State) :
    (s.heaterExpired).phase = s.phase ∧ (s.heaterExpired).resetLine = s.resetLine
      ∧ (s.heaterExpired).resetKind = s.resetKind ∧ (s.heaterExpired).siteResetDue = s.siteResetDue
      ∧ (s.heaterExpired).uptime = s.uptime ∧ (s.heaterExpired).clocks = s.clocks
      ∧ (s.heaterExpired).chains = s.chains ∧ (s.heaterExpired).supervision = s.supervision
      ∧ (s.heaterExpired).strings = s.strings ∧ (s.heaterExpired).envelope = s.envelope
      ∧ (s.heaterExpired).fire = s.fire ∧ (s.heaterExpired).store = s.store
      ∧ (s.heaterExpired).agreement = s.agreement ∧ (s.heaterExpired).permit = s.permit
      ∧ (s.heaterExpired).links = s.links ∧ (s.heaterExpired).siteMode = s.siteMode
      ∧ (s.heaterExpired).stationCap = s.stationCap ∧ (s.heaterExpired).serviceCap = s.serviceCap
      ∧ (s.heaterExpired).config = s.config ∧ (s.heaterExpired).choices = s.choices
      ∧ (s.heaterExpired).pending = s.pending := by simp [State.heaterExpired]

/-! ## The fire and gas unit -/

/-- What `State.modFire` changes: fire; the rest of the state is as it was. -/
@[simp] theorem State.modFire_frame (s : State) (f : FireUnit → FireUnit) :
    (s.modFire f).phase = s.phase ∧ (s.modFire f).resetLine = s.resetLine ∧ (s.modFire f).resetKind = s.resetKind
      ∧ (s.modFire f).siteResetDue = s.siteResetDue ∧ (s.modFire f).uptime = s.uptime
      ∧ (s.modFire f).clocks = s.clocks ∧ (s.modFire f).chains = s.chains
      ∧ (s.modFire f).supervision = s.supervision ∧ (s.modFire f).strings = s.strings
      ∧ (s.modFire f).envelope = s.envelope ∧ (s.modFire f).plant = s.plant ∧ (s.modFire f).store = s.store
      ∧ (s.modFire f).agreement = s.agreement ∧ (s.modFire f).permit = s.permit ∧ (s.modFire f).links = s.links
      ∧ (s.modFire f).siteMode = s.siteMode ∧ (s.modFire f).stationCap = s.stationCap
      ∧ (s.modFire f).serviceCap = s.serviceCap ∧ (s.modFire f).config = s.config
      ∧ (s.modFire f).choices = s.choices ∧ (s.modFire f).pending = s.pending := by simp [State.modFire]

/-- A notice for each of a list of things, or none, touches the links alone. -/
theorem State.foldl_post_keeps {α : Type} {P : State → Prop} (hp : ∀ t n d, P t → P (t.post n d)) (test : α → Bool)
    (kind : α → NoticeKind) (detail : α → NoticeDetail) (l : List α) {s : State} (hs : P s) :
    P (l.foldl (fun t i => if test i then t.post (kind i) (detail i) else t) s) := by
  induction l generalizing s with
  | nil => exact hs
  | cons x rest ih =>
    refine ih ?_
    dsimp only
    split
    · exact hp _ _ _ hs
    · exact hs

/-- What `State.sampleLoops` changes: fire, links; the rest of the state is as it was. -/
@[simp] theorem State.sampleLoops_frame (s : State) (ohms : Vector Nat 8) :
    (s.sampleLoops ohms).phase = s.phase ∧ (s.sampleLoops ohms).resetLine = s.resetLine
      ∧ (s.sampleLoops ohms).resetKind = s.resetKind ∧ (s.sampleLoops ohms).siteResetDue = s.siteResetDue
      ∧ (s.sampleLoops ohms).uptime = s.uptime ∧ (s.sampleLoops ohms).clocks = s.clocks
      ∧ (s.sampleLoops ohms).chains = s.chains ∧ (s.sampleLoops ohms).supervision = s.supervision
      ∧ (s.sampleLoops ohms).strings = s.strings ∧ (s.sampleLoops ohms).envelope = s.envelope
      ∧ (s.sampleLoops ohms).plant = s.plant ∧ (s.sampleLoops ohms).store = s.store
      ∧ (s.sampleLoops ohms).agreement = s.agreement ∧ (s.sampleLoops ohms).permit = s.permit
      ∧ (s.sampleLoops ohms).siteMode = s.siteMode ∧ (s.sampleLoops ohms).stationCap = s.stationCap
      ∧ (s.sampleLoops ohms).serviceCap = s.serviceCap ∧ (s.sampleLoops ohms).config = s.config
      ∧ (s.sampleLoops ohms).choices = s.choices ∧ (s.sampleLoops ohms).pending = s.pending := by
  refine State.foldl_post_keeps
    (P := fun t => t.phase = s.phase ∧ t.resetLine = s.resetLine ∧ t.resetKind = s.resetKind
        ∧ t.siteResetDue = s.siteResetDue ∧ t.uptime = s.uptime ∧ t.clocks = s.clocks ∧ t.chains = s.chains
        ∧ t.supervision = s.supervision ∧ t.strings = s.strings ∧ t.envelope = s.envelope ∧ t.plant = s.plant
        ∧ t.store = s.store ∧ t.agreement = s.agreement ∧ t.permit = s.permit ∧ t.siteMode = s.siteMode
        ∧ t.stationCap = s.stationCap ∧ t.serviceCap = s.serviceCap ∧ t.config = s.config ∧ t.choices = s.choices
        ∧ t.pending = s.pending) ?_ _ _ _ _ ?_
  · intro t n d ht
    simpa using ht
  · simp

/-- What `State.gasFault` changes: links; the rest of the state is as it was. -/
@[simp] theorem State.gasFault_frame (s : State) (channel : Nat) (before : GasChannel) (after : GasChannel) :
    (s.gasFault channel before after).phase = s.phase ∧ (s.gasFault channel before after).resetLine = s.resetLine
      ∧ (s.gasFault channel before after).resetKind = s.resetKind
      ∧ (s.gasFault channel before after).siteResetDue = s.siteResetDue
      ∧ (s.gasFault channel before after).uptime = s.uptime ∧ (s.gasFault channel before after).clocks = s.clocks
      ∧ (s.gasFault channel before after).chains = s.chains
      ∧ (s.gasFault channel before after).supervision = s.supervision
      ∧ (s.gasFault channel before after).strings = s.strings
      ∧ (s.gasFault channel before after).envelope = s.envelope ∧ (s.gasFault channel before after).plant = s.plant
      ∧ (s.gasFault channel before after).fire = s.fire ∧ (s.gasFault channel before after).store = s.store
      ∧ (s.gasFault channel before after).agreement = s.agreement
      ∧ (s.gasFault channel before after).permit = s.permit
      ∧ (s.gasFault channel before after).siteMode = s.siteMode
      ∧ (s.gasFault channel before after).stationCap = s.stationCap
      ∧ (s.gasFault channel before after).serviceCap = s.serviceCap
      ∧ (s.gasFault channel before after).config = s.config ∧ (s.gasFault channel before after).choices = s.choices
      ∧ (s.gasFault channel before after).pending = s.pending := by
  unfold State.gasFault
  repeat' split
  all_goals simp

/-- What `State.sampleGas` changes: fire, links; the rest of the state is as it was. -/
@[simp] theorem State.sampleGas_frame (s : State) (g1 : Int) (g2 : Int) :
    (s.sampleGas g1 g2).phase = s.phase ∧ (s.sampleGas g1 g2).resetLine = s.resetLine
      ∧ (s.sampleGas g1 g2).resetKind = s.resetKind ∧ (s.sampleGas g1 g2).siteResetDue = s.siteResetDue
      ∧ (s.sampleGas g1 g2).uptime = s.uptime ∧ (s.sampleGas g1 g2).clocks = s.clocks
      ∧ (s.sampleGas g1 g2).chains = s.chains ∧ (s.sampleGas g1 g2).supervision = s.supervision
      ∧ (s.sampleGas g1 g2).strings = s.strings ∧ (s.sampleGas g1 g2).envelope = s.envelope
      ∧ (s.sampleGas g1 g2).plant = s.plant ∧ (s.sampleGas g1 g2).store = s.store
      ∧ (s.sampleGas g1 g2).agreement = s.agreement ∧ (s.sampleGas g1 g2).permit = s.permit
      ∧ (s.sampleGas g1 g2).siteMode = s.siteMode ∧ (s.sampleGas g1 g2).stationCap = s.stationCap
      ∧ (s.sampleGas g1 g2).serviceCap = s.serviceCap ∧ (s.sampleGas g1 g2).config = s.config
      ∧ (s.sampleGas g1 g2).choices = s.choices ∧ (s.sampleGas g1 g2).pending = s.pending := by simp [State.sampleGas]

/-- What `State.updateDegraded` changes: fire, links; the rest of the state is as it was. -/
@[simp] theorem State.updateDegraded_frame (s : State) :
    (s.updateDegraded).phase = s.phase ∧ (s.updateDegraded).resetLine = s.resetLine
      ∧ (s.updateDegraded).resetKind = s.resetKind ∧ (s.updateDegraded).siteResetDue = s.siteResetDue
      ∧ (s.updateDegraded).uptime = s.uptime ∧ (s.updateDegraded).clocks = s.clocks
      ∧ (s.updateDegraded).chains = s.chains ∧ (s.updateDegraded).supervision = s.supervision
      ∧ (s.updateDegraded).strings = s.strings ∧ (s.updateDegraded).envelope = s.envelope
      ∧ (s.updateDegraded).plant = s.plant ∧ (s.updateDegraded).store = s.store
      ∧ (s.updateDegraded).agreement = s.agreement ∧ (s.updateDegraded).permit = s.permit
      ∧ (s.updateDegraded).siteMode = s.siteMode ∧ (s.updateDegraded).stationCap = s.stationCap
      ∧ (s.updateDegraded).serviceCap = s.serviceCap ∧ (s.updateDegraded).config = s.config
      ∧ (s.updateDegraded).choices = s.choices ∧ (s.updateDegraded).pending = s.pending := by
  simp only [State.updateDegraded]
  split <;> simp

/-- What `State.orderFreeze` changes: store, links; the rest of the state is as it was. -/
@[simp] theorem State.orderFreeze_frame (s : State) (decided : State) (old : FireStage) (new : FireStage) :
    (s.orderFreeze decided old new).phase = s.phase ∧ (s.orderFreeze decided old new).resetLine = s.resetLine
      ∧ (s.orderFreeze decided old new).resetKind = s.resetKind
      ∧ (s.orderFreeze decided old new).siteResetDue = s.siteResetDue
      ∧ (s.orderFreeze decided old new).uptime = s.uptime ∧ (s.orderFreeze decided old new).clocks = s.clocks
      ∧ (s.orderFreeze decided old new).chains = s.chains
      ∧ (s.orderFreeze decided old new).supervision = s.supervision
      ∧ (s.orderFreeze decided old new).strings = s.strings ∧ (s.orderFreeze decided old new).envelope = s.envelope
      ∧ (s.orderFreeze decided old new).plant = s.plant ∧ (s.orderFreeze decided old new).fire = s.fire
      ∧ (s.orderFreeze decided old new).agreement = s.agreement ∧ (s.orderFreeze decided old new).permit = s.permit
      ∧ (s.orderFreeze decided old new).siteMode = s.siteMode
      ∧ (s.orderFreeze decided old new).stationCap = s.stationCap
      ∧ (s.orderFreeze decided old new).serviceCap = s.serviceCap
      ∧ (s.orderFreeze decided old new).config = s.config ∧ (s.orderFreeze decided old new).choices = s.choices
      ∧ (s.orderFreeze decided old new).pending = s.pending := by
  simp only [State.orderFreeze]
  repeat' split
  all_goals simp

/-- What `State.postStage` changes: links; the rest of the state is as it was. -/
@[simp] theorem State.postStage_frame (s : State) (old : FireStage) :
    (s.postStage old).phase = s.phase ∧ (s.postStage old).resetLine = s.resetLine
      ∧ (s.postStage old).resetKind = s.resetKind ∧ (s.postStage old).siteResetDue = s.siteResetDue
      ∧ (s.postStage old).uptime = s.uptime ∧ (s.postStage old).clocks = s.clocks
      ∧ (s.postStage old).chains = s.chains ∧ (s.postStage old).supervision = s.supervision
      ∧ (s.postStage old).strings = s.strings ∧ (s.postStage old).envelope = s.envelope
      ∧ (s.postStage old).plant = s.plant ∧ (s.postStage old).fire = s.fire ∧ (s.postStage old).store = s.store
      ∧ (s.postStage old).agreement = s.agreement ∧ (s.postStage old).permit = s.permit
      ∧ (s.postStage old).siteMode = s.siteMode ∧ (s.postStage old).stationCap = s.stationCap
      ∧ (s.postStage old).serviceCap = s.serviceCap ∧ (s.postStage old).config = s.config
      ∧ (s.postStage old).choices = s.choices ∧ (s.postStage old).pending = s.pending := by simp [State.postStage]

/-- What `State.enterStage` changes: fire, store, chains, links; the rest of the state is as it was. -/
@[simp] theorem State.enterStage_frame (s : State) (g : FireStage) :
    (s.enterStage g).phase = s.phase ∧ (s.enterStage g).resetLine = s.resetLine
      ∧ (s.enterStage g).resetKind = s.resetKind ∧ (s.enterStage g).siteResetDue = s.siteResetDue
      ∧ (s.enterStage g).uptime = s.uptime ∧ (s.enterStage g).clocks = s.clocks
      ∧ (s.enterStage g).supervision = s.supervision ∧ (s.enterStage g).strings = s.strings
      ∧ (s.enterStage g).envelope = s.envelope ∧ (s.enterStage g).plant = s.plant
      ∧ (s.enterStage g).agreement = s.agreement ∧ (s.enterStage g).permit = s.permit
      ∧ (s.enterStage g).siteMode = s.siteMode ∧ (s.enterStage g).stationCap = s.stationCap
      ∧ (s.enterStage g).serviceCap = s.serviceCap ∧ (s.enterStage g).config = s.config
      ∧ (s.enterStage g).choices = s.choices ∧ (s.enterStage g).pending = s.pending := by
  simp only [State.enterStage]
  split <;> simp

/-- What `State.judgeClasses` changes: fire; the rest of the state is as it was. -/
@[simp] theorem State.judgeClasses_frame (s : State) (v : FireView) (code : Option Code) :
    (s.judgeClasses v code).phase = s.phase ∧ (s.judgeClasses v code).resetLine = s.resetLine
      ∧ (s.judgeClasses v code).resetKind = s.resetKind ∧ (s.judgeClasses v code).siteResetDue = s.siteResetDue
      ∧ (s.judgeClasses v code).uptime = s.uptime ∧ (s.judgeClasses v code).clocks = s.clocks
      ∧ (s.judgeClasses v code).chains = s.chains ∧ (s.judgeClasses v code).supervision = s.supervision
      ∧ (s.judgeClasses v code).strings = s.strings ∧ (s.judgeClasses v code).envelope = s.envelope
      ∧ (s.judgeClasses v code).plant = s.plant ∧ (s.judgeClasses v code).store = s.store
      ∧ (s.judgeClasses v code).agreement = s.agreement ∧ (s.judgeClasses v code).permit = s.permit
      ∧ (s.judgeClasses v code).links = s.links ∧ (s.judgeClasses v code).siteMode = s.siteMode
      ∧ (s.judgeClasses v code).stationCap = s.stationCap ∧ (s.judgeClasses v code).serviceCap = s.serviceCap
      ∧ (s.judgeClasses v code).config = s.config ∧ (s.judgeClasses v code).choices = s.choices
      ∧ (s.judgeClasses v code).pending = s.pending := by simp [State.judgeClasses]

/-- What `State.judgeQuiet` changes: fire; the rest of the state is as it was. -/
@[simp] theorem State.judgeQuiet_frame (s : State) (v : FireView) :
    (s.judgeQuiet v).phase = s.phase ∧ (s.judgeQuiet v).resetLine = s.resetLine
      ∧ (s.judgeQuiet v).resetKind = s.resetKind ∧ (s.judgeQuiet v).siteResetDue = s.siteResetDue
      ∧ (s.judgeQuiet v).uptime = s.uptime ∧ (s.judgeQuiet v).clocks = s.clocks ∧ (s.judgeQuiet v).chains = s.chains
      ∧ (s.judgeQuiet v).supervision = s.supervision ∧ (s.judgeQuiet v).strings = s.strings
      ∧ (s.judgeQuiet v).envelope = s.envelope ∧ (s.judgeQuiet v).plant = s.plant ∧ (s.judgeQuiet v).store = s.store
      ∧ (s.judgeQuiet v).agreement = s.agreement ∧ (s.judgeQuiet v).permit = s.permit
      ∧ (s.judgeQuiet v).links = s.links ∧ (s.judgeQuiet v).siteMode = s.siteMode
      ∧ (s.judgeQuiet v).stationCap = s.stationCap ∧ (s.judgeQuiet v).serviceCap = s.serviceCap
      ∧ (s.judgeQuiet v).config = s.config ∧ (s.judgeQuiet v).choices = s.choices
      ∧ (s.judgeQuiet v).pending = s.pending := by simp [State.judgeQuiet]

/-- What `State.decidePass` changes: fire, store, chains, links; the rest of the state is as it was. -/
@[simp] theorem State.decidePass_frame (s : State) (v : FireView) (code : Option Code) :
    ((s.decidePass v code).1).phase = s.phase ∧ ((s.decidePass v code).1).resetLine = s.resetLine
      ∧ ((s.decidePass v code).1).resetKind = s.resetKind ∧ ((s.decidePass v code).1).siteResetDue = s.siteResetDue
      ∧ ((s.decidePass v code).1).uptime = s.uptime ∧ ((s.decidePass v code).1).clocks = s.clocks
      ∧ ((s.decidePass v code).1).supervision = s.supervision ∧ ((s.decidePass v code).1).strings = s.strings
      ∧ ((s.decidePass v code).1).envelope = s.envelope ∧ ((s.decidePass v code).1).plant = s.plant
      ∧ ((s.decidePass v code).1).agreement = s.agreement ∧ ((s.decidePass v code).1).permit = s.permit
      ∧ ((s.decidePass v code).1).siteMode = s.siteMode ∧ ((s.decidePass v code).1).stationCap = s.stationCap
      ∧ ((s.decidePass v code).1).serviceCap = s.serviceCap ∧ ((s.decidePass v code).1).config = s.config
      ∧ ((s.decidePass v code).1).choices = s.choices ∧ ((s.decidePass v code).1).pending = s.pending := by
  simp only [State.decidePass]
  split <;> simp

/-- What `State.isolationExpired` changes: fire, links; the rest of the state is as it was. -/
@[simp] theorem State.isolationExpired_frame (s : State) :
    (s.isolationExpired).phase = s.phase ∧ (s.isolationExpired).resetLine = s.resetLine
      ∧ (s.isolationExpired).resetKind = s.resetKind ∧ (s.isolationExpired).siteResetDue = s.siteResetDue
      ∧ (s.isolationExpired).uptime = s.uptime ∧ (s.isolationExpired).clocks = s.clocks
      ∧ (s.isolationExpired).chains = s.chains ∧ (s.isolationExpired).supervision = s.supervision
      ∧ (s.isolationExpired).strings = s.strings ∧ (s.isolationExpired).envelope = s.envelope
      ∧ (s.isolationExpired).plant = s.plant ∧ (s.isolationExpired).store = s.store
      ∧ (s.isolationExpired).agreement = s.agreement ∧ (s.isolationExpired).permit = s.permit
      ∧ (s.isolationExpired).siteMode = s.siteMode ∧ (s.isolationExpired).stationCap = s.stationCap
      ∧ (s.isolationExpired).serviceCap = s.serviceCap ∧ (s.isolationExpired).config = s.config
      ∧ (s.isolationExpired).choices = s.choices ∧ (s.isolationExpired).pending = s.pending := by
  simp only [State.isolationExpired]
  split <;> simp

/-! ## The station links -/

/-- What `State.hear` changes: links; the rest of the state is as it was. -/
@[simp] theorem State.hear_frame (s : State) (l : Link) :
    (s.hear l).phase = s.phase ∧ (s.hear l).resetLine = s.resetLine ∧ (s.hear l).resetKind = s.resetKind
      ∧ (s.hear l).siteResetDue = s.siteResetDue ∧ (s.hear l).uptime = s.uptime ∧ (s.hear l).clocks = s.clocks
      ∧ (s.hear l).chains = s.chains ∧ (s.hear l).supervision = s.supervision ∧ (s.hear l).strings = s.strings
      ∧ (s.hear l).envelope = s.envelope ∧ (s.hear l).plant = s.plant ∧ (s.hear l).fire = s.fire
      ∧ (s.hear l).store = s.store ∧ (s.hear l).agreement = s.agreement ∧ (s.hear l).permit = s.permit
      ∧ (s.hear l).siteMode = s.siteMode ∧ (s.hear l).stationCap = s.stationCap
      ∧ (s.hear l).serviceCap = s.serviceCap ∧ (s.hear l).config = s.config ∧ (s.hear l).choices = s.choices
      ∧ (s.hear l).pending = s.pending := by simp [State.hear]

/-- What `State.reportSilence` changes: agreement, envelope, permit, links, choices, siteMode, serviceCap; the rest of the state is as it was. -/
@[simp] theorem State.reportSilence_frame (s : State) (l : Link) :
    (s.reportSilence l).phase = s.phase ∧ (s.reportSilence l).resetLine = s.resetLine
      ∧ (s.reportSilence l).resetKind = s.resetKind ∧ (s.reportSilence l).siteResetDue = s.siteResetDue
      ∧ (s.reportSilence l).uptime = s.uptime ∧ (s.reportSilence l).clocks = s.clocks
      ∧ (s.reportSilence l).chains = s.chains ∧ (s.reportSilence l).supervision = s.supervision
      ∧ (s.reportSilence l).strings = s.strings ∧ (s.reportSilence l).plant = s.plant
      ∧ (s.reportSilence l).fire = s.fire ∧ (s.reportSilence l).store = s.store
      ∧ (s.reportSilence l).stationCap = s.stationCap ∧ (s.reportSilence l).config = s.config
      ∧ (s.reportSilence l).pending = s.pending := by
  cases l
  · refine State.inAnyOrder_keeps
      (P := fun t => t.phase = s.phase ∧ t.resetLine = s.resetLine ∧ t.resetKind = s.resetKind
          ∧ t.siteResetDue = s.siteResetDue ∧ t.uptime = s.uptime ∧ t.clocks = s.clocks ∧ t.chains = s.chains
          ∧ t.supervision = s.supervision ∧ t.strings = s.strings ∧ t.plant = s.plant ∧ t.fire = s.fire
          ∧ t.store = s.store ∧ t.stationCap = s.stationCap ∧ t.config = s.config ∧ t.pending = s.pending) ?_ ?_ ?_
    · intro t n h
      exact h
    · intro f h t ht
      simp only [List.mem_cons, List.not_mem_nil, or_false] at h
      rcases h with rfl | rfl <;> simpa using ht
    · simp
  · simp [State.reportSilence]
  · simp [State.reportSilence]
  · simp [State.reportSilence]

/-- What `State.fallSilent` changes: agreement, envelope, permit, links, choices, siteMode, serviceCap; the rest of the state is as it was. -/
@[simp] theorem State.fallSilent_frame (s : State) (l : Link) :
    (s.fallSilent l).phase = s.phase ∧ (s.fallSilent l).resetLine = s.resetLine
      ∧ (s.fallSilent l).resetKind = s.resetKind ∧ (s.fallSilent l).siteResetDue = s.siteResetDue
      ∧ (s.fallSilent l).uptime = s.uptime ∧ (s.fallSilent l).clocks = s.clocks ∧ (s.fallSilent l).chains = s.chains
      ∧ (s.fallSilent l).supervision = s.supervision ∧ (s.fallSilent l).strings = s.strings
      ∧ (s.fallSilent l).plant = s.plant ∧ (s.fallSilent l).fire = s.fire ∧ (s.fallSilent l).store = s.store
      ∧ (s.fallSilent l).stationCap = s.stationCap ∧ (s.fallSilent l).config = s.config
      ∧ (s.fallSilent l).pending = s.pending := by simp [State.fallSilent]

/-- What `State.bufferChange` changes: links; the rest of the state is as it was. -/
@[simp] theorem State.bufferChange_frame (s : State) (l : Link) (c : Code) :
    (s.bufferChange l c).phase = s.phase ∧ (s.bufferChange l c).resetLine = s.resetLine
      ∧ (s.bufferChange l c).resetKind = s.resetKind ∧ (s.bufferChange l c).siteResetDue = s.siteResetDue
      ∧ (s.bufferChange l c).uptime = s.uptime ∧ (s.bufferChange l c).clocks = s.clocks
      ∧ (s.bufferChange l c).chains = s.chains ∧ (s.bufferChange l c).supervision = s.supervision
      ∧ (s.bufferChange l c).strings = s.strings ∧ (s.bufferChange l c).envelope = s.envelope
      ∧ (s.bufferChange l c).plant = s.plant ∧ (s.bufferChange l c).fire = s.fire
      ∧ (s.bufferChange l c).store = s.store ∧ (s.bufferChange l c).agreement = s.agreement
      ∧ (s.bufferChange l c).permit = s.permit ∧ (s.bufferChange l c).siteMode = s.siteMode
      ∧ (s.bufferChange l c).stationCap = s.stationCap ∧ (s.bufferChange l c).serviceCap = s.serviceCap
      ∧ (s.bufferChange l c).config = s.config ∧ (s.bufferChange l c).choices = s.choices
      ∧ (s.bufferChange l c).pending = s.pending := by
  simp only [State.bufferChange]
  split <;> simp

/-- What `State.takeChange` changes: envelope, links, plant, siteMode, serviceCap; the rest of the state is as it was. -/
@[simp] theorem State.takeChange_frame (s : State) (l : Link) (c : Code) :
    (s.takeChange l c).phase = s.phase ∧ (s.takeChange l c).resetLine = s.resetLine
      ∧ (s.takeChange l c).resetKind = s.resetKind ∧ (s.takeChange l c).siteResetDue = s.siteResetDue
      ∧ (s.takeChange l c).uptime = s.uptime ∧ (s.takeChange l c).clocks = s.clocks
      ∧ (s.takeChange l c).chains = s.chains ∧ (s.takeChange l c).supervision = s.supervision
      ∧ (s.takeChange l c).strings = s.strings ∧ (s.takeChange l c).fire = s.fire
      ∧ (s.takeChange l c).store = s.store ∧ (s.takeChange l c).agreement = s.agreement
      ∧ (s.takeChange l c).permit = s.permit ∧ (s.takeChange l c).stationCap = s.stationCap
      ∧ (s.takeChange l c).config = s.config ∧ (s.takeChange l c).choices = s.choices
      ∧ (s.takeChange l c).pending = s.pending := by
  simp only [State.takeChange]
  repeat' split
  all_goals simp

/-- What `State.showCode` changes: envelope, links, plant, siteMode, serviceCap; the rest of the state is as it was. -/
@[simp] theorem State.showCode_frame (s : State) (l : Link) (c : Code) :
    (s.showCode l c).phase = s.phase ∧ (s.showCode l c).resetLine = s.resetLine
      ∧ (s.showCode l c).resetKind = s.resetKind ∧ (s.showCode l c).siteResetDue = s.siteResetDue
      ∧ (s.showCode l c).uptime = s.uptime ∧ (s.showCode l c).clocks = s.clocks ∧ (s.showCode l c).chains = s.chains
      ∧ (s.showCode l c).supervision = s.supervision ∧ (s.showCode l c).strings = s.strings
      ∧ (s.showCode l c).fire = s.fire ∧ (s.showCode l c).store = s.store ∧ (s.showCode l c).agreement = s.agreement
      ∧ (s.showCode l c).permit = s.permit ∧ (s.showCode l c).stationCap = s.stationCap
      ∧ (s.showCode l c).config = s.config ∧ (s.showCode l c).choices = s.choices
      ∧ (s.showCode l c).pending = s.pending := by
  simp only [State.showCode]
  split <;> simp

/-- What `State.judgeStatus` changes: envelope, links, plant, siteMode, serviceCap; the rest of the state is as it was. -/
@[simp] theorem State.judgeStatus_frame (s : State) (l : Link) (code : Byte) :
    (s.judgeStatus l code).phase = s.phase ∧ (s.judgeStatus l code).resetLine = s.resetLine
      ∧ (s.judgeStatus l code).resetKind = s.resetKind ∧ (s.judgeStatus l code).siteResetDue = s.siteResetDue
      ∧ (s.judgeStatus l code).uptime = s.uptime ∧ (s.judgeStatus l code).clocks = s.clocks
      ∧ (s.judgeStatus l code).chains = s.chains ∧ (s.judgeStatus l code).supervision = s.supervision
      ∧ (s.judgeStatus l code).strings = s.strings ∧ (s.judgeStatus l code).fire = s.fire
      ∧ (s.judgeStatus l code).store = s.store ∧ (s.judgeStatus l code).agreement = s.agreement
      ∧ (s.judgeStatus l code).permit = s.permit ∧ (s.judgeStatus l code).stationCap = s.stationCap
      ∧ (s.judgeStatus l code).config = s.config ∧ (s.judgeStatus l code).choices = s.choices
      ∧ (s.judgeStatus l code).pending = s.pending := by
  unfold State.judgeStatus
  repeat' split
  all_goals simp

/-- What `State.offerRequest` changes: links, store; the rest of the state is as it was. -/
@[simp] theorem State.offerRequest_frame (s : State) (l : Link) (r : Request) :
    (s.offerRequest l r).phase = s.phase ∧ (s.offerRequest l r).resetLine = s.resetLine
      ∧ (s.offerRequest l r).resetKind = s.resetKind ∧ (s.offerRequest l r).siteResetDue = s.siteResetDue
      ∧ (s.offerRequest l r).uptime = s.uptime ∧ (s.offerRequest l r).clocks = s.clocks
      ∧ (s.offerRequest l r).chains = s.chains ∧ (s.offerRequest l r).supervision = s.supervision
      ∧ (s.offerRequest l r).strings = s.strings ∧ (s.offerRequest l r).envelope = s.envelope
      ∧ (s.offerRequest l r).plant = s.plant ∧ (s.offerRequest l r).fire = s.fire
      ∧ (s.offerRequest l r).agreement = s.agreement ∧ (s.offerRequest l r).permit = s.permit
      ∧ (s.offerRequest l r).siteMode = s.siteMode ∧ (s.offerRequest l r).stationCap = s.stationCap
      ∧ (s.offerRequest l r).serviceCap = s.serviceCap ∧ (s.offerRequest l r).config = s.config
      ∧ (s.offerRequest l r).choices = s.choices ∧ (s.offerRequest l r).pending = s.pending := by
  unfold State.offerRequest
  repeat' split
  all_goals simp

/-- What `State.receiveOne` changes: store, envelope, links, plant, siteMode, serviceCap; the rest of the state is as it was. -/
@[simp] theorem State.receiveOne_frame (s : State) (l : Link) (r : Received) :
    (s.receiveOne l r).phase = s.phase ∧ (s.receiveOne l r).resetLine = s.resetLine
      ∧ (s.receiveOne l r).resetKind = s.resetKind ∧ (s.receiveOne l r).siteResetDue = s.siteResetDue
      ∧ (s.receiveOne l r).uptime = s.uptime ∧ (s.receiveOne l r).clocks = s.clocks
      ∧ (s.receiveOne l r).chains = s.chains ∧ (s.receiveOne l r).supervision = s.supervision
      ∧ (s.receiveOne l r).strings = s.strings ∧ (s.receiveOne l r).fire = s.fire
      ∧ (s.receiveOne l r).agreement = s.agreement ∧ (s.receiveOne l r).permit = s.permit
      ∧ (s.receiveOne l r).stationCap = s.stationCap ∧ (s.receiveOne l r).config = s.config
      ∧ (s.receiveOne l r).choices = s.choices ∧ (s.receiveOne l r).pending = s.pending := by
  unfold State.receiveOne
  split <;> simp

/-! ## The configuration store -/

/-- What `State.modConfig` changes: config; the rest of the state is as it was. -/
@[simp] theorem State.modConfig_frame (s : State) (f : ConfigStore → ConfigStore) :
    (s.modConfig f).phase = s.phase ∧ (s.modConfig f).resetLine = s.resetLine
      ∧ (s.modConfig f).resetKind = s.resetKind ∧ (s.modConfig f).siteResetDue = s.siteResetDue
      ∧ (s.modConfig f).uptime = s.uptime ∧ (s.modConfig f).clocks = s.clocks ∧ (s.modConfig f).chains = s.chains
      ∧ (s.modConfig f).supervision = s.supervision ∧ (s.modConfig f).strings = s.strings
      ∧ (s.modConfig f).envelope = s.envelope ∧ (s.modConfig f).plant = s.plant ∧ (s.modConfig f).fire = s.fire
      ∧ (s.modConfig f).store = s.store ∧ (s.modConfig f).agreement = s.agreement
      ∧ (s.modConfig f).permit = s.permit ∧ (s.modConfig f).links = s.links ∧ (s.modConfig f).siteMode = s.siteMode
      ∧ (s.modConfig f).stationCap = s.stationCap ∧ (s.modConfig f).serviceCap = s.serviceCap
      ∧ (s.modConfig f).choices = s.choices ∧ (s.modConfig f).pending = s.pending := by simp [State.modConfig]

/-- What `State.storeParam` changes: config, chains; the rest of the state is as it was. -/
@[simp] theorem State.storeParam_frame (s : State) (n : Nat) (v : ParamValue) :
    (s.storeParam n v).phase = s.phase ∧ (s.storeParam n v).resetLine = s.resetLine
      ∧ (s.storeParam n v).resetKind = s.resetKind ∧ (s.storeParam n v).siteResetDue = s.siteResetDue
      ∧ (s.storeParam n v).uptime = s.uptime ∧ (s.storeParam n v).clocks = s.clocks
      ∧ (s.storeParam n v).supervision = s.supervision ∧ (s.storeParam n v).strings = s.strings
      ∧ (s.storeParam n v).envelope = s.envelope ∧ (s.storeParam n v).plant = s.plant
      ∧ (s.storeParam n v).fire = s.fire ∧ (s.storeParam n v).store = s.store
      ∧ (s.storeParam n v).agreement = s.agreement ∧ (s.storeParam n v).permit = s.permit
      ∧ (s.storeParam n v).links = s.links ∧ (s.storeParam n v).siteMode = s.siteMode
      ∧ (s.storeParam n v).stationCap = s.stationCap ∧ (s.storeParam n v).serviceCap = s.serviceCap
      ∧ (s.storeParam n v).choices = s.choices ∧ (s.storeParam n v).pending = s.pending := by
  simp only [State.storeParam]
  repeat' split
  all_goals simp

/-- What `State.answerCommit` changes: links; the rest of the state is as it was. -/
@[simp] theorem State.answerCommit_frame (s : State) :
    (s.answerCommit).phase = s.phase ∧ (s.answerCommit).resetLine = s.resetLine
      ∧ (s.answerCommit).resetKind = s.resetKind ∧ (s.answerCommit).siteResetDue = s.siteResetDue
      ∧ (s.answerCommit).uptime = s.uptime ∧ (s.answerCommit).clocks = s.clocks ∧ (s.answerCommit).chains = s.chains
      ∧ (s.answerCommit).supervision = s.supervision ∧ (s.answerCommit).strings = s.strings
      ∧ (s.answerCommit).envelope = s.envelope ∧ (s.answerCommit).plant = s.plant ∧ (s.answerCommit).fire = s.fire
      ∧ (s.answerCommit).store = s.store ∧ (s.answerCommit).agreement = s.agreement
      ∧ (s.answerCommit).permit = s.permit ∧ (s.answerCommit).siteMode = s.siteMode
      ∧ (s.answerCommit).stationCap = s.stationCap ∧ (s.answerCommit).serviceCap = s.serviceCap
      ∧ (s.answerCommit).config = s.config ∧ (s.answerCommit).choices = s.choices
      ∧ (s.answerCommit).pending = s.pending := by
  unfold State.answerCommit
  repeat' split
  all_goals simp

/-- What `State.completeWrite` changes: config, envelope, links; the rest of the state is as it was. -/
@[simp] theorem State.completeWrite_frame (s : State) (p : Params) :
    (s.completeWrite p).phase = s.phase ∧ (s.completeWrite p).resetLine = s.resetLine
      ∧ (s.completeWrite p).resetKind = s.resetKind ∧ (s.completeWrite p).siteResetDue = s.siteResetDue
      ∧ (s.completeWrite p).uptime = s.uptime ∧ (s.completeWrite p).clocks = s.clocks
      ∧ (s.completeWrite p).chains = s.chains ∧ (s.completeWrite p).supervision = s.supervision
      ∧ (s.completeWrite p).strings = s.strings ∧ (s.completeWrite p).plant = s.plant
      ∧ (s.completeWrite p).fire = s.fire ∧ (s.completeWrite p).store = s.store
      ∧ (s.completeWrite p).agreement = s.agreement ∧ (s.completeWrite p).permit = s.permit
      ∧ (s.completeWrite p).siteMode = s.siteMode ∧ (s.completeWrite p).stationCap = s.stationCap
      ∧ (s.completeWrite p).serviceCap = s.serviceCap ∧ (s.completeWrite p).choices = s.choices
      ∧ (s.completeWrite p).pending = s.pending := by
  simp only [State.completeWrite]
  split <;> simp

/-- What `State.firstDue` changes: chains, supervision, links; the rest of the state is as it was. -/
@[simp] theorem State.firstDue_frame (s : State) (c : Str) :
    (s.firstDue c).phase = s.phase ∧ (s.firstDue c).resetLine = s.resetLine ∧ (s.firstDue c).resetKind = s.resetKind
      ∧ (s.firstDue c).siteResetDue = s.siteResetDue ∧ (s.firstDue c).uptime = s.uptime
      ∧ (s.firstDue c).clocks = s.clocks ∧ (s.firstDue c).strings = s.strings ∧ (s.firstDue c).envelope = s.envelope
      ∧ (s.firstDue c).plant = s.plant ∧ (s.firstDue c).fire = s.fire ∧ (s.firstDue c).store = s.store
      ∧ (s.firstDue c).agreement = s.agreement ∧ (s.firstDue c).permit = s.permit
      ∧ (s.firstDue c).siteMode = s.siteMode ∧ (s.firstDue c).stationCap = s.stationCap
      ∧ (s.firstDue c).serviceCap = s.serviceCap ∧ (s.firstDue c).config = s.config
      ∧ (s.firstDue c).choices = s.choices ∧ (s.firstDue c).pending = s.pending := by simp [State.firstDue]

/-- What `State.reportFault` changes: envelope, links; the rest of the state is as it was. -/
@[simp] theorem State.reportFault_frame (s : State) :
    (s.reportFault).phase = s.phase ∧ (s.reportFault).resetLine = s.resetLine
      ∧ (s.reportFault).resetKind = s.resetKind ∧ (s.reportFault).siteResetDue = s.siteResetDue
      ∧ (s.reportFault).uptime = s.uptime ∧ (s.reportFault).clocks = s.clocks ∧ (s.reportFault).chains = s.chains
      ∧ (s.reportFault).supervision = s.supervision ∧ (s.reportFault).strings = s.strings
      ∧ (s.reportFault).plant = s.plant ∧ (s.reportFault).fire = s.fire ∧ (s.reportFault).store = s.store
      ∧ (s.reportFault).agreement = s.agreement ∧ (s.reportFault).permit = s.permit
      ∧ (s.reportFault).siteMode = s.siteMode ∧ (s.reportFault).stationCap = s.stationCap
      ∧ (s.reportFault).serviceCap = s.serviceCap ∧ (s.reportFault).config = s.config
      ∧ (s.reportFault).choices = s.choices ∧ (s.reportFault).pending = s.pending := by
  unfold State.reportFault
  repeat' split
  all_goals simp

/-- What `State.noteSiteCode` changes: links; the rest of the state is as it was. -/
@[simp] theorem State.noteSiteCode_frame (s : State) :
    (s.noteSiteCode).phase = s.phase ∧ (s.noteSiteCode).resetLine = s.resetLine
      ∧ (s.noteSiteCode).resetKind = s.resetKind ∧ (s.noteSiteCode).siteResetDue = s.siteResetDue
      ∧ (s.noteSiteCode).uptime = s.uptime ∧ (s.noteSiteCode).clocks = s.clocks ∧ (s.noteSiteCode).chains = s.chains
      ∧ (s.noteSiteCode).supervision = s.supervision ∧ (s.noteSiteCode).strings = s.strings
      ∧ (s.noteSiteCode).envelope = s.envelope ∧ (s.noteSiteCode).plant = s.plant ∧ (s.noteSiteCode).fire = s.fire
      ∧ (s.noteSiteCode).store = s.store ∧ (s.noteSiteCode).agreement = s.agreement
      ∧ (s.noteSiteCode).permit = s.permit ∧ (s.noteSiteCode).siteMode = s.siteMode
      ∧ (s.noteSiteCode).stationCap = s.stationCap ∧ (s.noteSiteCode).serviceCap = s.serviceCap
      ∧ (s.noteSiteCode).config = s.config ∧ (s.noteSiteCode).choices = s.choices
      ∧ (s.noteSiteCode).pending = s.pending := by simp [State.noteSiteCode]

/-- What `State.ready` changes: phase, uptime, clocks, chains, strings, plant, links; the rest of the state is as it was. -/
@[simp] theorem State.ready_frame (s : State) :
    (s.ready).resetLine = s.resetLine ∧ (s.ready).resetKind = s.resetKind ∧ (s.ready).siteResetDue = s.siteResetDue
      ∧ (s.ready).supervision = s.supervision ∧ (s.ready).envelope = s.envelope ∧ (s.ready).fire = s.fire
      ∧ (s.ready).store = s.store ∧ (s.ready).agreement = s.agreement ∧ (s.ready).permit = s.permit
      ∧ (s.ready).siteMode = s.siteMode ∧ (s.ready).stationCap = s.stationCap ∧ (s.ready).serviceCap = s.serviceCap
      ∧ (s.ready).config = s.config ∧ (s.ready).choices = s.choices
      ∧ (s.ready).pending = s.pending := by simp [State.ready]

/-! ## What the receivers of a fire pass leave (R113) -/

/-- No effect that a pass hands on touches the fire unit. -/
theorem State.stageEffects_fire (s : State) (old : FireStage) :
    ∀ e ∈ s.stageEffects old, ∀ t : State, (e.2 t).fire = t.fire := by
  intro e he t
  simp only [State.stageEffects, State.fsEffect, State.forceEffect, State.tripEffect, List.mem_append, List.mem_singleton]
    at he
  rcases he with (rfl | he) | rfl
  · simp
  · split at he
    · simp only [List.mem_append] at he
      rcases he with (he | he) | he <;> split at he <;> simp at he <;> subst he <;> simp
    · simp at he
  · simp

/-- One pass leaves the fire unit as its decision does. -/
theorem State.onePass_fire (s : State) (v : FireView) (code : Option Code) :
    (s.onePass v code).fire = (s.decidePass v code).1.fire := by
  have h : ∀ e ∈ (s.decidePass v code).2, ∀ t : State, (e.2 t).fire = t.fire := by
    simp only [State.decidePass]
    split
    · exact State.stageEffects_fire _ _
    · split <;> simp [State.fsEffect]
  refine State.inAnyOrder_keeps (P := fun t => t.fire = (s.decidePass v code).1.fire) (fun t n ht => ht) ?_ rfl
  intro f hf t ht
  obtain ⟨e, he, rfl⟩ := List.mem_map.1 hf
  exact (h e he t).trans ht

/-- An evaluation with no PNL code waiting leaves the fire unit as its one decision does. -/
theorem State.passes_fire {s : State} (h1 : s.links.pnl.firstChange = none) (h2 : s.links.pnl.latestChange = none) :
    s.passes.fire = ((s.modLink .pnl LinkState.emptyBuffer).decidePass
      (s.modLink .pnl LinkState.emptyBuffer).fireView none).1.fire := by
  simp only [State.passes, h1, h2, State.onePass_fire]

end Sys2Proof.Machine
end

