-- ==== Sys2Proof/Laws/Agreement.lean ====
section
/-! SUPPORT. What a computation of GA leaves, said once: the segment in force, the GA row and the GA fields. -/

namespace Sys2Proof.Machine

/-- R138: the segment in force: the one that starts last at or before the minute, or the last of the list where the minute is
before every start. -/
theorem segmentAt_inForce {l before after : List Segment} {g : Segment} {n : Nat} (h : l = before ++ g :: after)
    (hg : (g.start ≤ n ∧ ∀ h ∈ after, n < h.start) ∨ (after = [] ∧ ∀ h ∈ l, n < h.start)) :
    segmentAt l n = some g := by
  subst h
  rcases hg with ⟨hg, ha⟩ | ⟨rfl, hl⟩
  · have e : after.filter (fun g => decide (g.start ≤ n)) = [] := by simpa [List.filter_eq_nil_iff] using ha
    simp [segmentAt, List.filter_append, hg, e]
  · have e : (before ++ [g]).filter (fun g => decide (g.start ≤ n)) = [] := by
      simp only [List.filter_eq_nil_iff, decide_eq_true_eq, Nat.not_le]
      exact hl
    simp only [segmentAt, e, List.getLast?_nil, List.getLast?_concat]

/-- R65: a publication leaves the limit contribution table as it stands. -/
@[simp] theorem State.publish_table (s : State) (limits : Row) :
    (s.publish limits).envelope.table = s.envelope.table := by
  unfold State.publish
  split <;> rfl

/-- R65: an update of the limit contribution table stores what it brings. -/
@[simp] theorem State.updateTable_table (s : State) (f : LimitTable → LimitTable) :
    (s.updateTable f).envelope.table = f s.envelope.table := State.publish_table ..

/-- R140, R141: what a computation of GA changes, beside the envelope and the links: the GA fields of the agreement. -/
theorem State.computeGa_agreement (s : State) :
    s.computeGa.agreement = { s.agreement with
      basisImport := s.powerBasis.1
      basisExport := s.powerBasis.2
      bus := some s.busVoltage
      countUsed := some s.joinedCount
      gaCharge := perString s.powerBasis.1 s.busVoltage.1 s.joinedCount
      gaDischarge := perString s.powerBasis.2 s.busVoltage.1 s.joinedCount } := by
  simp [State.computeGa, State.modAgreement]

/-- R141: a computation of GA delivers the four GA entries and no other. -/
theorem State.computeGa_table (s : State) :
    s.computeGa.envelope.table = { s.envelope.table with
      ga := .both (perString s.powerBasis.1 s.busVoltage.1 s.joinedCount)
        (perString s.powerBasis.2 s.busVoltage.1 s.joinedCount) } := by
  simp [State.computeGa, State.modAgreement, State.updateGa]

/-- R140, R141: after a computation the GA fields and the GA row are those of the state it leaves. -/
theorem State.computeGa_computed (s : State) : GaComputed s.computeGa := by
  have hk : s.computeGa.chains = s.chains := by simp
  have hn : s.computeGa.joinedCount = s.joinedCount := by simp [State.joinedCount]
  have hp : s.computeGa.params = s.params := by simp [State.params]
  constructor <;> simp only [s.computeGa_agreement, s.computeGa_table, hn, hp, State.chain, hk]
  case lapsed =>
    intro h
    simp [State.powerBasis, h]
  case unresolved =>
    intro h h'
    cases e : s.agreement.state <;> simp_all [State.powerBasis]
  case resolved =>
    intro x h hx hf
    have e : s.segmentInForce = none := by
      unfold State.segmentInForce
      split
      · next k o hk ho =>
        rcases hf with hf | hf
        · simp_all
        · simp [hf o ho, segmentAt]
      · rfl
    simp [State.powerBasis, h, hx, e]
  case scheduled =>
    intro x k o before g after h hx hk ho hl hg
    simp [State.powerBasis, h, hx, State.segmentInForce, hk, ho, segmentAt_inForce hl hg]
  case share =>
    intro v source h
    have e : s.busVoltage = (v, source) := h ▸ rfl
    simp [e, perString]

end Sys2Proof.Machine
end

