-- ==== Sys2Proof/Laws/Chains.lean ====
section
/-! SUPPORT. What the end of a transaction with a fitted module leads to, said once: State.endTransaction_moduleEnd. -/

namespace Sys2Proof.Machine

/-- The state once the outcome of a transaction with a fitted module has been applied. -/
def State.outcomeApplied (s : State) (c : Str) (u : ChainUnit) (r : Option Reply) : State :=
  ((s.modChain c fun k => { k with inFlight := none }).countMiss c (classify u r)).applyOutcome c u r

/-- Answering a waiting list, seen from a link. -/
theorem State.answerWaiters_link (s : State) (waiters : List Waiter) (code : AnswerCode) (content : List Item) (l : Link) :
    (s.answerWaiters waiters code content).link l = { s.link l with
      out := (s.link l).out ++ (waiters.filter fun w => w.link = l).map fun w =>
        ⟨answerKind 3, w.seq, code, content, false⟩ } := by
  unfold State.answerWaiters
  induction waiters generalizing s with
  | nil => simp
  | cons w rest ih =>
    rw [List.foldl_cons, ih]
    by_cases h : w.link = l
    · subst h
      simp [State.answer, State.modLink, State.link]
    · have h' : ¬ l = w.link := fun e => h e.symm
      simp [State.answer, State.modLink, State.link, PerLink.get_mod, h, h']

/-- Answering a waiting list changes the links alone. -/
theorem State.answerWaiters_eq (s : State) (waiters : List Waiter) (code : AnswerCode) (content : List Item) :
    s.answerWaiters waiters code content = { s with links := (s.answerWaiters waiters code content).links } := by
  unfold State.answerWaiters
  induction waiters generalizing s with
  | nil => rfl
  | cons w rest ih =>
    rw [List.foldl_cons, ih]
    rfl

/-- R11: the unit after a module. -/
theorem Chain.after_module (k : Chain) (a : Addr) :
    (∀ h : a.val + 1 < 12, a.number < k.range.last → k.after (.module a) = some (.module ⟨a.val + 1, h⟩))
      ∧ (k.range.last ≤ a.number ∨ a.val + 1 = 12 → k.after (.module a) = none) := by
  refine ⟨fun h hl => by simp [Chain.after, h, hl], fun h => ?_⟩
  by_cases hl : a.number < k.range.last
  · have : ¬ a.val + 1 < 12 := by omega
    simp [Chain.after, hl, this]
  · simp [Chain.after, hl]

/-- R11, R13: a cycle complete and, where its time has come, the next cycle due. -/
theorem State.completeCycle_cases (s : State) (c : Str) (v : State)
    (hv : v = State.cycleComplete { s with
      chains := s.chains.mod c fun k => { k with cycle := .waiting, nextUnit := .head, firstDone := true } } c) :
    v.uptime = s.uptime
      ∧ ((∀ d, (s.chain c).nextDue = some d → s.uptime < d) → s.completeCycle c = v)
      ∧ (∀ d, (s.chain c).nextDue = some d → d ≤ s.uptime → s.completeCycle c = v.dueMoment c) := by
  have hu : v.uptime = s.uptime := by rw [hv]; simp
  have hc : v.chains = s.chains.mod c fun k => { k with cycle := .waiting, nextUnit := .head, firstDone := true } := by
    rw [hv]; simp
  have hn : (v.chain c).nextDue = (s.chain c).nextDue := by simp [State.chain, hc]
  have hd : s.completeCycle c = if (v.chain c).nextDue.any (fun d => d ≤ v.uptime) then v.dueMoment c else v := by
    rw [hv]; rfl
  refine ⟨hu, fun h => ?_, fun d h1 h2 => ?_⟩ <;> rw [hd, hn, hu]
  · cases e : (s.chain c).nextDue with
    | none => rfl
    | some d => simp [h d e]
  · simp [h1, h2]

/-- R1, R11, R13, R15, R16: the end of a transaction with a fitted module. -/
theorem State.endTransaction_moduleEnd {s : State} {c : Str} {a : Addr} {x : Transaction} (r : Option Reply)
    (hx : x.addressed = .module a) (hf : (s.chain c).fitted a = true) :
    ModuleEnd c a x (classify (.module a) r) (s.outcomeApplied c (.module a) r) (s.endTransaction c x r) := by
  have hs : (s.chain c).stillFitted (.module a) = true := hf
  have he : s.concludeTransaction c x r = match x.kind with
      | .probe => (s.outcomeApplied c (.module a) r).answerProbe c a x.waiters (classify (.module a) r) true
      | .scan => (s.outcomeApplied c (.module a) r).advance c (.module a) := by
    unfold State.concludeTransaction
    rw [hx, hs]
    cases x.kind <;> rfl
  unfold State.endTransaction
  rw [he]
  generalize s.outcomeApplied c (.module a) r = u
  refine ⟨fun hk => ?_, fun h hk hl => ?_, fun v hk hl hv => ?_⟩
  · rw [hk]
    refine ⟨fun l => State.answerWaiters_link u _ _ _ l, ?_⟩
    show State.modChain (u.answerWaiters x.waiters .done _) c
      (fun k => k.arbitrate (u.answerWaiters x.waiters .done _).uptime)
        = { u with chains := _, links := (u.answerWaiters x.waiters .done _).links }
    generalize hw : u.answerWaiters x.waiters .done _ = w
    have hq : w = { u with links := w.links } := hw ▸ State.answerWaiters_eq u _ _ _
    rw [hq]
    rfl
  · rw [hk]
    show State.modChain (u.advance c _) c _ = _
    unfold State.advance
    rw [(Chain.after_module (u.chain c) a).1 h hl]
    cases c <;> rfl
  · obtain ⟨hu, h1, h2⟩ := State.completeCycle_cases u c v hv
    rw [hk]
    have ha : u.advance c (.module a) = u.completeCycle c := by
      unfold State.advance
      rw [(Chain.after_module (u.chain c) a).2 hl]
    refine ⟨fun hd => ?_, fun d hd hle => ?_⟩
    · show State.modChain (u.advance c _) c _ = _
      rw [ha, h1 hd]
      simp only [State.modChain, ← hu]
    · show State.modChain (u.advance c _) c _ = _
      rw [ha, h2 d hd hle]
      simp only [State.modChain, State.dueMoment_frame, hu]

end Sys2Proof.Machine
end

