-- ==== Sys2Proof/Laws/Fire.lean ====
section
/-! SUPPORT. What one pass of a fire evaluation makes of the fire unit, said once: State.decidePass_pass. -/

namespace Sys2Proof.Machine

/-! ## The pass as a function of the fire unit -/

/-- R97, R101, R102, R111: the fire unit with the code, the classes and DEGRADED of a pass. -/
def FireUnit.tally (f : FireUnit) (p : Params) (v : FireView) (silent : Bool) (now : Nat) (code : Option Code) :
    FireUnit :=
  let a := FireUnit.updateClasses { f with panelCode := match code with
    | some k => some k
    | none => f.panelCode } p v now
  { a with degraded := decide ((a.outOfService p silent).length ≥ 2), counted := a.outOfService p silent }

/-- R105: and with quiet since as the pass updates it. -/
def FireUnit.judged (f : FireUnit) (p : Params) (v : FireView) (silent : Bool) (now : Nat) (code : Option Code) :
    FireUnit :=
  (f.tally p v silent now code).updateQuiet p v now

/-- R104: and with its change of stage. -/
def FireUnit.settle (f : FireUnit) (p : Params) (v : FireView) (silent : Bool) (now : Nat) (code : Option Code) :
    FireUnit :=
  let j := f.judged p v silent now code
  let g := j.nextStage p v now code
  if g = j.stage then j else j.enter g now

/-- DEGRADED updated, seen from the fire unit. -/
theorem State.updateDegraded_fire (t : State) :
    t.updateDegraded.fire =
        { t.fire with degraded := decide (t.outOfService.length ≥ 2), counted := t.outOfService }
      ∧ t.updateDegraded.params = t.params ∧ t.updateDegraded.uptime = t.uptime := by
  unfold State.updateDegraded
  dsimp only
  split <;> exact ⟨rfl, rfl, rfl⟩

/-- A change of stage, seen from the fire unit. -/
theorem State.enterStage_fire (t : State) (g : FireStage) : (t.enterStage g).fire = t.fire.enter g t.uptime := by
  unfold State.enterStage State.orderFreeze State.emptyAllSets
  dsimp only
  split <;> split <;> first | rfl | (split <;> rfl)

/-- The decision of a pass, seen from the fire unit. -/
theorem State.decidePass_fire (s : State) (v : FireView) (code : Option Code) :
    (s.decidePass v code).1.fire = s.fire.settle s.params v s.links.pnl.silent s.uptime code := by
  obtain ⟨u1, u2, u3⟩ := State.updateDegraded_fire (s.judgeClasses v code)
  have h1 : (((s.judgeClasses v code).updateDegraded).judgeQuiet v).fire
      = s.fire.judged s.params v s.links.pnl.silent s.uptime code := by
    show ((s.judgeClasses v code).updateDegraded.fire).updateQuiet (s.judgeClasses v code).updateDegraded.params v
      (s.judgeClasses v code).updateDegraded.uptime = _
    rw [u1, u2, u3]
    rfl
  have h2 : (((s.judgeClasses v code).updateDegraded).judgeQuiet v).params = s.params := u2
  have h3 : (((s.judgeClasses v code).updateDegraded).judgeQuiet v).uptime = s.uptime := u3
  simp only [State.decidePass, FireUnit.settle, h1, h2, h3]
  by_cases hne : (s.fire.judged s.params v s.links.pnl.silent s.uptime code).nextStage s.params v s.uptime code
      = (s.fire.judged s.params v s.links.pnl.silent s.uptime code).stage
  · rw [if_neg (by simpa using hne), if_pos hne]
    exact h1
  · rw [if_pos hne, if_neg hne]
    show (State.enterStage _ _).fire = _
    rw [State.enterStage_fire, h1, h3]

/-! ## The parts of a pass -/

/-- The classes active, as a set. -/
theorem FireUnit.mem_activeClasses (f : FireUnit) (k : FireClass) :
    k ∈ f.activeClasses ↔ (f.criterion k).active = true := by
  simp only [FireUnit.activeClasses, fireClasses, List.mem_filter]
  cases k <;> simp

/-- R103: the classes recent, as a set. -/
theorem FireUnit.mem_recentClasses (f : FireUnit) (now : Nat) (k : FireClass) :
    k ∈ f.recentClasses now ↔
      (f.criterion k).active = true ∨ ∃ x, (f.criterion k).cleared = some x ∧ now < x + 120000 := by
  have h : k ∈ f.recentClasses now ↔ (f.criterion k).recent now = true := by
    simp only [FireUnit.recentClasses, fireClasses, List.mem_filter]
    cases k <;> simp
  rw [h]
  cases h : (f.criterion k).cleared <;> simp [Criterion.recent, h, confirmationWindow]
  exact or_congr Iff.rfl decide_eq_true_iff

/-- The classes that a test picks are each listed once. -/
theorem fireClasses_filter_nodup (q : FireClass → Bool) : (fireClasses.filter q).Nodup :=
  List.Nodup.filter q (by decide)

/-- R100: a channel at or above a threshold. -/
theorem GasChannel.atLeast_iff (g : GasChannel) (x : Int) :
    g.atLeast x = true ↔ ∃ ppm : Nat, g = .valid ppm ∧ x ≤ ppm := by
  cases g <;> simp [GasChannel.atLeast]

/-- R102: a class updated. -/
theorem Criterion.update_cases (k : Criterion) (a : Bool) (now : Nat) :
    (k.update a now).active = a ∧ k.update a now =
      if (k.update a now).active = k.active then k
      else if (k.update a now).active then { k with active := true, activated := some now }
      else { k with active := false, cleared := some now } := by
  cases k
  cases a <;> simp [Criterion.update] <;> split <;> simp_all

section
variable (f : FireUnit) (p : Params) (v : FireView) (s : Bool) (now : Nat) (code : Option Code)

/-- What quiet since does not touch is after the update of quiet since as before it. -/
theorem FireUnit.judged_same {α : Type} (F : FireUnit → α) (hF : ∀ f q, F { f with quietSince := q } = F f) :
    F (f.judged p v s now code) = F (f.tally p v s now code) := by
  simp only [FireUnit.judged, FireUnit.updateQuiet]
  split <;> first | rfl | rw [← hF]

/-- What neither quiet since nor a change of stage touches is after a pass as its tally left it. -/
theorem FireUnit.settle_same {α : Type} (F : FireUnit → α) (hE : ∀ f g now, F (FireUnit.enter f g now) = F f)
    (hF : ∀ f q, F { f with quietSince := q } = F f) :
    F (f.settle p v s now code) = F (f.tally p v s now code) := by
  rw [← f.judged_same p v s now code F hF]
  simp only [FireUnit.settle]
  split <;> simp [hE]

/-- R111: the items counted. -/
theorem FireUnit.mem_outOfService (g : FireUnit) (i : DetectionItem) :
    i ∈ g.outOfService p s ↔ (match i with
      | .loop n => ∃ j : Fin 8, n = j.val + 1 ∧ p.loopTypes[j] ≠ .unused
          ∧ ((g.loops[j]).state = .opened ∨ (g.loops[j]).state = .short)
      | .gas n => (n = 1 ∧ g.gas1 = .fault) ∨ (n = 2 ∧ g.gas2 = .fault)
      | .panelLink => g.panelCode = some .panelFault ∨ s = true) := by
  have hu : ∀ y : LoopType, y.used = true ↔ y ≠ .unused := by intro y; cases y <;> simp [LoopType.used]
  have hb : ∀ y : LoopState, y.broken = true ↔ y = .opened ∨ y = .short := by
    intro y; cases y <;> simp [LoopState.broken]
  unfold FireUnit.outOfService FireUnit.lostLoops
  cases i with
  | loop n =>
    simp only [List.mem_append, List.mem_filterMap, List.mem_finRange, true_and, Option.ite_none_right_eq_some,
      Option.some.injEq, Bool.and_eq_true, hu, hb, DetectionItem.loop.injEq]
    constructor
    · rintro (((⟨j, ⟨h1, h2⟩, h3⟩ | h) | h) | h)
      · exact ⟨j, h3.symm, h1, h2⟩
      all_goals split at h <;> simp at h
    · rintro ⟨j, h3, h1, h2⟩
      exact .inl (.inl (.inl ⟨j, ⟨h1, h2⟩, h3.symm⟩))
  | gas n =>
    simp only [List.mem_append, List.mem_filterMap, List.mem_finRange, Option.ite_none_right_eq_some,
      Option.some.injEq, reduceCtorEq, and_false, exists_false, false_or]
    constructor
    · rintro ((h | h) | h) <;> split at h <;> simp_all
    · rintro (⟨rfl, h⟩ | ⟨rfl, h⟩) <;> simp [h]
  | panelLink =>
    simp only [List.mem_append, List.mem_filterMap, List.mem_finRange, Option.ite_none_right_eq_some,
      Option.some.injEq, reduceCtorEq, and_false, exists_false, false_or]
    constructor
    · rintro ((h | h) | h) <;> split at h <;> simp_all
    · intro h; right; simp [h]

/-- R111: no item is counted twice. -/
theorem FireUnit.outOfService_nodup (g : FireUnit) : (g.outOfService p s).Nodup := by
  have h1 : (g.lostLoops p).Nodup := by
    apply List.Nodup.filterMap _ (List.nodup_finRange 8)
    intro a b x ha hb
    simp only [Option.ite_none_right_eq_some, Option.some.injEq, Option.mem_def] at ha hb
    have h := ha.2.trans hb.2.symm
    simp only [DetectionItem.loop.injEq, Nat.add_right_cancel_iff] at h
    exact Fin.ext h
  have h2 : ∀ a ∈ g.lostLoops p, ∃ n, a = .loop n := by
    intro a ha
    simp only [FireUnit.lostLoops, List.mem_filterMap, Option.ite_none_right_eq_some, Option.some.injEq] at ha
    obtain ⟨j, -, -, h⟩ := ha
    exact ⟨_, h.symm⟩
  unfold FireUnit.outOfService
  rw [List.nodup_append, List.nodup_append, List.nodup_append]
  refine ⟨⟨⟨h1, by split <;> simp, ?_⟩, by split <;> simp, ?_⟩, by split <;> simp, ?_⟩
  all_goals
    intro a ha b hb e
    subst e
    split at hb <;> simp at hb
    subst hb
  · obtain ⟨n, h⟩ := h2 _ ha
    simp at h
  · rcases List.mem_append.1 ha with ha | ha
    · obtain ⟨n, h⟩ := h2 _ ha
      simp at h
    · split at ha <;> simp at ha
  · rcases List.mem_append.1 ha with ha | ha
    · rcases List.mem_append.1 ha with ha | ha
      · obtain ⟨n, h⟩ := h2 _ ha
        simp at h
      · split at ha <;> simp at ha
    · split at ha <;> simp at ha

/-! ## A pass -/

/-- R103 to R105, R110: the stage clause of a pass. -/
theorem FireUnit.settle_stage :
    ∀ (condition quiet reset : Prop) (active recent : List FireClass),
    (condition ↔ (∃ ppm : Nat, (f.gas1 = .valid ppm ∨ f.gas2 = .valid ppm) ∧ p.gasLow ≤ ppm) ∨ v.anyRise = true
      ∨ (f.tally p v s now code).panelCode = some .ventRequest) →
    (quiet ↔ ∃ x, f.quietSince = some x ∧ x + 30000 ≤ now) →
    active.Perm (f.tally p v s now code).activeClasses → recent.Perm ((f.tally p v s now code).recentClasses now) →
    (reset ↔ code = some .resetRequest ∧ recent = []) → ∀ g, g = f.settle p v s now code →
    (f.stage.fire = false → 2 ≤ recent.length ∨ code = some .suppressionReleased → g.stage = .confirmed)
    ∧ (recent.length < 2 → code ≠ some .suppressionReleased →
      (f.stage = .normal ∨ f.stage = .preAlert → active ≠ [] → g.stage = .alert)
      ∧ (f.stage = .normal → active = [] → condition → g.stage = .preAlert)
      ∧ (f.stage = .normal → active = [] → ¬condition → g.stage = .normal)
      ∧ (f.stage = .preAlert → active = [] → ¬condition → quiet → g.stage = .normal)
      ∧ (f.stage = .preAlert → active = [] → condition ∨ ¬quiet → g.stage = .preAlert)
      ∧ (f.stage = .alert → active = [] → quiet → condition → g.stage = .preAlert)
      ∧ (f.stage = .alert → active = [] → quiet → ¬condition → g.stage = .normal)
      ∧ (f.stage = .alert → active ≠ [] ∨ ¬quiet → g.stage = .alert))
    ∧ (f.stage = .confirmed → v.isolated = true → g.stage = .isolated)
    ∧ (f.stage = .confirmed → v.isolated = false → reset → g.stage = .normal)
    ∧ (f.stage = .confirmed → v.isolated = false → ¬reset → g.stage = .confirmed)
    ∧ (f.stage = .isolated → v.isolated = false → g.stage = .confirmed)
    ∧ (f.stage = .isolated → v.isolated = true → reset → g.stage = .normal)
    ∧ (f.stage = .isolated → v.isolated = true → ¬reset → g.stage = .isolated)
    ∧ (g.stage = f.stage →
      (f.stage = .preAlert → (condition → g.quietSince = none)
        ∧ (¬condition → g.quietSince = some (f.quietSince.getD now)))
      ∧ (f.stage = .alert → (active ≠ [] → g.quietSince = none)
        ∧ (active = [] → g.quietSince = some (f.quietSince.getD now)))
      ∧ (f.stage ≠ .preAlert → f.stage ≠ .alert → g.quietSince = f.quietSince)) := by
  intro condition quiet reset active recent hc hq ea er hre g rfl
  have hst : (f.settle p v s now code).stage = (f.judged p v s now code).nextStage p v now code := by
    simp only [FireUnit.settle]
    split
    · next h => exact h.symm
    · rfl
  have hJs : (f.judged p v s now code).stage = f.stage := f.judged_same p v s now code FireUnit.stage fun _ _ => rfl
  have hJp : (f.judged p v s now code).panelCode = (f.tally p v s now code).panelCode :=
    f.judged_same p v s now code FireUnit.panelCode fun _ _ => rfl
  have hJa : (f.judged p v s now code).activeClasses = (f.tally p v s now code).activeClasses :=
    f.judged_same p v s now code FireUnit.activeClasses fun _ _ => rfl
  have hJr : (f.judged p v s now code).recentClasses now = (f.tally p v s now code).recentClasses now :=
    f.judged_same p v s now code (fun f => f.recentClasses now) fun _ _ => rfl
  have hJc : (f.judged p v s now code).preAlertCondition p v = (f.tally p v s now code).preAlertCondition p v :=
    f.judged_same p v s now code (fun f => f.preAlertCondition p v) fun _ _ => rfl
  rw [← hJa] at ea
  rw [← hJr] at er
  have ea' : (f.judged p v s now code).activeClasses.isEmpty = true ↔ active = [] := by
    rw [List.isEmpty_iff_length_eq_zero, ← ea.length_eq, List.length_eq_zero_iff]
  have er' : ((f.judged p v s now code).recentClasses now).isEmpty = true ↔ recent = [] := by
    rw [List.isEmpty_iff_length_eq_zero, ← er.length_eq, List.length_eq_zero_iff]
  have hcond : (f.judged p v s now code).preAlertCondition p v = true ↔ condition := by
    rw [hc, ← hJp]
    have g1 : (f.judged p v s now code).gas1 = f.gas1 := f.judged_same p v s now code FireUnit.gas1 fun _ _ => rfl
    have g2 : (f.judged p v s now code).gas2 = f.gas2 := f.judged_same p v s now code FireUnit.gas2 fun _ _ => rfl
    simp only [FireUnit.preAlertCondition, g1, g2, Bool.or_eq_true, GasChannel.atLeast_iff, decide_eq_true_eq]
    grind
  have hreset : (code = some .resetRequest ∧ (f.judged p v s now code).resetConditions now = true) ↔ reset := by
    rw [hre]
    simp only [FireUnit.resetConditions, Bool.and_eq_true, er', decide_eq_true_eq, hJp]
    constructor
    · rintro ⟨h, h2, -⟩
      exact ⟨h, h2⟩
    · rintro ⟨rfl, h2⟩
      exact ⟨rfl, h2, by simp [FireUnit.tally, FireUnit.updateClasses]⟩
  have hqs : (f.judged p v s now code).quietSince = (match f.stage with
      | .preAlert => quietAfter ((f.judged p v s now code).preAlertCondition p v) f.quietSince now
      | .alert => quietAfter (!(f.judged p v s now code).activeClasses.isEmpty) f.quietSince now
      | _ => f.quietSince) := by
    have hTs : (f.tally p v s now code).stage = f.stage := rfl
    rw [hJc, hJa, FireUnit.judged, FireUnit.updateQuiet, hTs]
    cases f.stage <;> rfl
  have hgq : (f.settle p v s now code).stage = f.stage →
      (f.settle p v s now code).quietSince = (f.judged p v s now code).quietSince := by
    intro h
    rw [hst] at h
    simp only [FireUnit.settle]
    rw [if_pos (h.trans hJs.symm)]
  have hquiet : (f.judged p v s now code).quiet now = true ↔
      ∃ y, (f.judged p v s now code).quietSince = some y ∧ y + 30000 ≤ now := by
    unfold FireUnit.quiet
    cases h : (f.judged p v s now code).quietSince <;> simp [quietTime]
    exact decide_eq_true_iff
  rw [hst] at hgq ⊢
  have e1 : (!(f.judged p v s now code).activeClasses.isEmpty) = true ↔ active ≠ [] := by
    rw [Bool.not_eq_true', ← Bool.not_eq_true, ea']
  generalize hns : (f.judged p v s now code).nextStage p v now code = ns at *
  simp only [FireUnit.nextStage, hJs, ← er.length_eq] at hns
  generalize (!(f.judged p v s now code).activeClasses.isEmpty) = A at *
  generalize (f.judged p v s now code).preAlertCondition p v = C at *
  generalize (f.judged p v s now code).quietSince = Q at *
  generalize (f.judged p v s now code).quiet now = qb at *
  generalize (f.judged p v s now code).resetConditions now = R at *
  generalize recent.length = N at *
  generalize (f.settle p v s now code).quietSince = SQ at *
  generalize f.quietSince = FQ at *
  generalize v.isolated = I at *
  clear hst ea' er' hJs hJa hJr hJc hJp hc ea er
  generalize f.stage = F at *
  cases F <;> simp only [reduceCtorEq, FireStage.fire, or_false, or_true, forall_true_left,
    false_implies, implies_true, and_true, true_and, ne_eq, not_true_eq_false, not_false_eq_true] at hns hqs ⊢
  all_goals subst hqs
  all_goals try simp only [Bool.or_eq_true, decide_eq_true_eq, quietAfter] at hns hquiet hgq
  all_goals grind

/-- R97: what a pass makes of the fire unit. -/
theorem FireUnit.settle_pass : FirePass p v s now code f (f.settle p v s now code) := by
  have same := fun {α : Type} (F : FireUnit → α) => f.settle_same p v s now code F
  have hpc := same FireUnit.panelCode (fun _ _ _ => rfl) fun _ _ => rfl
  have hcr : ∀ k, (f.settle p v s now code).criterion k = (f.tally p v s now code).criterion k := fun k =>
    same (fun f => f.criterion k) (fun _ _ _ => by cases k <;> rfl) fun _ _ => by cases k <;> rfl
  have hJs : (f.judged p v s now code).stage = f.stage := f.judged_same p v s now code FireUnit.stage fun _ _ => rfl
  refine
    { samples := ⟨same _ (fun _ _ _ => rfl) fun _ _ => rfl, same _ (fun _ _ _ => rfl) fun _ _ => rfl,
        same _ (fun _ _ _ => rfl) fun _ _ => rfl⟩
      panelCode := hpc, gas := ?_, smoke := ?_, heat := ?_, panel := ?_, noted := ?_, counted := ?_, degraded := ?_
      stage := ?_, changed := ?_, stays := ?_ }
  · rw [same (fun f => f.gas.active) (fun _ _ _ => rfl) fun _ _ => rfl]
    simp only [FireUnit.tally, FireUnit.updateClasses, (Criterion.update_cases _ _ _).1, Bool.or_eq_true,
      GasChannel.atLeast_iff]
    grind
  · rw [same (fun f => f.smoke.active) (fun _ _ _ => rfl) fun _ _ => rfl]
    simp [FireUnit.tally, FireUnit.updateClasses, (Criterion.update_cases _ _ _).1, FireUnit.loopAlarm]
  · rw [same (fun f => f.heat.active) (fun _ _ _ => rfl) fun _ _ => rfl]
    simp [FireUnit.tally, FireUnit.updateClasses, (Criterion.update_cases _ _ _).1, FireUnit.loopAlarm]
  · rw [same (fun f => f.panel.active) (fun _ _ _ => rfl) (fun _ _ => rfl), hpc]
    simp only [FireUnit.tally, FireUnit.updateClasses, (Criterion.update_cases _ _ _).1, decide_eq_true_eq]
  · intro k
    rw [hcr]
    cases k <;> exact (Criterion.update_cases _ _ _).2
  · rw [same FireUnit.counted (fun _ _ _ => rfl) (fun _ _ => rfl), hpc]
    exact ⟨FireUnit.outOfService_nodup p s _, fun i => FireUnit.mem_outOfService p s _ i⟩
  · rw [same FireUnit.degraded (fun _ _ _ => rfl) (fun _ _ => rfl),
      same FireUnit.counted (fun _ _ _ => rfl) (fun _ _ => rfl)]
    simp [FireUnit.tally]
  · intro condition quiet reset active recent hc hq ha had hr hrd hre
    refine f.settle_stage p v s now code condition quiet reset active recent (hpc ▸ hc) hq
      ((List.perm_ext_iff_of_nodup had (fireClasses_filter_nodup _)).2 fun k => ?_)
      ((List.perm_ext_iff_of_nodup hrd (fireClasses_filter_nodup _)).2 fun k => ?_) hre _ rfl
    · show _ ↔ k ∈ FireUnit.activeClasses _
      rw [FireUnit.mem_activeClasses, ha, hcr]
    · show _ ↔ k ∈ FireUnit.recentClasses _ _
      rw [FireUnit.mem_recentClasses, hr, hcr]
  · intro h
    have e : f.settle p v s now code = (f.judged p v s now code).enter (f.settle p v s now code).stage now := by
      simp only [FireUnit.settle] at h ⊢
      split
      · next h2 =>
        rw [if_pos h2] at h
        exact absurd hJs h
      · rfl
    have hi : (f.judged p v s now code).incompleteReported = f.incompleteReported :=
      f.judged_same p v s now code FireUnit.incompleteReported fun _ _ => rfl
    refine ⟨by rw [e]; rfl, by rw [e]; rfl, ?_, ?_⟩ <;> conv_lhs => rw [e]
    · rfl
    · simp only [FireUnit.enter, hi]
  · intro h
    have e : f.settle p v s now code = f.judged p v s now code := by
      simp only [FireUnit.settle] at h ⊢
      split
      · rfl
      · next h2 =>
        rw [if_neg h2] at h
        exact absurd (h.trans hJs.symm) h2
    rw [e]
    exact ⟨f.judged_same p v s now code FireUnit.entered fun _ _ => rfl,
      f.judged_same p v s now code FireUnit.isolationTimer fun _ _ => rfl,
      f.judged_same p v s now code FireUnit.incompleteReported fun _ _ => rfl⟩

end

/-- R97: what the decision of a pass makes of the fire unit. -/
theorem State.decidePass_pass (s : State) (v : FireView) (code : Option Code) :
    FirePass s.params v s.links.pnl.silent s.uptime code s.fire (s.decidePass v code).1.fire := by
  rw [State.decidePass_fire]
  exact FireUnit.settle_pass _ _ _ _ _ _

end Sys2Proof.Machine
end

