-- ==== Sys2Proof/Laws/PerInstr.lean ====
section
/-! SUPPORT. What holds of every command as it is written: the request that a well-formed command serves fits a telegram,
and its kind is one of the 27 unless the command is UNKNOWN_KIND's. -/

namespace Sys2Proof.Laws.RequestShape

open Sys2Proof.Machine

/-- The request of a well-formed command has a payload that fits a telegram, and a known kind but in UNKNOWN_KIND. -/
def Statement (i : Instr) : Prop :=
  ∀ l r, requestOf i = some (l, r) → i.wellFormed = true →
    payloadFits r.payload = true ∧ (knownKind r.kind = true ∨ ∃ k q p, i = .unknownKind l k q p)

/-- A command that serves no request has nothing to show. -/
theorem of_none {i : Instr} (h : requestOf i = none) : Statement i := by
  intro l r e
  simp [h] at e

/-- A command that serves one request of a known kind whose payload fits. -/
theorem of_some {i : Instr} {l : Link} {r : Request} (h : requestOf i = some (l, r)) (hk : knownKind r.kind = true)
    (hw : i.wellFormed = true → payloadFits r.payload = true) : Statement i := by
  intro l' r' e w
  rw [h] at e
  obtain ⟨rfl, rfl⟩ := Prod.mk.inj (Option.some.inj e)
  exact ⟨hw w, .inl hk⟩

/-- `chainReply`. -/
theorem chainReply (c : Str) (r : Reply) : Statement (.chainReply c r) := of_none rfl

/-- `replyTimeout`. -/
theorem replyTimeout (c : Str) : Statement (.replyTimeout c) := of_none rfl

/-- `readingAgeTick`. -/
theorem readingAgeTick : Statement .readingAgeTick := of_none rfl

/-- `cycleDue`. -/
theorem cycleDue (c : Str) : Statement (.cycleDue c) := of_none rfl

/-- `unfittedCheck`. -/
theorem unfittedCheck (c : Str) : Statement (.unfittedCheck c) := of_none rfl

/-- `probeModule`. -/
theorem probeModule (l : Link) (seq : Byte) (payload : List Byte) : Statement (.probeModule l seq payload) :=
  of_some rfl rfl id

/-- `readCells`. -/
theorem readCells (l : Link) (seq : Byte) (payload : List Byte) : Statement (.readCells l seq payload) :=
  of_some rfl rfl id

/-- `resetBaseline`. -/
theorem resetBaseline (l : Link) (seq : Byte) (payload : List Byte) : Statement (.resetBaseline l seq payload) :=
  of_some rfl rfl id

/-- `joinString`. -/
theorem joinString (l : Link) (seq : Byte) (payload : List Byte) : Statement (.joinString l seq payload) :=
  of_some rfl rfl id

/-- `prechargeTimerExpiry`. -/
theorem prechargeTimerExpiry (c : Str) : Statement (.prechargeTimerExpiry c) := of_none rfl

/-- `releaseString`. -/
theorem releaseString (l : Link) (seq : Byte) (payload : List Byte) : Statement (.releaseString l seq payload) :=
  of_some rfl rfl id

/-- `openingTimerExpiry`. -/
theorem openingTimerExpiry (c : Str) : Statement (.openingTimerExpiry c) := of_none rfl

/-- `feedbackInputChange`. -/
theorem feedbackInputChange (c : Str) (which : Contactor) (level : Contact) : Statement (.feedbackInputChange c which level) := of_none rfl

/-- `feedbackCheck`. -/
theorem feedbackCheck (c : Str) : Statement (.feedbackCheck c) := of_none rfl

/-- `clearLockString`. -/
theorem clearLockString (l : Link) (seq : Byte) (payload : List Byte) : Statement (.clearLockString l seq payload) := by
  by_cases h : payload = [0]
  · exact of_none (if_pos h)
  · exact of_some (l := l) (r := ⟨20, seq, payload⟩) (if_neg h) rfl fun w => by simp [Instr.wellFormed] at w; exact w.2

/-- `clearLockBreaker`. -/
theorem clearLockBreaker (l : Link) (seq : Byte) (payload : List Byte) : Statement (.clearLockBreaker l seq payload) := by
  by_cases h : payload = [0]
  · exact of_some (l := l) (r := ⟨20, seq, payload⟩) (if_pos h) rfl (by simp [h, payloadFits])
  · exact of_none (if_neg h)

/-- `readString`. -/
theorem readString (l : Link) (seq : Byte) (payload : List Byte) : Statement (.readString l seq payload) :=
  of_some rfl rfl id

/-- `envelopeTick`. -/
theorem envelopeTick : Statement .envelopeTick := of_none rfl

/-- `setCap`. -/
theorem setCap (l : Link) (seq : Byte) (payload : List Byte) : Statement (.setCap l seq payload) :=
  of_some rfl rfl id

/-- `readEnvelope`. -/
theorem readEnvelope (l : Link) (seq : Byte) (payload : List Byte) : Statement (.readEnvelope l seq payload) :=
  of_some rfl rfl id

/-- `analogSample`. -/
theorem analogSample (inlet outlet container outside : Int) : Statement (.analogSample inlet outlet container outside) := of_none rfl

/-- `flowSwitchChange`. -/
theorem flowSwitchChange (level : Flow) : Statement (.flowSwitchChange level) := of_none rfl

/-- `flowTimerExpiry`. -/
theorem flowTimerExpiry : Statement .flowTimerExpiry := of_none rfl

/-- `chillerDwellExpiry`. -/
theorem chillerDwellExpiry (g : Stage) : Statement (.chillerDwellExpiry g) := of_none rfl

/-- `heaterDwellExpiry`. -/
theorem heaterDwellExpiry : Statement .heaterDwellExpiry := of_none rfl

/-- `fireEvaluation`. -/
theorem fireEvaluation (loops : Vector Nat 8) (gas1 gas2 : Int) : Statement (.fireEvaluation loops gas1 gas2) := of_none rfl

/-- `isolationTimerExpiry`. -/
theorem isolationTimerExpiry : Statement .isolationTimerExpiry := of_none rfl

/-- `resetFire`. -/
theorem resetFire (l : Link) (seq : Byte) (payload : List Byte) : Statement (.resetFire l seq payload) :=
  of_some rfl rfl id

/-- `readFire`. -/
theorem readFire (l : Link) (seq : Byte) (payload : List Byte) : Statement (.readFire l seq payload) :=
  of_some rfl rfl id

/-- `readSnapshot`. -/
theorem readSnapshot (l : Link) (seq : Byte) (payload : List Byte) : Statement (.readSnapshot l seq payload) :=
  of_some rfl rfl id

/-- `clearSnapshots`. -/
theorem clearSnapshots (l : Link) (seq : Byte) (payload : List Byte) : Statement (.clearSnapshots l seq payload) :=
  of_some rfl rfl id

/-- `histogramSample`. -/
theorem histogramSample : Statement .histogramSample := of_none rfl

/-- `readStats`. -/
theorem readStats (l : Link) (seq : Byte) (payload : List Byte) : Statement (.readStats l seq payload) :=
  of_some rfl rfl id

/-- `clearStats`. -/
theorem clearStats (l : Link) (seq : Byte) (payload : List Byte) : Statement (.clearStats l seq payload) :=
  of_some rfl rfl id

/-- `offer`. -/
theorem offer (l : Link) (seq : Byte) (payload : List Byte) : Statement (.offer l seq payload) :=
  of_some rfl rfl id

/-- `agreementRestart`. -/
theorem agreementRestart (l : Link) (seq : Byte) (payload : List Byte) : Statement (.agreementRestart l seq payload) :=
  of_some rfl rfl id

/-- `minuteBoundary`. -/
theorem minuteBoundary : Statement .minuteBoundary := of_none rfl

/-- `readAgreement`. -/
theorem readAgreement (l : Link) (seq : Byte) (payload : List Byte) : Statement (.readAgreement l seq payload) :=
  of_some rfl rfl id

/-- `connect`. -/
theorem connect (l : Link) (seq : Byte) (payload : List Byte) : Statement (.connect l seq payload) :=
  of_some rfl rfl id

/-- `breakerFeedbackChange`. -/
theorem breakerFeedbackChange (level : Contact) : Statement (.breakerFeedbackChange level) := of_none rfl

/-- `closePendingTimerExpiry`. -/
theorem closePendingTimerExpiry : Statement .closePendingTimerExpiry := of_none rfl

/-- `disconnect`. -/
theorem disconnect (l : Link) (seq : Byte) (payload : List Byte) : Statement (.disconnect l seq payload) :=
  of_some rfl rfl id

/-- `releaseTimerExpiry`. -/
theorem releaseTimerExpiry : Statement .releaseTimerExpiry := of_none rfl

/-- `permitEvaluation`. -/
theorem permitEvaluation : Statement .permitEvaluation := of_none rfl

/-- `recloseTimerExpiry`. -/
theorem recloseTimerExpiry : Statement .recloseTimerExpiry := of_none rfl

/-- `tripPulseEnd`. -/
theorem tripPulseEnd : Statement .tripPulseEnd := of_none rfl

/-- `telegram`. -/
theorem telegram (l : Link) (raw : List Byte) : Statement (.telegram l raw) := of_none rfl

/-- `statusWord`. -/
theorem statusWord (l : Link) (code : Byte) : Statement (.statusWord l code) := of_none rfl

/-- `silenceTimeout`. -/
theorem silenceTimeout (l : Link) : Statement (.silenceTimeout l) := of_none rfl

/-- `sendStatusWord`. -/
theorem sendStatusWord (l : Link) : Statement (.sendStatusWord l) := of_none rfl

/-- `answerSent`. -/
theorem answerSent (l : Link) : Statement (.answerSent l) := of_none rfl

/-- `unknownKind`. -/
theorem unknownKind (l : Link) (kind seq : Byte) (payload : List Byte) : Statement (.unknownKind l kind seq payload) := by
  by_cases h : knownKind kind = true
  · exact of_none (if_pos h)
  · intro l' r' e w
    have e' : some (l, (⟨kind, seq, payload⟩ : Request)) = some (l', r') := by rw [← e]; exact (if_neg h).symm
    obtain ⟨rfl, rfl⟩ := Prod.mk.inj (Option.some.inj e')
    simp only [Instr.wellFormed, Bool.and_eq_true] at w
    exact ⟨w.2, .inr ⟨_, _, _, rfl⟩⟩

/-- `readNotices`. -/
theorem readNotices (l : Link) (seq : Byte) (payload : List Byte) : Statement (.readNotices l seq payload) :=
  of_some rfl rfl id

/-- `setMask`. -/
theorem setMask (l : Link) (seq : Byte) (payload : List Byte) : Statement (.setMask l seq payload) :=
  of_some rfl rfl id

/-- `setSiteMode`. -/
theorem setSiteMode (l : Link) (seq : Byte) (payload : List Byte) : Statement (.setSiteMode l seq payload) :=
  of_some rfl rfl id

/-- `setParam`. -/
theorem setParam (l : Link) (seq : Byte) (payload : List Byte) : Statement (.setParam l seq payload) :=
  of_some rfl rfl id

/-- `readParam`. -/
theorem readParam (l : Link) (seq : Byte) (payload : List Byte) : Statement (.readParam l seq payload) :=
  of_some rfl rfl id

/-- `commit`. -/
theorem commit (l : Link) (seq : Byte) (payload : List Byte) : Statement (.commit l seq payload) :=
  of_some rfl rfl id

/-- `commitComplete`. -/
theorem commitComplete : Statement .commitComplete := of_none rfl

/-- `siteReset`. -/
theorem siteReset (l : Link) (seq : Byte) (payload : List Byte) : Statement (.siteReset l seq payload) :=
  of_some rfl rfl id

/-- `siteResetStart`. -/
theorem siteResetStart : Statement .siteResetStart := of_none rfl

/-- `powerOn`. -/
theorem powerOn : Statement .powerOn := of_none rfl

/-- `resetLineAssert`. -/
theorem resetLineAssert : Statement .resetLineAssert := of_none rfl

/-- `resetLineRelease`. -/
theorem resetLineRelease : Statement .resetLineRelease := of_none rfl

/-- `startUpLoadComplete`. -/
theorem startUpLoadComplete : Statement .startUpLoadComplete := of_none rfl

/-- `lossOfSupply`. -/
theorem lossOfSupply : Statement .lossOfSupply := of_none rfl

end Sys2Proof.Laws.RequestShape
end

