-- ==== Sys2Proof/Tests/Slice0.lean ====
section
/-! SUPPORT. Tests of the model: ill-formed commands refused, the spec's worked examples, and for each statement with
hypotheses a concrete state and operands that meet them. -/

namespace Sys2Proof.Tests

open Sys2Proof.Machine

set_option maxRecDepth 20000

/-! ## Well-formedness and decoding -/

/-- A payload of 61 bytes fits no telegram. -/
theorem test_long_payload_is_ill_formed :
    (Instr.readCells .svc 0 (List.replicate 61 0)).wellFormed = false ∧
      (Instr.readCells .svc 0 (List.replicate 60 0)).wellFormed = true := by decide

/-- Each form of CLEAR-LOCK is the other row's where its payload says so. -/
theorem test_clear_lock_forms :
    (Instr.clearLockBreaker .svc 0 [1]).wellFormed = false ∧ (Instr.clearLockString .svc 0 [0]).wellFormed = false
      ∧ (Instr.clearLockBreaker .svc 0 [0]).wellFormed = true := by decide

/-- A known kind is not UNKNOWN_KIND's, nor is a payload that fits no telegram. -/
theorem test_unknown_kind_is_unknown :
    (Instr.unknownKind .stn 27 0 []).wellFormed = false ∧ (Instr.unknownKind .stn 28 0 []).wellFormed = true
      ∧ (Instr.unknownKind .stn 0 0 (List.replicate 61 0)).wellFormed = false := by decide

/-- A telegram runs to the next flag, and a module has sixteen cells. -/
theorem test_flag_and_seventeen_cells_are_ill_formed :
    (Instr.telegram .cnv [1, 0x7E, 2]).wellFormed = false
      ∧ (Instr.chainReply .one (.module true 1 false (Vector.replicate 16 0) (Vector.replicate 4 0)
        (List.replicate 17 1))).wellFormed = false := by decide

/-- No row of the table has bits, so no word spells a command. -/
theorem test_no_word_spells_a_command : decodeTableWord 8 0x7E = none := rfl

/-! ## Links: framing (R158, R160) -/

/-- The check value of the CRC-16 with this polynomial, initial value and bit order over the digits 1 to 9 (the published
catalogue of CRCs, from outside the spec). -/
theorem test_crc16_check :
    crc16 [0x31, 0x32, 0x33, 0x34, 0x35, 0x36, 0x37, 0x38, 0x39] = 0x29B1#16 := by decide

/-- The check value of the CRC-32 with these settings over the digits 1 to 9 (the same catalogue). -/
theorem test_crc32_check :
    crc32 [0x31, 0x32, 0x33, 0x34, 0x35, 0x36, 0x37, 0x38, 0x39] = 0xCBF43926#32 := by decide

/-- R158: a byte of value 0x7E is sent as 0x7D 0x5E, and comes back. -/
theorem test_escape : escape [0x7E, 1, 0x7D] = [0x7D, 0x5E, 1, 0x7D, 0x5D]
    ∧ unescape [0x7D, 0x5E, 1, 0x7D, 0x5D] = some [0x7E, 1, 0x7D] := by decide

/-- R160: a raw status marker ends a telegram as a bad one and shows its code byte. -/
theorem test_marker_inside_telegram : receive [1, 2, 0x7B, 0x1E] = [.bad, .status 0x1E] := by decide

/-- R158: code 2 is sent as 0x2D; a code byte whose halves do not add to 15 is not valid. -/
theorem test_status_byte : statusByte 2 = 0x2D ∧ statusCode 0x2D = some 2 ∧ statusCode 0x2C = none := by decide

/-! ## Worked examples of the spec -/

/-- Section 2.4.1: the nine replies of the worked sequence, at default parameters. -/
theorem test_rise_sequence :
    let after (l : List Int) := l.foldl (fun k x => SensorTrack.evaluate .defaults k (some x)) SensorTrack.unset
    after [250, 270, 290, 310] = ⟨4028, .frozen, some 59, .pre⟩
      ∧ after [250, 270, 290, 310, 330, 355] = ⟨4028, .frozen, some 104, .heat⟩
      ∧ after [250, 270, 290, 310, 330, 355, 300, 275] = ⟨4028, .tracking, some 24, .none⟩
      ∧ after [250, 270, 290, 310, 330, 355, 300, 275, 270] = ⟨4032, .tracking, some 18, .none⟩ := by decide

/-- Section 4.2.1: the default charge table at the table's inputs, and the falling segment of the uneven list. -/
theorem test_interpolation :
    [-150, -100, -23, 43, 100, 412, 549, 550].map (fun x => interpolate x chargeTableDefault)
      = [0, 0, 308, 1088, 2000, 1380, 10, 0]
    ∧ interpolate 311 [⟨300, 1200⟩, ⟨330, 500⟩] = 943 := by decide

/-- A module record that has replied. -/
def replied (cells : Vector (Option Nat) 16) (sensors : Vector (Option Int) 4) : ModuleRecord :=
  { ModuleRecord.cleared with status := .current, cells := cells, sensors := sensors }

/-- Section 2.7.1: the string of the worked example, sensor 4 of module 3 as given. -/
def exampleChain (last : Int) : Chain :=
  let plain : Vector (Option Nat) 16 := Vector.replicate 16 (some 3400)
  { Chain.atReset ⟨1, 3⟩ with
    modules := (((Vector.replicate 12 ModuleRecord.cleared).set 0
      (replied (plain.set 4 (some 3480)) #v[some 62, some 58, some 55, some 71])).set 1
      (replied (plain.set 8 (some 3318)) #v[some 49, none, some 44, some 47])).set 2
      (replied plain #v[some 80, some 77, some 83, some last]) }

/-- Section 2.7.1: VH 1600 and 2500, TD 1104 and 2500; with 512 in place of 90, TD 380 and 1570. -/
theorem test_vh_and_td :
    (exampleChain 90).vh .defaults = (1600, 2500) ∧ (exampleChain 90).td .defaults = (1104, 2500)
      ∧ (exampleChain 512).td .defaults = (380, 1570) := by decide

/-- Section 2.7.2: cells 2, 7, 9 and 14 of module 3 are chosen. -/
theorem test_balancing :
    chooseFour (candidates #v[some 3320, some 3352, some 3330, some 3330, some 3330, some 3330, some 3345, some 3330,
      some 3352, some 3330, some 3345, some 3330, some 3340, some 3361, some 3330, some 3330] 3318 20 3300)
      = [2, 7, 9, 14] := by decide

/-- Section 3.5: with a limit of 1200 a current of 1320 is within bounds and 1321 is not; with 0 the bound is 50. -/
theorem test_excursions : isExcursion 1320 1200 0 = false ∧ isExcursion 1321 1200 0 = true
    ∧ isExcursion 50 0 0 = false ∧ isExcursion (-51) 0 0 = true := by decide

/-- R83: the fan duties at 290, 350 and 437. -/
theorem test_fan_duty : [290, 350, 437].map (fun x => runFanDuty .defaults (some x)) = [64, 140, 240] := by decide

/-- R93: CD at inlets of 353 and 410, and 2123 at 401 with a derate from 340 to 470. -/
theorem test_coolant_derate :
    coolantDerate .defaults (.value 353) .ok = 3880 ∧ coolantDerate .defaults (.value 410) .ok = 1600
      ∧ coolantDerate { Params.defaults with derateStart := 340, derateStop := 470 } (.value 401) .ok = 2123 := by decide

/-- Section 7.3: five head replies at 150.0 A of discharge, 1000 ms apart, count 2 with 300000 carried. -/
theorem test_throughput :
    let t := (List.range 5).foldl (fun t _ => StringStats.integrate t (-1500) 1000) StringStats.zero
    t.dischargeThroughput = 2 ∧ t.dischargeResidue = 300000 ∧ t.chargeThroughput = 0 := by decide

/-- Section 7.4: the histogram of the example is halved before the sample is added. -/
theorem test_halving :
    (Histogram.sample ⟨0, 5, 16777214, 9, 1, 0, 16777229⟩ 200) = ⟨0, 2, 8388608, 4, 0, 0, 8388614⟩ := by decide

/-- Section 8.8.1: per-string currents at 624.0 V with two JOINED strings. -/
theorem test_per_string : perString 1500 6240 2 = 1201 ∧ perString 3000 6240 2 = 2403 ∧ perString 1000 6240 2 = 801 := by
  decide

/-- R138: the segment in force before the first start, and from each start on. -/
theorem test_segment_in_force :
    let l : List Segment := [⟨360, 1500, 4000⟩, ⟨1080, 0, 5000⟩]
    [0, 359, 360, 1079, 1080, 1439].map (fun m => (segmentAt l m).map Segment.start)
      = [some 1080, some 1080, some 360, some 360, some 1080, some 1080] := by decide

/-- Section 8.8.1: C1 and S1 resolve to 3000 and 3000 with ramp 100; with C2's import of 400 they mismatch. -/
theorem test_resolution :
    let s1 : Offer := ⟨true, .ok, 4500, 3000, 100, 500, some 1075, [⟨360, 1500, 4000⟩, ⟨1080, 0, 5000⟩]⟩
    resolution (some ⟨false, .ok, 3000, 3500, 200, 0, none, []⟩) (some s1) false
        = (.resolved, ⟨false, false, true⟩, some ⟨3000, 3000, 100⟩)
      ∧ resolution (some ⟨true, .ok, 400, 3500, 200, 0, none, []⟩) (some s1) false
        = (.mismatch, ⟨true, false, true⟩, none) := by decide

/-- Section 9.6: trips at 100, 300 and 650 s lock out; with the third at 701 s they do not. -/
theorem test_lockout : lockout [100000, 300000, 650000] = true ∧ lockout [100000, 300000, 701000] = false := by decide

/-- R98: one sample at each boundary of the loop resistances. -/
theorem test_loop_samples :
    [199, 200, 1499, 1500, 12000, 12001].map sampleState = [.short, .alarm, .alarm, .normal, .normal, .opened] := by decide

/-- R157: the lower of two speeds equally near is taken. -/
theorem test_nearest_speed : nearestSpeed 14400 = 9600 ∧ nearestSpeed 14401 = 19200 ∧ nearestSpeed 900000 = 115200 := by
  decide

/-- R176: the defaults pass the check CONTENT; a scan range with its first address after its last does not. -/
theorem test_content : Params.defaults.contentOk = true
    ∧ { Params.defaults with firstAddr := 5, lastAddr := 4 }.contentOk = false := by decide

/-! ## States that meet the hypotheses of the statements -/

/-- The part after a power-on, with one request at the head of a link's queue. -/
def asked (l : Link) (kind : Byte) (payload : List Byte) : State :=
  State.reset.modLink l fun k => { k with queue := [⟨kind, 0, payload⟩] }

/-- A state with string 1 in a state. -/
def withString (s : State) (g : StringState) : State :=
  s.modString .one fun k => { k with state := g }

/-- A state at a fire stage. -/
def atStage (s : State) (g : FireStage) : State :=
  { s with fire := { s.fire with stage := g } }

/-- A state in MAINTENANCE, with SVC's PRESENT taken. -/
def maintained (s : State) : State :=
  { s.modLink .svc fun k => { k with taken := some .present } with siteMode := .maintenance }

/-- A state with a permit in a state. -/
def permitted (s : State) (g : PermitState) : State :=
  { s with permit := { s.permit with state := g } }

/-- A state with a probe of module 12 of string 1 in flight, for a request of SVC. -/
def probing (s : State) : State :=
  s.modChain .one fun k => { k with inFlight := some ⟨.probe, .module 11, [⟨.svc, 7⟩], [], 9⟩ }

/-- A string whose twelve modules and head have replied. -/
def ready (s : State) : State :=
  s.modChain .one fun k => { k with
    head := { k.head with status := .current }
    modules := Vector.replicate 12 (replied (Vector.replicate 16 (some 3300)) (Vector.replicate 4 (some 250))) }

theorem witness_StepTakesFrontCommand :
    State.reset.phase = .running ∧ State.powerOnLoading.phase ≠ .running := by decide

theorem witness_RefusedRequestsChangeNothing :
    State.reset.canServe .cnv ⟨3, 0, [1, 1]⟩ = false ∧ (asked .cnv 3 [1, 1]).canServe .cnv ⟨3, 0, [1, 1]⟩ = true
      ∧ portRefusal 3 .cnv .auto = some .refusedPort ∧ portRefusal 5 .svc .auto = some .refusedState
      ∧ requestOf (.probeModule .cnv 0 [1, 1]) = some (.cnv, ⟨3, 0, [1, 1]⟩)
      ∧ requestOf (.unknownKind .svc 28 0 []) = some (.svc, ⟨28, 0, []⟩)
      ∧ (asked .svc 28 []).canServe .svc ⟨28, 0, []⟩ = true
      ∧ (asked .cnv 10 []).canServe .cnv ⟨10, 0, []⟩ = true ∧ portRefusal 10 .cnv .auto = some .refusedPort
      ∧ (asked .stn 10 []).canServe .stn ⟨10, 0, []⟩ = true ∧ portRefusal 10 .stn .maintenance = some .refusedState
      ∧ portRefusal 11 .pnl .auto = some .refusedPort ∧ portRefusal 20 .cnv .auto = some .refusedPort
      ∧ requestOf (.clearLockBreaker .cnv 0 [0]) = some (.cnv, ⟨20, 0, [0]⟩) := by decide

/-- R155: CONNECT, DISCONNECT and CLEAR-LOCK of the breaker refused by the link carry the permit report; CLEAR-LOCK of a string
does not. -/
theorem test_link_refusal_carries_permit_report :
    let report := State.reset.permitItems
    ((connect .cnv 0 [] (asked .cnv 10 [])).link .cnv).out = [⟨0x8A, 0, .refusedPort, report, true⟩]
      ∧ ((connect .svc 0 [] (asked .svc 10 [])).link .svc).out = [⟨0x8A, 0, .refusedState, report, true⟩]
      ∧ ((disconnect .pnl 0 [] (asked .pnl 11 [])).link .pnl).out = [⟨0x8B, 0, .refusedPort, report, true⟩]
      ∧ ((clearLockBreaker .cnv 0 [0] (asked .cnv 20 [0])).link .cnv).out = [⟨0x94, 0, .refusedPort, report, true⟩]
      ∧ ((clearLockString .cnv 0 [1] (asked .cnv 20 [1])).link .cnv).out = [⟨0x94, 0, .refusedPort, [], true⟩] := by decide

theorem witness_WrongLengthIsBadFormat :
    (asked .svc 3 [1]).delivers .svc ⟨3, 0, [1]⟩ ∧ payloadLength 3 .svc [1] ≠ some 1
      ∧ (asked .stn 10 [0]).delivers .stn ⟨10, 0, [0]⟩ ∧ payloadLength 10 .stn [0] ≠ some 1 := by decide

theorem witness_ReadsAreAnsweredAtOnce :
    (asked .svc 2 [2, 12]).delivers .svc ⟨2, 0, [2, 12]⟩ ∧ parseModule [2, 12] = some (.two, 11)
      ∧ (asked .pnl 4 [1]).delivers .pnl ⟨4, 0, [1]⟩ ∧ parseString [1] = some .one
      ∧ (asked .cnv 1 []).delivers .cnv ⟨1, 0, []⟩ ∧ (asked .pnl 14 []).delivers .pnl ⟨14, 0, []⟩
      ∧ (asked .stn 15 [0]).delivers .stn ⟨15, 0, [0]⟩ ∧ (asked .stn 15 [4]).delivers .stn ⟨15, 0, [4]⟩
      ∧ (asked .stn 17 []).delivers .stn ⟨17, 0, []⟩ ∧ (asked .cnv 9 []).delivers .cnv ⟨9, 0, []⟩
      ∧ (asked .svc 2 [2, 0]).delivers .svc ⟨2, 0, [2, 0]⟩ ∧ (asked .pnl 4 [0]).delivers .pnl ⟨4, 0, [0]⟩
      ∧ (asked .stn 15 [5]).delivers .stn ⟨15, 0, [5]⟩ ∧ (asked .svc 24 [58]).delivers .svc ⟨24, 0, [58]⟩
      ∧ (asked .svc 24 [0]).delivers .svc ⟨24, 0, [0]⟩ ∧ (asked .svc 24 [57]).delivers .svc ⟨24, 0, [57]⟩
      ∧ (paramForm 57).isSome = true := by decide

/-- The head's scan is in flight after a power-on, with a string in each state that reacts to its reply; an interval of
65535 s counts on a CURRENT head and a longer one does not; with a limit of 0 a current of 50 is no excursion and 51 is. -/
theorem witness_HeadReplyIsStoredAndIntegrated :
    let s (g : StringState) (n : Nat) := (withString State.reset g).modString .one fun k => { k with excursions := n }
    State.reset.phase = .running ∧ (State.reset.chain .one).inFlight = some ⟨.scan, .head, [], [], 4⟩
      ∧ (State.reset.chain .one).range.first ≤ 12
      ∧ ({ HeadRecord.cleared with status := .current, lastGood := some 5 }).interval 65535005 = 65535000
      ∧ ({ HeadRecord.cleared with status := .current, lastGood := some 5 }).interval 65535006 = 0
      ∧ ((s (.precharge (.matching 10000)) 0).string .one).state = .precharge (.matching 10000)
      ∧ ((s (.opening .opened 2000) 0).string .one).state = .opening .opened 2000
      ∧ ((s (.precharge .handover) 0).string .one).state = .precharge .handover
      ∧ ((s .joined 3).string .one).state = .joined ∧ ((s .joined 3).string .one).excursions < 4
      ∧ 4 ≤ ((s .joined 4).string .one).excursions ∧ (State.reset.string .one).disagreement = false
      ∧ (State.reset.envelope.limits.charge .one + max 50 (State.reset.envelope.limits.charge .one / 10) : Nat) < (51 : Int)
      ∧ ¬(State.reset.envelope.limits.charge .one + max 50 (State.reset.envelope.limits.charge .one / 10) : Nat) < (50 : Int)
      ∧ (s .joined 3).joinedCount ≠ 0 ∧ State.reset.permit.state.connected = false := by decide

/-- What the string makes of the reply: in MATCHING voltages 10.0 V apart hand over and 10.1 V do not; the fifth excursion
opens; a bus voltage 1.0 V away computes GA afresh and one 0.9 V away does not. -/
theorem test_head_reply_reactions :
    let s (g : StringState) (n : Nat) := (withString State.reset g).modString .one fun k => { k with excursions := n }
    let bus (v : Nat) := s .opened 0 |>.modAgreement fun a => { a with bus := some (v, .head1), countUsed := none }
    let reply (i v b : Int) (t : State) := chainReply .one (.head true 0 false i v b .opened .opened) t
    ((reply 0 6000 6100 (s (.precharge (.matching 10000)) 0)).string .one).state = .precharge .handover
      ∧ ((reply 0 6000 6101 (s (.precharge (.matching 10000)) 0)).string .one).state = .precharge (.matching 10000)
      ∧ ((reply 99 6000 6000 (s (.opening .opened 2000) 0)).string .one).state = .opened
      ∧ ((reply 100 6000 6000 (s (.opening .opened 2000) 0)).string .one).state = .opening .opened 2000
      ∧ ((reply 51 6000 6000 (s .joined 3)).string .one).excursions = 4
      ∧ ((reply 51 6000 6000 (s .joined 4)).string .one).state = .opening (.locked .excursion) 2000
      ∧ ((reply 50 6000 6000 (s .joined 4)).string .one).excursions = 0
      ∧ (reply 0 6000 6000 (bus 6010)).agreement.countUsed = some 0
      ∧ (reply 0 6000 6000 (bus 6009)).agreement.countUsed = none := by decide +kernel

/-- A probe of module 12 in flight, whose reply is that of section 2.7.2 beside modules at 3300; with a window of 20 and a
floor of 3300 a cell above 3320 is a candidate. -/
theorem witness_ModuleReplyIsStored :
    let s := probing State.reset
    let cells : Vector Nat 16 :=
      #v[3320, 3352, 3330, 3330, 3330, 3330, 3345, 3330, 3352, 3330, 3345, 3330, 3340, 3361, 3330, 3330]
    let t := chainReply .one (.module true 12 false cells (Vector.replicate 4 250) []) (probing (ready State.reset))
    s.phase = .running ∧ (s.chain .one).inFlight = some ⟨.probe, .module 11, [⟨.svc, 7⟩], [], 9⟩
      ∧ (s.chain .one).fitted 11 = true
      ∧ ((s.modChain .one fun k => { k with range := ⟨1, 11⟩ }).chain .one).fitted 11 = false
      ∧ ((t.chain .one).modules[(11 : Addr)]).hottest = some 250 ∧ (250 : Int) < t.params.balCeiling
      ∧ t.fire.stage = .normal ∧ ((t.chain .one).modules[(0 : Addr)]).cells[(0 : Fin 16)] = some 3300
      ∧ t.params.balWindow = 20 ∧ t.params.balFloor = 3300
      ∧ ((t.chain .one).modules[(11 : Addr)]).requested = [2, 7, 9, 14] := by decide

/-- R11, R16: a GOOD scan reply of module 11 is followed by module 12's scan; that of module 12 completes the cycle, and a
waiting probe goes first. -/
theorem test_scan_goes_on :
    let scan (a : Addr) (probes : List ProbeEntry) := (ready State.reset).modChain .one fun k => { k with
      probes := probes, lastKind := some .scan, inFlight := some ⟨.scan, .module a, [], [], 4⟩ }
    let reply (a : Addr) (s : State) := (chainReply .one (.module true a.number false (Vector.replicate 16 3300)
      (Vector.replicate 4 250) []) s).chain .one
    ((reply 10 (scan 10 [])).inFlight, (reply 10 (scan 10 [])).nextUnit)
        = (some ⟨.scan, .module 11, [], [], 4⟩, .module 11)
      ∧ ((reply 11 (scan 11 [])).inFlight, (reply 11 (scan 11 [])).cycle, (reply 11 (scan 11 [])).nextUnit)
        = (none, .waiting, .head)
      ∧ (reply 10 (scan 10 [⟨3, [⟨.svc, 7⟩]⟩])).inFlight = some ⟨.probe, .module 3, [⟨.svc, 7⟩], [], 4⟩ := by
  decide +kernel

/-- A second miss leaves the status, a third makes it STALE, with the string JOINED; a self-test fault makes it FAILED, of
the module and of the head; a reply with a wrong CRC comes before the timeout. -/
theorem witness_TimeoutCountsAMiss :
    let s (n : Nat) := (withString (probing State.reset) .joined).modModule .one 11
      (fun m => { m with status := .current, miss := n })
    let faulted := chainReply .one (.module true 12 true (Vector.replicate 16 0) (Vector.replicate 4 0) []) (s 2)
    let head := chainReply .one (.head true 0 true 0 0 0 .opened .opened) (withString State.reset .joined)
    ((s 1).chain .one).fitted 11 = true ∧ (((s 1).chain .one).modules[(11 : Addr)]).miss + 1 < 3
      ∧ 3 ≤ (((s 2).chain .one).modules[(11 : Addr)]).miss + 1
      ∧ (((s 2).chain .one).modules[(11 : Addr)]).status ≠ .stale ∧ ((s 2).string .one).state = .joined
      ∧ ((State.reset.modChain .one fun k => { k with inFlight := none }).chain .one).inFlight = none
      ∧ (((faulted.chain .one).modules[(11 : Addr)]).status, ((faulted.chain .one).modules[(11 : Addr)]).miss)
        = (.failed, 0)
      ∧ (faulted.string .one).state = .opening .opened 2000
      ∧ (head.chain .one).head.status = .failed ∧ (head.string .one).state = .opening .opened 2000
      ∧ (State.reset.chain .one).inFlight = some ⟨.scan, .head, [], [], 4⟩ ∧ (State.reset.chain .one).range.first ≤ 12
      ∧ ((probing State.reset).chain .one).inFlight = some ⟨.probe, .module 11, [⟨.svc, 7⟩], [], 9⟩
      ∧ (((probing State.reset).modChain .one fun k => { k with range := ⟨1, 11⟩ }).chain .one).fitted 11 = false := by decide

/-- R2: a module reply to the head's scan, before its timeout, is a MISS: counted, the record kept, the scan goes on. -/
theorem test_early_reply_of_another_unit_is_a_miss :
    let t := chainReply .one (.module true 1 false (Vector.replicate 16 3300) (Vector.replicate 4 250) []) State.reset
    t.uptime = 0 ∧ (t.chain .one).head.miss = 1 ∧ (t.store.strings.get .one).chainMisses = 1
      ∧ (t.chain .one).inFlight = some ⟨.scan, .module 0, [], [], 4⟩ := by decide

theorem witness_ReadingAgesCountSeconds : State.reset.phase = .running ∧ (State.reset.chain .one).fitted 11 = true := by
  decide

/-- A waiting chain whose next cycle is due at 5000. -/
def waiting (s : State) : State :=
  s.modChain .one fun k => { k with cycle := .waiting, nextDue := some 5000, inFlight := none }

theorem witness_DueCycleStarts :
    ((waiting State.reset).chain .one).cycle = .waiting ∧ ((waiting State.reset).chain .one).nextDue = some 5000
      ∧ (waiting State.reset).params.range = ((waiting State.reset).chain .one).range
      ∧ (waiting State.reset).params.fitted.names .one = true
      ∧ ((withString (waiting State.reset) .joined).string .one).state.apart = false := by decide

/-- The part with another range configured, or with string 1 not named. -/
def configured (s : State) (p : Params) : State :=
  { s with config := { s.config with working := p } }

theorem witness_RangeAndFittedTakeForce :
    let s := configured (waiting State.reset) { Params.defaults with firstAddr := 2 }
    let u := configured (waiting State.reset) { Params.defaults with fitted := .string2 }
    let v := State.reset.modChain .one
      (fun k => { k with cycle := .unfitted, unfittedCheck := some 5000, inFlight := none })
    s.params.range ≠ (s.chain .one).range ∧ s.params.fitted.names .one = true ∧ (s.string .one).state.apart = true
      ∧ (s.chain .one).fitted 0 = true ∧ u.params.fitted.names .one = false ∧ (u.string .one).state.apart = true
      ∧ (v.chain .one).cycle = .unfitted ∧ (v.chain .one).unfittedCheck = some 5000
      ∧ v.params.fitted.names .one = true ∧ (configured v u.params).params.fitted.names .one = false := by decide

theorem witness_ProbeModuleIsQueuedOrRefused :
    let s := asked .svc 3 [1, 12]
    let queue (l : List ProbeEntry) := (s.modChain .one fun k => { k with probes := l }).chain .one
    let w : Waiter := ⟨.svc, 1⟩
    s.delivers .svc ⟨3, 0, [1, 12]⟩ ∧ parseModule [1, 12] = some (.one, 11)
      ∧ (asked .svc 3 [3, 12]).delivers .svc ⟨3, 0, [3, 12]⟩ ∧ (asked .svc 3 [1, 13]).delivers .svc ⟨3, 0, [1, 13]⟩
      ∧ (s.chain .one).inFlight ≠ none
      ∧ (s.chain .one).probes = [] ∧ (s.chain .one).fitted 11 = true
      ∧ ((queue [⟨11, [w, w, w]⟩]).probes.find? fun e => e.addr == 11) = some ⟨11, [w, w, w]⟩
      ∧ ((queue [⟨11, [w, w, w, w]⟩]).probes.find? fun e => e.addr == 11) = some ⟨11, [w, w, w, w]⟩
      ∧ ((queue [⟨1, [w]⟩, ⟨2, [w]⟩, ⟨3, [w]⟩, ⟨4, [w]⟩]).probes.find? fun e => e.addr == 11) = none
      ∧ ((waiting s).chain .one).inFlight = none
      ∧ ((s.modChain .one fun k => { k with range := ⟨1, 11⟩ }).chain .one).fitted 11 = false := by decide

theorem witness_SensorRules :
    (⟨4014, .tracking, some 40, .none⟩ : SensorTrack).state = .tracking ∧ SensorTrack.unset.state = .unset
      ∧ (⟨4028, .frozen, some 59, .pre⟩ : SensorTrack).state = .frozen
      ∧ (SensorTrack.evaluate .defaults ⟨4028, .frozen, some 59, .pre⟩ (some 351)).rise = some 100 := by decide

theorem witness_ResetBaseline :
    let s := asked .svc 19 [2, 12, 4]
    (asked .stn 19 [2, 12, 4]).canServe .stn ⟨19, 0, [2, 12, 4]⟩ = true
      ∧ s.canServe .svc ⟨19, 0, [2, 12, 4]⟩ = true ∧ s.fire.stage = .normal
      ∧ (atStage s .alert).canServe .svc ⟨19, 0, [2, 12, 4]⟩ = true
      ∧ (asked .svc 19 [3, 13, 5]).canServe .svc ⟨19, 0, [3, 13, 5]⟩ = true := by decide

/-- The last module of a cycle, STALE, its next cycle due later; and a CURRENT module with a cell above the limit while the
counter stands at 2. -/
theorem witness_CycleCompleteIsEvaluated :
    let s := (State.reset.modChain .one fun k => { k with inFlight := some ⟨.scan, .module 11, [], [], 4⟩ }).modModule .one
      11 (fun m => { m with status := .stale, miss := 3 })
    let u := (withString State.reset .joined).modModule .one 0 (fun _ =>
      replied ((Vector.replicate 16 (some 3400)).set 0 (some 3651)) (Vector.replicate 4 (some 601)))
    (s.chain .one).fitted 11 = true ∧ (s.chain .one).range.last ≤ 12 ∧ (s.chain .one).probes = []
      ∧ (s.chain .one).nextDue = some 5000 ∧ max s.uptime 4 < 5000
      ∧ (u.chain .one).breachOv u.params = true ∧ (u.chain .one).breachOt u.params = true
      ∧ ((ready State.reset).chain .one).vh Params.defaults = (2000, 2500)
      ∧ ((ready State.reset).chain .one).td Params.defaults = (2000, 2500)
      ∧ (u.string .one).state = .joined
      ∧ ((u.modCells .one fun v => { v with overVolt := 2 }).cells .one).overVolt = 2 := by decide

theorem witness_JoinString :
    let s := ready (asked .cnv 5 [1])
    s.delivers .cnv ⟨5, 0, [1]⟩ ∧ s.joinConditions .one = true ∧ (s.string .one).state = .opened
      ∧ s.joinConditions .two = false ∧ (asked .cnv 5 [3]).delivers .cnv ⟨5, 0, [3]⟩
      ∧ (withString s .joined).delivers .cnv ⟨5, 0, [1]⟩ := by decide

theorem witness_ReleaseString :
    let s := asked .pnl 6 [1]
    let u := asked .stn 6 [1]
    ¬ s.delivers .pnl ⟨6, 0, [1]⟩ ∧ u.delivers .stn ⟨6, 0, [1]⟩ ∧ (withString u .joined).delivers .stn ⟨6, 0, [1]⟩
      ∧ ((withString u .joined).string .one).state = .joined
      ∧ ((withString u (.precharge .handover)).string .one).state = .precharge .handover := by decide

theorem witness_StringTimers :
    ((withString State.reset (.precharge (.matching 10000))).string .one).state = .precharge (.matching 10000)
      ∧ ((withString State.reset (.opening .opened 2000)).string .one).state = .opening .opened 2000
      ∧ ((withString State.reset (.opening (.locked .cellOv) 2000)).string .one).state
        = .opening (.locked .cellOv) 2000 := by decide

/-- The premises of the exact string statements hold after a power-on, and so of a string in PRECHARGE beside it. -/
theorem witness_string_premises :
    State.reset.envelopeBounded ∧ State.reset.permitKept
      ∧ (withString State.reset (.precharge (.matching 10000))).envelopeBounded
      ∧ (withString State.reset (.precharge (.matching 10000))).permitKept :=
  ⟨fun c => by cases c <;> decide, ⟨by decide, by decide⟩, fun c => by cases c <;> decide, ⟨by decide, by decide⟩⟩

theorem witness_Feedback :
    let s := withString State.reset (.precharge .handover)
    let agreeing := s.modString .one (fun k => { k with mainInput := .closed, prechargeInput := .closed })
    let welded := State.reset.modString .one (fun k => { k with mainInput := .closed })
    (State.reset.string .one).check = some 200 ∧ (State.reset.string .one).checkResult = .agree
      ∧ (agreeing.string .one).checkResult = .agree ∧ (agreeing.string .one).state = .precharge .handover
      ∧ (welded.string .one).checkResult = .welded ∧ (s.string .one).checkResult = .feedback
      ∧ ((withString welded (.locked .feedback)).string .one).checkResult = .welded
      ∧ ((withString welded (.locked .welded)).string .one).state = .locked .welded := by decide

theorem witness_ClearLockString :
    let s := withString (asked .svc 20 [1]) (.locked .cellOv)
    s.delivers .svc ⟨20, 0, [1]⟩ ∧ s.causeGone .one .cellOv = false
      ∧ (s.modString .one fun k => { k with check := none }).causeGone .one .cellOv = true
      ∧ (asked .svc 20 [3]).delivers .svc ⟨20, 0, [3]⟩ := by decide

theorem witness_OpeningRequests :
    (State.reset.string .one).state = .opened ∧ (State.reset.string .one).state.apart = true
      ∧ ((withString State.reset .joined).string .one).state.apart = false := by decide

/-- The default charge table is ascending, with a first, a last and a pair in between at its own boundary. -/
theorem witness_InterpolationRule :
    ascending chargeTableDefault = true ∧ 2 ≤ chargeTableDefault.length ∧ chargeTableDefault.head? = some ⟨-100, 0⟩
      ∧ chargeTableDefault.getLast? = some ⟨550, 0⟩ ∧ chargeTableDefault[1]? = some ⟨0, 400⟩
      ∧ chargeTableDefault[2]? = some ⟨100, 2000⟩ := by decide

/-- A JOINED string whose target stands above its limit, and one whose target stands below. -/
theorem witness_EnvelopeTick :
    let s := withString State.reset .joined
    State.reset.phase = .running ∧ State.reset.targets = State.reset.envelope.limits
      ∧ ({ s with envelope := { s.envelope with
          table := ⟨.all 100, .all 100, .all 100, .all 100, .all 100, .all 100⟩ } }).targets ≠ s.envelope.limits := by decide

theorem witness_SetCap :
    (asked .stn 12 [0x0F, 0xA0]).delivers .stn ⟨12, 0, [0x0F, 0xA0]⟩
      ∧ (asked .stn 12 [0x0F, 0xA0]).stationCap = number2 0x0F 0xA0
      ∧ (asked .stn 12 [0x0F, 0xA1]).delivers .stn ⟨12, 0, [0x0F, 0xA1]⟩
      ∧ (maintained (asked .svc 12 [0, 0])).delivers .svc ⟨12, 0, [0, 0]⟩ := by decide

/-- Each mode; a stage whose dwell ends now, and one whose dwell ends 1 ms later; and a coldest cell at, below and above the
heater's thresholds. -/
theorem witness_AnalogSample :
    let vented := State.reset.modLink .pnl (fun k => { k with taken := some .ventRequest })
    let cold (x : Int) := State.reset.modChain .one fun k => { k with
      modules := Vector.replicate 12 (replied (Vector.replicate 16 (some 3300)) (Vector.replicate 4 (some x))) }
    State.reset.phase = .running ∧ State.reset.chosenMode = .idle
      ∧ (withString State.reset .joined).chosenMode = .run ∧ vented.chosenMode = .purge
      ∧ (atStage State.reset .confirmed).chosenMode = .fireHold ∧ (atStage vented .isolated).chosenMode = .purge
      ∧ (⟨true, 5, none⟩ : DwellOutput).lastChange + 180000 ≤ 180005
      ∧ ¬(⟨true, 6, none⟩ : DwellOutput).lastChange + 180000 ≤ 180005
      ∧ (cold (Params.defaults.heaterOn - 1)).coldest = some (Params.defaults.heaterOn - 1)
      ∧ (cold Params.defaults.heaterOff).coldest = some Params.defaults.heaterOff
      ∧ Params.defaults.heaterOn < Params.defaults.heaterOff ∧ State.reset.coldest = none := by
  decide

/-- A plant changed. -/
def planted (f : Plant → Plant) : State := State.reset.modPlant f

theorem witness_PlantTimers :
    let timed (g : FlowState) := planted (fun q => { q with flow := g, flowTimer := some 5000, pumpDuty := 200 })
    let on : DwellOutput := ⟨true, 60000, some false⟩
    let both := planted (fun q => { q with chiller1 := on, chiller2 := on })
    let later := planted (fun q => { q with chiller1 := on, chiller2 := { on with lastChange := 60001 } })
    State.reset.plant.flowInput = .noFlow ∧ State.powerOnLoading.phase ≠ .running ∧ State.reset.plant.flowTimer = none
      ∧ (timed .ok).plant.flowTimer = some 5000 ∧ (timed .pumpFault).plant.flow = .pumpFault
      ∧ State.reset.plant.chiller1.request = none
      ∧ (planted (fun q => { q with chiller1 := ⟨false, 0, some true⟩ })).plant.chiller1.request = some true
      ∧ both.plant.chiller1.expiry chillerDwell = both.plant.chiller2.expiry chillerDwell
      ∧ later.plant.chiller1.expiry chillerDwell < later.plant.chiller2.expiry chillerDwell
      ∧ later.plant.chiller2.request = some false
      ∧ (planted (fun q => { q with chiller1 := on, chiller2 := ⟨false, 0, some true⟩ })).plant.chiller2.on = false
      ∧ (planted (fun q => { q with heater := ⟨false, 0, some true⟩ })).plant.heater.on ≠ true := by decide

/-- A pending ON carried out at the end of the dwell changes stage 1. -/
theorem witness_DwellsAreRespected :
    let s := planted (fun q => { q with chiller1 := ⟨false, 0, some true⟩ })
    ∃ t, exec (.chillerDwellExpiry .stage1) s = .next t ∧ s.phase = .running ∧ t.phase = .running
      ∧ t.plant.chiller1.on ≠ s.plant.chiller1.on ∧ t.uptime = 300000 :=
  ⟨_, rfl, by decide, by decide, by decide, by decide⟩

theorem witness_LoopDebounce :
    (⟨.normal, none, .smoke⟩ : DetectorLoop).state ≠ .alarm
      ∧ (⟨.normal, some (.short, 2), .smoke⟩ : DetectorLoop).candidate ≠ some (.alarm, 2) := by decide

/-- A state with codes in the PNL change buffer. -/
def coded (s : State) (first latest : Option Code) : State :=
  s.modLink .pnl fun k => { k with firstChange := first, latestChange := latest }

/-- An evaluation that finds nothing, one whose gas reading stands at the low threshold, and passes with panel codes. -/
theorem witness_FireEvaluation :
    let stage (g : Int) := (((State.reset.sampleGas g 0).decidePass State.reset.fireView none).1).fire.stage
    let coded1 (k : Code) := (State.reset.decidePass State.reset.fireView (some k)).1.fire
    let two := coded State.reset (some .suppressionReleased) (some .resetRequest)
    State.reset.phase = .running ∧ State.reset.links.pnl.firstChange = none ∧ State.reset.links.pnl.latestChange = none
      ∧ stage 0 = .normal ∧ stage 49 = .normal ∧ stage 50 = .preAlert ∧ stage 200 = .alert
      ∧ two.links.pnl.firstChange = some .suppressionReleased ∧ two.links.pnl.latestChange = some .resetRequest
      ∧ (coded1 .suppressionReleased).stage = .confirmed ∧ (coded1 .panelAlarm).panel.active = true
      ∧ (coded1 .resetRequest).stage = .normal := by decide

/-- R91: the dwell of a heater that was OFF runs from the entry into CONFIRMED as well. -/
theorem test_entry_starts_heater_dwell :
    (({ State.reset.plant with heater := ⟨false, 5, some true⟩ } : Plant).fireOff 1000).heater = ⟨false, 1000, none⟩ := by
  decide

/-- R114: the items out of service are those that the last pass counted, whatever type the loop is given afterwards. -/
theorem test_items_are_those_last_counted :
    let s := State.reset.modFire fun f => { f with loops := f.loops.set 0 ⟨.short, none, .smoke⟩ }
    let t := configured (s.decidePass s.fireView none).1
      { Params.defaults with loopTypes := Vector.replicate 8 .unused }
    t.fire.counted = [.loop 1] ∧ t.outOfService = [] := by decide

/-- R151: SUPPRESSION-RELEASED and RESET-REQUEST taken in one evaluation: whenever the receivers take their effects, the
record of the trip shows CONFIRMED. -/
theorem test_fire_trip_shows_confirmed :
    let d := (permitted State.reset .closed).decidePass State.reset.fireView (some .suppressionReleased)
    let l := d.1.secondPass State.reset.fireView .resetRequest d.2
    l ≠ [] ∧ ∀ t ∈ l, t.permit.ring.map (fun r => (r.cause, r.stage)) = [(.fire, .confirmed)] := by decide +kernel

/-- A state with loop 1 in ALARM. -/
def smoking : State :=
  State.reset.modFire fun f => { f with loops := f.loops.set 0 ⟨.alarm, none, .smoke⟩ }

/-- Gas at the high threshold with a smoke loop in ALARM confirms. -/
theorem witness_AlertOrConfirmedEntry :
    ∃ t, exec (.fireEvaluation ((Vector.replicate 8 5000).set 0 1000) 200 0) smoking = .next t
      ∧ smoking.fire.stage.fire = false ∧ t.fire.stage = .confirmed := by
  refine ⟨_, rfl, by decide, ?_⟩
  have h : smoking.phase = .running := by decide
  simp only [fireEvaluation, if_pos h]
  rw [State.passes_fire (by decide) (by decide)]
  decide

/-- A JOINED string whose module 4 bleeds cell 2, before an entry into ALERT. -/
def bleeding : State :=
  (ready (withString State.reset .joined)).modModule .one 3 fun m => { m with requested := [2] }

/-- Gas at the high threshold enters ALERT and chooses PURGE; a smoke loop in ALARM enters ALERT and chooses RUN; of either the
snapshot shows the state before, and the balance set is emptied. -/
theorem witness_alert_entry :
    exec (.fireEvaluation (Vector.replicate 8 5000) 200 0) bleeding
        = .next (fireEvaluation (Vector.replicate 8 5000) 200 0 bleeding)
      ∧ let gas := fireEvaluation (Vector.replicate 8 5000) 200 0 bleeding
      let smoke := fireEvaluation ((Vector.replicate 8 5000).set 0 1000) 0 0 { bleeding with fire := smoking.fire }
      bleeding.links.pnl.firstChange = none ∧ bleeding.fire.stage = .normal
      ∧ gas.fire.stage = .alert ∧ gas.plant.mode = .purge ∧ smoke.fire.stage = .alert ∧ smoke.plant.mode = .run
      ∧ (gas.store.snapshots.slot1.map fun x => (x.sequence, x.trigger, x.classes, x.mode, x.limits))
        = some (1, .alertEntry, [.gas], .idle, bleeding.envelope.limits)
      ∧ (gas.link .cnv).notice .snapshot = some ⟨.snapshot 1 1 .alertEntry, 1⟩
      ∧ ((gas.chain .one).modules[3]).requested = [] := ⟨rfl, by decide +kernel⟩

theorem witness_FireReturn :
    let s := atStage (asked .pnl 13 []) .confirmed
    let t := s.modFire (fun f => { f with isolationTimer := some 5000 })
    s.delivers .pnl ⟨13, 0, []⟩ ∧ s.fire.resetConditions s.uptime = true ∧ t.fire.isolationTimer = some 5000
      ∧ t.fire.incompleteReported = false ∧ s.isolationGaps = []
      ∧ (s.modFire (fun f => { f with gas := ⟨false, some 0, some 1⟩ })).fire.resetConditions 120001 = true
      ∧ (s.modFire (fun f => { f with gas := ⟨false, some 0, some 1⟩ })).fire.resetConditions 120000 = false := by decide

/-- Both sides of a bin that is full, of the least current that is sampled, and the two clearing requests. -/
theorem witness_StatisticsCommands :
    let s (i : Int) := (ready State.reset).modChain .one
      (fun k => { k with head := { k.head with current := i } })
    (s (-50)).histogramTemp .one = some 250 ∧ (s 49).histogramTemp .one = none
      ∧ (⟨0, 0, 16777213, 0, 0, 0, 16777213⟩ : Histogram).bin 2 < 16777214
      ∧ 16777214 ≤ (⟨0, 0, 16777214, 0, 0, 0, 16777214⟩ : Histogram).bin 2
      ∧ (asked .svc 16 []).delivers .svc ⟨16, 0, []⟩ ∧ (asked .svc 18 []).delivers .svc ⟨18, 0, []⟩
      ∧ (atStage (asked .svc 16 []) .preAlert).fire.stage ≠ .normal := by decide

/-- Offers in form and out of it, with a new toggle and with the one last taken. -/
theorem witness_OfferIsTaken :
    let c1 : List Byte := [0, 0, 0x0B, 0xB8, 0x0D, 0xAC, 0, 200]
    let s1 : List Byte := [1, 0, 0x11, 0x94, 0x0B, 0xB8, 0, 100, 0x01, 0xF4, 1, 0x04, 0x33, 0]
    (asked .cnv 7 c1).delivers .cnv ⟨7, 0, c1⟩ ∧ parseOffer .cnv c1 = some ⟨false, .ok, 3000, 3500, 200, 0, none, []⟩
      ∧ (asked .cnv 7 c1).agreement.cnvToggle ≠ some false
      ∧ ((asked .cnv 7 c1).modAgreement fun a => { a with cnvToggle := some false }).agreement.toggle .cnv = some false
      ∧ (asked .stn 7 s1).delivers .stn ⟨7, 0, s1⟩
      ∧ parseOffer .stn s1 = some ⟨true, .ok, 4500, 3000, 100, 500, some 1075, []⟩
      ∧ parseOffer .cnv [2, 0, 0, 0, 0, 0, 0, 0] = none ∧ parseOffer .cnv [0, 4, 0, 0, 0, 0, 0, 0] = none := by decide

/-- R129: an STN offer with segments at 360 and at 1080 is read so; equal starts, a minute of 1440 and a length that does not
match the count are no offer. -/
theorem test_station_segments :
    let head (flag m1 m2 count : Byte) : List Byte := [1, 2, 0x11, 0x94, 0x0B, 0xB8, 0, 100, 0x01, 0xF4, flag, m1, m2, count]
    let at1 : List Byte := [0x01, 0x68, 0x05, 0xDC, 0x0F, 0xA0]
    let at2 : List Byte := [0x04, 0x38, 0, 0, 0x13, 0x88]
    parseOffer .stn (head 0 0xFF 0xFF 2 ++ at1 ++ at2)
        = some ⟨true, .offline, 4500, 3000, 100, 500, none, [⟨360, 1500, 4000⟩, ⟨1080, 0, 5000⟩]⟩
      ∧ parseOffer .stn (head 0 0 0 2 ++ at1 ++ at1) = none ∧ parseOffer .stn (head 0 0 0 2 ++ at2 ++ at1) = none
      ∧ parseOffer .stn (head 1 0x05 0xA0 0) = none ∧ (parseOffer .stn (head 1 0x05 0x9F 0)).isSome = true
      ∧ parseOffer .stn (head 0 0 0 1) = none ∧ parseOffer .stn (head 2 0 0 0) = none := by decide

theorem witness_RestartAndMinute :
    (asked .svc 8 []).delivers .svc ⟨8, 0, []⟩ ∧ State.reset.agreement.clock = none
      ∧ (State.reset.modAgreement fun a => { a with clock := some ⟨1439, 60000⟩ }).agreement.clock
        = some ⟨1439, 60000⟩ := by decide

/-- R129, R132: the acceptance ends with the resolved ramp, or NONE. -/
theorem test_acceptance_carries_ramp :
    let o : Offer := ⟨true, .ok, 4500, 3000, 100, 500, none, []⟩
    (State.reset.acceptance o).getLast? = some .nothing
      ∧ ((State.reset.modAgreement fun a => { a with state := .resolved, resolved := some ⟨3000, 3000, 100⟩ }).acceptance
        o).getLast? = some (.number 100) := by decide

/-- R138, R140: a RESOLVED agreement of 3000 in and 3000 out under the two segments: at minute 359 the segment of 1080 is in
force, at 360 its own. -/
theorem test_scheduled_basis :
    let s (m : Nat) := State.reset.modAgreement fun a => { a with
      state := .resolved, resolved := some ⟨3000, 3000, 100⟩, clock := some ⟨m - 1, 60000⟩
      stnOffer := some ⟨true, .ok, 4500, 3000, 100, 500, none, [⟨360, 1500, 4000⟩, ⟨1080, 0, 5000⟩]⟩ }
    ((minuteBoundary (s 359)).agreement.basisImport, (minuteBoundary (s 359)).agreement.basisExport) = (0, 3000)
      ∧ ((minuteBoundary (s 360)).agreement.basisImport, (minuteBoundary (s 360)).agreement.basisExport) = (1500, 3000)
      := by decide

/-- The connect conditions hold for the station, and fail with no string JOINED. -/
theorem witness_ConnectAndDisconnect :
    let s := (asked .stn 10 []).modAgreement (fun a => { a with state := .resolved })
    let u := (withString s .joined).modPermit (fun q => { q with stnCode := some .inService })
    s.delivers .stn ⟨10, 0, []⟩ ∧ s.connectConditions .stn = false ∧ u.delivers .stn ⟨10, 0, []⟩
      ∧ u.connectConditions .stn = true ∧ u.permit.state = .opened
      ∧ (permitted (asked .stn 11 []) .closePending).delivers .stn ⟨11, 0, []⟩
      ∧ (permitted (asked .stn 11 []) .closed).permit.releasePending = false := by decide

theorem witness_BreakerFeedbackAndClearLock :
    let s := permitted (asked .svc 20 [0]) .lockedOut
    let u := (permitted State.reset .closed).modPermit (fun q => { q with breaker := .closed })
    State.powerOnLoading.phase ≠ .running ∧ State.reset.phase = .running ∧ State.reset.permit.breaker = .opened
      ∧ (permitted State.reset .closePending).permit.state = .closePending ∧ u.permit.breaker = .closed
      ∧ u.permit.releasePending = false ∧ s.delivers .svc ⟨20, 0, [0]⟩ ∧ s.permit.breaker = .opened := by decide

theorem witness_PermitTimers :
    let q : Permit := { Permit.atPowerOn with
      state := .closePending, closeTimer := some 30000, releaseTimer := some 5000, recloseTimer := some 60000
      pulse := some 200, breaker := .closed }
    State.reset.permit.closeTimer = none ∧ q.closeTimer = some 30000 ∧ q.state = .closePending
      ∧ q.releaseTimer = some 5000 ∧ q.breaker = .closed ∧ { q with state := .tripped }.state = .tripped
      ∧ q.pulse = some 200 := by decide

/-- A converter FAULT and a station SHED wait, with the permit CLOSED. -/
theorem witness_PermitEvaluation :
    let s := ((permitted State.reset .closed).modLink .cnv (fun k => { k with firstChange := some .fault })).modLink .stn
      (fun k => { k with firstChange := some .hold, latestChange := some .shed })
    s.phase = .running ∧ s.permit.state.connected = true ∧ Code.fault ∈ s.links.cnv.waitingCodes
      ∧ Code.shed ∈ s.links.stn.waitingCodes := by decide

theorem witness_TripIsTaken :
    (permitted State.reset .closePending).permit.state = .closePending ∧ State.reset.permit.state ≠ .closePending
      ∧ lockout [0, 1, 600000] = true ∧ lockout [0, 1, 600001] = false := by decide

/-- Three and four requests in a queue; good, bad, short and long telegrams. -/
theorem witness_TelegramIsHandled :
    let r : Request := ⟨1, 0, []⟩
    let full (n : Nat) := State.reset.modLink .cnv (fun k => { k with queue := List.replicate n r })
    receive (telegramBytes 1 0x7E [0x7D]) = [.good 1 0x7E [0x7D]] ∧ receive [1, 2, 3] = [.bad]
      ∧ ((full 3).link .cnv).queue.length < 4 ∧ 4 ≤ ((full 4).link .cnv).queue.length
      ∧ unescape [1, 2, 3, 4] = some [1, 2, 3, 4] ∧ unescape [1, 0, 1, 9, 0, 0] = some [1, 0, 1, 9, 0, 0]
      ∧ [9, 0, 0].drop 1 ≠ crc16Bytes [1, 0, 1, 9]
      ∧ receive [0x7D] = [.bad] ∧ receive [1, 2, 3, 4, 5, 0x7D, 0x7D] = [.bad]
      ∧ receive [0x7B, 0x3C] = [.bad, .status 0x3C] ∧ receive [1, 2, 0x7B, 0x3C, 5] = [.bad, .status 0x3C] := by decide

theorem witness_TelegramRoundTrip : (List.replicate 60 (0x7E : Byte)).length ≤ 60 := by decide

/-- One status word of RUNNING held toward a take on CNV, the change buffer empty, half full and full. -/
theorem witness_StatusWord :
    let s := State.reset.modLink .cnv (fun k => { k with candidate := some .running })
    let u := s.modLink .cnv (fun k => { k with firstChange := some .standby, latestChange := some .syncReady })
    let v := maintained (State.reset.modLink .svc (fun k => { k with candidate := some .absent }))
    (0x3C : Byte).toNat / 16 + (0x3C : Byte).toNat % 16 = 15 ∧ namedCode .cnv 3 = .running
      ∧ (s.link .cnv).candidate = some .running ∧ (s.link .cnv).taken ≠ some .running ∧ (s.link .cnv).firstChange = none
      ∧ (u.link .cnv).latestChange = some .syncReady ∧ (v.link .svc).candidate = some .absent
      ∧ (v.link .svc).taken ≠ some .absent ∧ v.siteMode = .maintenance ∧ namedCode .svc 0 = .absent
      ∧ (0x3D : Byte).toNat / 16 + (0x3D : Byte).toNat % 16 ≠ 15 := by decide

/-- R163: a panel code taken while both places of the change buffer hold one replaces the latest. -/
theorem test_panel_change_into_full_buffer :
    let s := (coded State.reset (some .panelAlarm) (some .panelFault)).modLink .pnl fun k =>
      { k with candidate := some .resetRequest }
    namedCode .pnl 4 = .resetRequest
      ∧ ((statusWord .pnl (statusByte 4) s).link .pnl).latestChange = some .resetRequest
      ∧ ((statusWord .pnl (statusByte 4) s).link .cnv).notice .codeLost = some ⟨.codeLost .pnl .panelFault, 1⟩ := by decide

theorem witness_Silence :
    (State.reset.link .pnl).silence = some 10000 ∧ (State.reset.link .svc).silence = some 5000
      ∧ (State.reset.link .stn).silence = some 120000 ∧ (State.reset.link .cnv).silence = some 2000
      ∧ State.reset.siteMode = .auto ∧ (maintained State.reset).siteMode = .maintenance
      ∧ { maintained State.reset with serviceCap := 3999 }.serviceCap < 4000
      ∧ (State.powerOnLoading.link .cnv).silence = none := by decide

/-- R134, R135: an STN silence in RESOLVED keeps the resolved values and posts AGREEMENT; a CNV silence that changes the state
posts it too. Both compute GA. -/
theorem test_silences_of_the_parties :
    let o : Offer := ⟨false, .ok, 3000, 3500, 200, 0, none, []⟩
    let resolved := State.reset.modAgreement fun a =>
      { a with cnvOffer := some o, stnOffer := some o, resolved := some ⟨3000, 3500, 200⟩, state := .resolved }
    let stn := silenceTimeout .stn resolved
    let cnv := silenceTimeout .cnv resolved
    stn.agreement.state = .lapsed ∧ stn.agreement.resolved = some ⟨3000, 3500, 200⟩
      ∧ (stn.link .pnl).notice .agreement = some ⟨.agreement .lapsed ⟨false, false, false⟩, 1⟩
      ∧ stn.agreement.bus = some (6000, .nominal)
      ∧ cnv.agreement.state = .offered ∧ cnv.agreement.resolved = none
      ∧ (cnv.link .stn).notice .agreement = some ⟨.agreement .offered ⟨false, false, false⟩, 1⟩
      ∧ cnv.agreement.bus = some (6000, .nominal) := by decide +kernel

/-- Each row of the site code table has a state; the last start-up row is a power-on's. -/
theorem witness_Sending :
    let closed := permitted (withString State.reset .joined) .closed
    let limited (n : Nat) := { closed with envelope := { closed.envelope with limits := .all n } }
    State.reset.siteCode = .startUp ∧ (State.reset.link .cnv).out = [] ∧ (atStage State.reset .alert).siteCode = .fireAlert
      ∧ (atStage State.reset .isolated).siteCode = .fireIsolated ∧ (limited 1249).siteCode = .derated
      ∧ (limited 1250).siteCode = .connected ∧ (permitted (limited 1250) .opened).siteCode = .ready
      ∧ ((State.reset.answerHead .svc ⟨27, 0, []⟩ .done []).link .svc).out = [⟨0x9B, 0, .done, [], true⟩] := by decide

theorem witness_Notices :
    (State.reset.link .cnv).notice .fault = none
      ∧ (State.reset.link .cnv).notice .restart = some ⟨.restart .powerOn, 1⟩
      ∧ NoticeKind.fault ≠ NoticeKind.restart ∧ (asked .cnv 21 []).delivers .cnv ⟨21, 0, []⟩
      ∧ (asked .cnv 22 [3, 0xFF]).delivers .cnv ⟨22, 0, [3, 0xFF]⟩ := by decide

theorem witness_SetSiteMode :
    let s := asked .svc 26 [0]
    s.delivers .svc ⟨26, 0, [0]⟩ ∧ (s.link .svc).taken ≠ some .present ∧ (maintained s).delivers .svc ⟨26, 0, [0]⟩
      ∧ ((maintained s).link .svc).taken = some .present ∧ (asked .svc 26 [2]).delivers .svc ⟨26, 0, [2]⟩
      ∧ (maintained s).serviceCap = 4000 ∧ { maintained s with serviceCap := 3999 }.serviceCap < 4000 := by decide

/-- A cross-check that fails at equality and holds one below it, a balancing ceiling, and two numbers of no parameter. -/
theorem witness_SetParam :
    (asked .svc 23 [4, 0, 0, 0x09, 0xC4]).delivers .svc ⟨23, 0, [4, 0, 0, 0x09, 0xC4]⟩
      ∧ paramForm 4 = some (.numeric 2000 5000) ∧ signed4 0 0 0x09 0xC4 = 2500
      ∧ (Params.defaults.set 4 (.number 2500)).crossCheck 4 = false
      ∧ (Params.defaults.set 4 (.number 2501)).crossCheck 4 = true
      ∧ (asked .svc 23 [12, 0, 0, 1, 0]).delivers .svc ⟨23, 0, [12, 0, 0, 1, 0]⟩ ∧ Params.defaults.balCeiling ≠ 256
      ∧ (asked .svc 23 [58]).delivers .svc ⟨23, 0, [58]⟩ ∧ (asked .svc 23 [0]).delivers .svc ⟨23, 0, [0]⟩ := by decide

/-- SET-PARAM of a name, a speed and a charge table: the last name and one past it, a speed equally near to two, and tables
in and out of order. -/
theorem test_set_param_other_forms :
    let sent (value : List Byte) := setParam .svc 0 value (asked .svc 23 value)
    let code (value : List Byte) := ((sent value).link .svc).out.map Answer.code
    let table (second : Byte) : List Byte := [19, 2, 0, 100, 0, 50, 0, second, 0, 200]
    (asked .svc 23 [37, 2]).delivers .svc ⟨23, 0, [37, 2]⟩ ∧ (sent [37, 2]).params.get 37 = .named 2
      ∧ code [37, 2] = [.done] ∧ code [37, 3] = [.badFormat]
      ∧ (sent [53, 0, 0, 0x38, 0x40]).params.get 53 = .number 9600 ∧ code [53, 0, 0, 0x38, 0x40] = [.clamped]
      ∧ code [53, 0, 0, 0x25, 0x80] = [.done]
      ∧ (sent (table 101)).params.get 19 = .list [⟨100, 50⟩, ⟨101, 200⟩] ∧ code (table 101) = [.done]
      ∧ code (table 100) = [.badFormat] ∧ code [19, 1, 0, 100, 0, 50] = [.badFormat] := by decide +kernel

/-- The working set as stored and changed, and a write that runs for a request at the head of the queue. -/
theorem witness_Commit :
    let s := asked .svc 25 []
    let u := configured s { Params.defaults with fanMin := 65 }
    let w := u.modConfig (fun k => { k with writing := some u.params })
    s.delivers .svc ⟨25, 0, []⟩ ∧ s.config.writing = none ∧ s.config.unchanged = true ∧ u.config.unchanged = false
      ∧ u.delivers .svc ⟨25, 0, []⟩ ∧ w.config.writing = some u.params ∧ (w.link .svc).queue = [⟨25, 0, []⟩]
      ∧ w.config.fault = false := by decide

theorem witness_Resets :
    let off := State.reset.startReset .powerOn .off
    let held := { State.reset with resetLine := true }.startReset .resetLine .held
    State.reset.phase ≠ .off ∧ off.phase = .off ∧ held.phase = .held ∧ held.resetLine = true
      ∧ State.reset.resetLine = false ∧ State.powerOnLoading.phase = .loading
      ∧ (asked .svc 27 []).delivers .svc ⟨27, 0, []⟩ ∧ (asked .svc 27 []).resetAllowed = true
      ∧ (atStage (asked .svc 27 []) .alert).resetAllowed = false ∧ State.reset.siteResetDue = false
      ∧ { State.reset with siteResetDue := true }.siteResetDue = true := by decide

/-! ## States that meet the invariants, each with a command that leaves it -/

/-- The part after a power-on, in CONFIRMED with the plant held off, before an envelope tick. -/
def burning : State :=
  { atStage State.reset .confirmed with
    envelope := { State.reset.envelope with table := { State.reset.envelope.table with fs := .all 0 } }
    plant := { State.reset.plant with mode := .fireHold }, pending := [.envelopeTick] }

/-- The part with string 1 JOINED and its units CURRENT, before a histogram sample. -/
def joined : State :=
  let s := (withString State.reset .joined).modChain .one fun k =>
    { k with
      head := { k.head with status := .current }
      modules := vmap (fun m => { m with status := .current }) k.modules }
  { s with pending := [.histogramSample] }

theorem witness_StepKeepsQueues : (asked .svc 3 [1, 12]).queuesKept ∧ ∃ t, step burning = .next t := by
  refine ⟨⟨fun l => by cases l <;> decide, fun c => ?_⟩, _, rfl⟩
  have e : ∀ c, ((asked .svc 3 [1, 12]).chain c).probes = [] := by intro c; cases c <;> decide
  exact ⟨by rw [e c]; decide, by rw [e c]; decide, fun x h => absurd (e c ▸ h) List.not_mem_nil⟩

theorem witness_StepKeepsUnitsCurrent : joined.UnitsKept .one ∧ ∃ t, step joined = .next t := by
  refine ⟨⟨fun _ => by decide, fun x h _ => ?_, fun x h k => ?_, fun h => absurd h (by decide), fun h => absurd rfl h⟩, _, rfl⟩
  · decide
  · have e : (joined.chain .one).inFlight = some ⟨.scan, .head, [], [], 4⟩ := by decide
    rw [e] at h; cases h; cases k

theorem witness_StepKeepsBalanceSets : joined.balanceKept ∧ ∃ t, step joined = .next t := by
  refine ⟨⟨fun c a => ?_, fun h => absurd (by decide) h⟩, _, rfl⟩
  have e : ∀ c (a : Addr), ((joined.chain c).modules[a]).requested = [] := by
    intro c; cases c <;> decide
  exact ⟨by rw [e c a]; decide, fun h => absurd (e c a) h⟩

theorem witness_StepKeepsEnvelopeBounded : burning.envelopeBounded ∧ ∃ t, step burning = .next t :=
  ⟨fun c => by cases c <;> decide, _, rfl⟩

theorem witness_StepKeepsPlant : burning.plantKept ∧ burning.fire.stage.fire = true :=
  ⟨⟨by unfold Plant.stagesOrdered; decide, fun _ => ⟨by decide, by decide, by decide, by decide, by decide⟩⟩, by decide⟩

theorem witness_StepKeepsFireIsolation : burning.FireKept ∧ burning.fire.stage = .confirmed :=
  ⟨⟨witness_StepKeepsEnvelopeBounded.1, fun _ => by decide, by decide, by decide⟩, by decide⟩

theorem witness_StepKeepsRecords : joined.recordsKept ∧ ∃ t, step joined = .next t := by
  refine ⟨⟨by unfold SnapshotStore.Ordered; decide, fun c => ⟨by cases c <;> decide, fun i => ?_⟩⟩, _, rfl⟩
  cases c <;> revert i <;> decide

theorem witness_StepKeepsAgreement : burning.agreementKept ∧ ∃ t, step burning = .next t :=
  ⟨⟨fun _ => by decide, fun h => absurd h (by decide), fun h => absurd h (by decide)⟩, _, rfl⟩

theorem witness_StepKeepsPermit :
    let s := permitted joined .closed
    s.permitKept ∧ ∃ t, step s = .next t :=
  ⟨⟨fun _ => by decide, fun _ => by decide⟩, _, rfl⟩

/-- Offers at the edge of each flag: a minimum import at the converter's limit sets none; OFFLINE counts only without a
lapse; the ramps differ. -/
theorem witness_ResolutionRule :
    let cnv : Offer := ⟨false, .ok, 300, 300, 10, 0, none, []⟩
    let stn (k : RemoteCondition) (least : Nat) : Offer := ⟨true, k, 200, 400, 20, least, some 0, []⟩
    ¬(cnv.importLimit < (stn .ok 300).minImport) ∧ cnv.importLimit < (stn .ok 301).minImport
      ∧ cnv.ramp ≠ (stn .ok 0).ramp
      ∧ (cnv.condition ≠ .ok ∨ ((stn .offline 0).condition ≠ .ok ∧ ¬((stn .offline 0).condition = .offline ∧ false = true)))
      ∧ ¬(cnv.condition ≠ .ok ∨ ((stn .offline 0).condition ≠ .ok ∧ ¬((stn .offline 0).condition = .offline ∧ true = true))) := by
  decide

end Sys2Proof.Tests
end

-- ==== Proofs: the evaluation of a sensor (section 2.4) ====
section
namespace Sys2Proof.Machine

/-! ## One equation per reading and baseline state -/

section Evaluate

variable (p : Params) (k : SensorTrack) (x : Int)

/-- R31, a SENSOR-FAULT: baseline and baseline state stay. -/
@[simp] theorem SensorTrack.evaluate_none : k.evaluate p none = { k with rise := none, flag := .none } := rfl

variable {k}

/-- R27, UNSET: the baseline is formed from the reading. -/
theorem SensorTrack.evaluate_of_unset (unset : k.state = .unset) :
    k.evaluate p (some x) = ⟨16 * x, .tracking, some 0, riseFlag p 0 x⟩ := by
  simp only [SensorTrack.evaluate, unset]

/-- R28, TRACKING: the rise is taken against the moved baseline. -/
theorem SensorTrack.evaluate_of_tracking {b r : Int} (tracking : k.state = .tracking)
    (moved : b = trackBaseline p k.baseline x) (rise : r = riseOf b x) :
    k.evaluate p (some x) = ⟨b, if p.preRise ≤ r then .frozen else .tracking, some r, riseFlag p r x⟩ := by
  subst rise moved
  simp only [SensorTrack.evaluate, tracking, ge_iff_le]

/-- R30, FROZEN: the rise is taken against the kept baseline. -/
theorem SensorTrack.evaluate_of_frozen {r : Int} (frozen : k.state = .frozen) (rise : r = riseOf k.baseline x) :
    k.evaluate p (some x)
      = ⟨k.baseline, if r < Int.fdiv p.preRise 2 then .tracking else .frozen, some r, riseFlag p r x⟩ := by
  subst rise
  simp only [SensorTrack.evaluate, frozen]

/-- R29: in each baseline state the flag is judged from the very rise that is stored. -/
theorem SensorTrack.evaluate_flag_of_rise {r : Int} (rise : (k.evaluate p (some x)).rise = some r) :
    (k.evaluate p (some x)).flag = riseFlag p r x := by
  cases state : k.state with
  | unset =>
    rw [evaluate_of_unset p x state] at rise ⊢
    cases rise
    rfl
  | tracking =>
    rw [evaluate_of_tracking p x state rfl rfl] at rise ⊢
    cases rise
    rfl
  | frozen =>
    rw [evaluate_of_frozen p x state rfl] at rise ⊢
    cases rise
    rfl

end Evaluate

/-! ## The obligation -/

/-- Settles O16: each clause is the equation of its baseline state, the flag's clause holds in all three. -/
theorem sensorRules : Obligations.SensorRules := by
  intro p k x
  refine ⟨fun b r tracking moved rise => ?tracking, fun unset => ?unset, fun r frozen rise => ?frozen,
    fun r rise => ?flag, SensorTrack.evaluate_none p k⟩
  case tracking =>
    rw [SensorTrack.evaluate_of_tracking p x tracking moved rise]
    exact ⟨rfl, rfl, rfl⟩
  case unset =>
    rw [SensorTrack.evaluate_of_unset p x unset]
    exact ⟨rfl, rfl, rfl⟩
  case frozen =>
    rw [SensorTrack.evaluate_of_frozen p x frozen rise]
    exact ⟨rfl, rfl, rfl⟩
  case flag =>
    rw [SensorTrack.evaluate_flag_of_rise p x rise]
    rfl

end Sys2Proof.Machine
end

-- ==== Proofs: the interpolation rule (section 4.2) ====
section
namespace Sys2Proof.Machine

/-! ## Ascending lists -/

@[simp] theorem ascending_cons_cons {p q : Breakpoint} {rest : List Breakpoint} :
    ascending (p :: q :: rest) = true ↔ p.t < q.t ∧ ascending (q :: rest) = true := by
  simp only [ascending, Bool.and_eq_true, decide_eq_true_eq]

theorem head_le_of_mem_of_ascending {p b : Breakpoint} {rest : List Breakpoint}
    (sorted : ascending (p :: rest) = true) (mem : b ∈ p :: rest) : p.t ≤ b.t := by
  induction rest generalizing p with
  | nil => rw [List.mem_singleton.mp mem]
  | cons q rest ih =>
    obtain ⟨rising, sortedTail⟩ := ascending_cons_cons.mp sorted
    rcases List.mem_cons.mp mem with rfl | memTail
    · exact le_rfl
    · exact rising.le.trans (ih sortedTail memTail)

/-! ## One equation per place of the input -/

section Interpolate

variable {x : Int} {p q : Breakpoint} {rest : List Breakpoint}

theorem interpolate_singleton : interpolate x [p] = p.v := rfl

theorem interpolate_of_lt_head (below : x < p.t) : interpolate x (p :: rest) = p.v := by
  cases rest with
  | nil => exact interpolate_singleton
  | cons q rest => simp only [interpolate, if_pos below]

theorem interpolate_of_first_segment (above : p.t ≤ x) (below : x < q.t) :
    interpolate x (p :: q :: rest) = p.v + Int.fdiv ((q.v - p.v) * (x - p.t)) (q.t - p.t) := by
  simp only [interpolate, if_neg above.not_gt, if_pos below]

theorem interpolate_past_first_segment (rising : p.t < q.t) (above : q.t ≤ x) :
    interpolate x (p :: q :: rest) = interpolate x (q :: rest) := by
  simp only [interpolate, if_neg (rising.le.trans above).not_gt, if_neg above.not_gt]

/-- At the first breakpoint itself the line of the first segment starts from its value: the product is 0. -/
theorem interpolate_at_head (sorted : ascending (p :: rest) = true) : interpolate p.t (p :: rest) = p.v := by
  cases rest with
  | nil => exact interpolate_singleton
  | cons q rest =>
    have rising : p.t < q.t := (ascending_cons_cons.mp sorted).1
    rw [interpolate_of_first_segment le_rfl rising, sub_self, mul_zero, Int.zero_fdiv, add_zero]

/-! ## The three rows of R66 -/

theorem interpolate_of_le_head (sorted : ascending (p :: rest) = true) (low : x ≤ p.t) :
    interpolate x (p :: rest) = p.v := by
  rcases low.lt_or_eq with below | rfl
  · exact interpolate_of_lt_head below
  · exact interpolate_at_head sorted

/-- The last breakpoint lies at or above each earlier one, so the input is past every segment. -/
theorem interpolate_of_last_le {last : Breakpoint} (sorted : ascending (p :: rest) = true)
    (isLast : (p :: rest).getLast? = some last) (high : last.t ≤ x) : interpolate x (p :: rest) = last.v := by
  induction rest generalizing p with
  | nil =>
    cases isLast
    exact interpolate_singleton
  | cons q rest ih =>
    obtain ⟨rising, sortedTail⟩ := ascending_cons_cons.mp sorted
    rw [List.getLast?_cons_cons] at isLast
    have past : q.t ≤ x := (head_le_of_mem_of_ascending sortedTail (List.mem_of_getLast? isLast)).trans high
    rw [interpolate_past_first_segment rising past, ih sortedTail isLast]

/-- Every segment before the `i`-th ends at or below its start `a`, so the input is past them. -/
theorem interpolate_of_segment {i : Nat} {a b : Breakpoint} (sorted : ascending (p :: rest) = true)
    (left : (p :: rest)[i]? = some a) (right : (p :: rest)[i + 1]? = some b) (above : a.t ≤ x) (below : x < b.t) :
    interpolate x (p :: rest) = a.v + Int.fdiv ((b.v - a.v) * (x - a.t)) (b.t - a.t) := by
  induction rest generalizing p i with
  | nil => simp at right
  | cons q rest ih =>
    obtain ⟨rising, sortedTail⟩ := ascending_cons_cons.mp sorted
    cases i with
    | zero =>
      cases left
      cases right
      exact interpolate_of_first_segment above below
    | succ i =>
      rw [List.getElem?_cons_succ] at left right
      have past : q.t ≤ x := (head_le_of_mem_of_ascending sortedTail (List.mem_of_getElem? left)).trans above
      rw [interpolate_past_first_segment rising past, ih sortedTail left right]

end Interpolate

/-! ## The obligation -/

/-- Settles O26: the three rows of R66, each by its own lemma. -/
theorem interpolationRule : Obligations.InterpolationRule := by
  intro list x first last sorted _ isFirst isLast
  obtain ⟨rest, rfl⟩ := List.head?_eq_some_iff.mp isFirst
  exact ⟨interpolate_of_le_head sorted, interpolate_of_last_le sorted isLast,
    fun _ _ _ left right => interpolate_of_segment sorted left right⟩

end Sys2Proof.Machine
end

-- ==== Proofs: the debounce of a detector loop (section 6.3) ====
section
namespace Sys2Proof.Machine

/-! ## One equation per candidate of the loop (R98) -/

section Debounce

variable {d : DetectorLoop} {x : LoopState}

/-- R98: the loop's own state clears the candidate, whatever it is. -/
@[simp] theorem DetectorLoop.sample_own_state (d : DetectorLoop) : d.sample d.state = { d with candidate := none } :=
  if_pos rfl

/-- R98: a state that is not the candidate becomes it, with the count 1. -/
theorem DetectorLoop.sample_of_new (other : x ≠ d.state) (new : ∀ n, d.candidate ≠ some (x, n)) :
    d.sample x = { d with candidate := some (x, 1) } := by
  cases held : d.candidate with
  | none => simp only [sample, if_neg other, held]
  | some candidate =>
    obtain ⟨y, n⟩ := candidate
    have differs : x ≠ y := by
      rintro rfl
      exact new n held
    simp only [sample, if_neg other, held, if_neg differs]

/-- R98: a candidate with the count 1 that is seen again has the count 2. -/
theorem DetectorLoop.sample_of_counted_once (other : x ≠ d.state) (once : d.candidate = some (x, 1)) :
    d.sample x = { d with candidate := some (x, 2) } := by
  simp only [sample, if_neg other, once, if_true]

/-- R98: any other count is that of the third agreeing sample, which the loop's state follows. -/
theorem DetectorLoop.sample_of_counted {n : Nat} (other : x ≠ d.state) (counted : d.candidate = some (x, n))
    (more : n ≠ 1) : d.sample x = { d with state := x, candidate := none } := by
  simp only [sample, if_neg other, counted, if_true, if_neg more]

end Debounce

/-! ## The obligation -/

/-- Settles O34: the classification is the model's own; each sample of a sequence is rewritten by the equation of the
candidate that the samples before it have left. -/
theorem loopDebounce : Obligations.LoopDebounce := by
  intro d ohms x y
  refine ⟨rfl, d.sample_own_state, fun other new => ?_⟩
  have first : d.sample x = { d with candidate := some (x, 1) } := DetectorLoop.sample_of_new other new
  have second : (d.sample x).sample x = { d with candidate := some (x, 2) } := by
    rw [first]
    exact DetectorLoop.sample_of_counted_once other rfl
  refine ⟨first, second, ?third, fun differs otherState => ?replaced, ?cleared⟩
  case third =>
    rw [second]
    exact DetectorLoop.sample_of_counted other rfl (by decide)
  case replaced =>
    rw [first]
    refine DetectorLoop.sample_of_new otherState fun n held => differs ?_
    cases held
    rfl
  case cleared =>
    rw [first]
    exact DetectorLoop.sample_own_state { d with candidate := some (x, 1) }

end Sys2Proof.Machine
end

-- ==== Proofs: the resolution of the offers (section 8.3) ====
section
namespace Sys2Proof.Machine

/-! ## What sets each mismatch flag (R132) -/

section Mismatch

variable {cnv stn : Offer} {lapse : Bool}

/-- R132, CONDITION: an OFFLINE station is excused while the station lapse is YES. -/
theorem mismatch_condition_iff :
    (mismatch cnv stn lapse).condition = true ↔
      cnv.condition ≠ .ok ∨ (stn.condition ≠ .ok ∧ ¬(stn.condition = .offline ∧ lapse = true)) := by
  simp [mismatch, imp_iff_not_or]

/-- R132, MIN-IMPORT. -/
theorem mismatch_minImport_iff : (mismatch cnv stn lapse).minImport = true ↔ cnv.importLimit < stn.minImport :=
  decide_eq_true_iff

/-- R132, RAMP-DIFFERS. -/
theorem mismatch_rampDiffers_iff : (mismatch cnv stn lapse).rampDiffers = true ↔ cnv.ramp ≠ stn.ramp :=
  bne_iff_ne

/-- R132: three flags, each set exactly when its rule says, are the mismatch flags of the two offers. -/
theorem mismatch_eq_of_iff {condition minImport rampDiffers : Bool}
    (conditionRule : condition = true ↔
      cnv.condition ≠ .ok ∨ (stn.condition ≠ .ok ∧ ¬(stn.condition = .offline ∧ lapse = true)))
    (minImportRule : minImport = true ↔ cnv.importLimit < stn.minImport)
    (rampRule : rampDiffers = true ↔ cnv.ramp ≠ stn.ramp) :
    mismatch cnv stn lapse = ⟨minImport, condition, rampDiffers⟩ := by
  rw [MismatchFlags.mk.injEq]
  exact ⟨Bool.eq_iff_iff.mpr (mismatch_minImport_iff.trans minImportRule.symm),
    Bool.eq_iff_iff.mpr (mismatch_condition_iff.trans conditionRule.symm),
    Bool.eq_iff_iff.mpr (mismatch_rampDiffers_iff.trans rampRule.symm)⟩

end Mismatch

/-! ## The resolution of two offers (R132) -/

section Resolution

variable {cnv stn : Offer} {lapse : Bool} {f : MismatchFlags}

/-- R132: CONDITION or MIN-IMPORT is a mismatch, with nothing resolved. -/
theorem resolution_of_blocked (flags : mismatch cnv stn lapse = f) (blocked : (f.condition || f.minImport) = true) :
    resolution (some cnv) (some stn) lapse = (.mismatch, f, none) := by
  simp only [resolution, flags, if_pos blocked]

/-- R132: with neither of the two, RAMP-DIFFERS does not stand against RESOLVED or LAPSED, and the smaller values hold. -/
theorem resolution_of_agreed (flags : mismatch cnv stn lapse = f) (agreed : ¬(f.condition || f.minImport) = true) :
    resolution (some cnv) (some stn) lapse =
      (if lapse then .lapsed else .resolved, f,
        some ⟨min stn.importLimit cnv.importLimit, min stn.exportLimit cnv.exportLimit, min cnv.ramp stn.ramp⟩) := by
  simp only [resolution, flags, if_neg agreed]

end Resolution

/-! ## The obligation -/

/-- Settles O41: with an offer missing the answer is the model's own equation; with both held the flags are those of
`mismatch`, and the two cases are those of a mismatch and of an agreement. -/
theorem resolutionRule : Obligations.ResolutionRule := by
  intro lapse
  refine ⟨rfl, fun cnv stn condition minImport rampDiffers => ⟨rfl, rfl, ?both⟩⟩
  case both =>
    intro conditionRule minImportRule rampRule
    have flags : mismatch cnv stn lapse = ⟨minImport, condition, rampDiffers⟩ :=
      mismatch_eq_of_iff conditionRule minImportRule rampRule
    by_cases blocked : (condition || minImport) = true
    · rw [resolution_of_blocked flags blocked, if_pos blocked, if_pos blocked]
    · rw [resolution_of_agreed flags blocked, if_neg blocked, if_neg blocked]

end Sys2Proof.Machine
end

-- ==== Proofs: what a command can change ====
section
namespace Sys2Proof.Machine

/-! ## The parts of the state -/

/-- The parts of the state that the frame of a command speaks of. -/
inductive Part where
  | phase | chains | supervision | strings | envelope | plant | fire | store | agreement | permit | links | config
  | pending
  deriving DecidableEq

/-- A part is the same in two states. -/
def Part.same : Part → State → State → Prop
  | .phase, s, t => t.phase = s.phase
  | .chains, s, t => t.chains = s.chains
  | .supervision, s, t => t.supervision = s.supervision
  | .strings, s, t => t.strings = s.strings
  | .envelope, s, t => t.envelope = s.envelope
  | .plant, s, t => t.plant = s.plant
  | .fire, s, t => t.fire = s.fire
  | .store, s, t => t.store = s.store
  | .agreement, s, t => t.agreement = s.agreement
  | .permit, s, t => t.permit = s.permit
  | .links, s, t => t.links = s.links
  | .config, s, t => t.config = s.config
  | .pending, s, t => t.pending = s.pending

theorem Part.same_refl (p : Part) (s : State) : p.same s s := by cases p <;> rfl

theorem Part.same_trans {p : Part} {s t u : State} (h : p.same s t) (k : p.same t u) : p.same s u := by
  cases p <;> exact Eq.trans k h

/-- The parts that a command can change. -/
def changedBy : Instr → List Part
  | .chainReply .. | .replyTimeout _ => [.chains, .supervision, .strings, .envelope, .store, .agreement, .permit, .links]
  | .readingAgeTick => [.chains]
  | .cycleDue _ | .unfittedCheck _ => [.chains, .supervision, .links]
  | .probeModule .. => [.chains, .links]
  | .resetBaseline .. => [.supervision, .links]
  | .joinString .. | .releaseString .. | .clearLockString .. | .openingTimerExpiry _ =>
    [.strings, .envelope, .agreement, .permit, .links]
  | .prechargeTimerExpiry _ | .feedbackCheck _ => [.strings, .envelope, .store, .agreement, .permit, .links]
  | .feedbackInputChange .. => [.strings]
  | .clearLockBreaker .. | .connect .. | .disconnect .. | .breakerFeedbackChange _ | .closePendingTimerExpiry
  | .releaseTimerExpiry | .recloseTimerExpiry | .permitEvaluation => [.permit, .links]
  | .tripPulseEnd => [.permit]
  | .envelopeTick | .setCap .. | .setSiteMode .. => [.envelope, .links]
  | .analogSample .. | .statusWord .. => [.envelope, .plant, .links]
  | .flowSwitchChange _ | .chillerDwellExpiry _ | .heaterDwellExpiry => [.plant]
  | .flowTimerExpiry => [.plant, .links]
  | .fireEvaluation .. | .resetFire .. =>
    [.chains, .strings, .envelope, .plant, .fire, .store, .agreement, .permit, .links]
  | .isolationTimerExpiry => [.fire, .links]
  | .clearSnapshots .. | .clearStats .. => [.store, .links]
  | .histogramSample => [.store]
  | .offer .. | .agreementRestart .. | .silenceTimeout _ => [.envelope, .agreement, .permit, .links]
  | .minuteBoundary => [.envelope, .agreement, .links]
  | .telegram .. => [.envelope, .plant, .store, .links]
  | .setParam .. => [.chains, .links, .config]
  | .commit .. => [.links, .config]
  | .commitComplete => [.envelope, .links, .config]
  | .readCells .. | .readString .. | .readEnvelope .. | .readFire .. | .readSnapshot .. | .readStats ..
  | .readAgreement .. | .unknownKind .. | .readNotices .. | .setMask .. | .readParam .. | .siteReset ..
  | .sendStatusWord _ | .answerSent _ => [.links]
  | .resetLineRelease => [.phase]
  | .siteResetStart | .powerOn | .resetLineAssert | .startUpLoadComplete | .lossOfSupply =>
    [.phase, .chains, .supervision, .strings, .envelope, .plant, .fire, .store, .agreement, .permit, .links, .config]

/-! ## Serving -/

/-- A block leaves a part as it was. -/
abbrev Part.keptBy (p : Part) (s : State) (block : State → State × Served) : Prop := p.same s (block s).1

section
variable {p : Part} {s : State} {l : Link} {r : Request}

theorem Part.same_modLink (h : p ≠ .links) (t : State) (f : LinkState → LinkState) : p.same t (t.modLink l f) := by
  cases p <;> simp_all [Part.same]

/-- What a block leaves alone, and no link holds, the serving of a request leaves alone. -/
theorem Part.same_serveWith (h : p ≠ .links) {refused : State → List Item} {block : State → State × Served}
    (hb : p.keptBy s block) : p.same s (s.serveWith l r refused block) :=
  State.serveWith_keeps (P := p.same s) (fun t _ f ht => Part.same_trans ht (Part.same_modLink h t f)) (p.same_refl s) hb

theorem Part.same_serve (h : p ≠ .links) {block : State → State × Served} (hb : p.keptBy s block) :
    p.same s (s.serve l r block) := Part.same_serveWith h hb

theorem Part.same_serveReported (h : p ≠ .links) {block : State → State × AnswerCode} (hb : p.same s (block s).1) :
    p.same s (s.serveReported l r block) := Part.same_serveWith h hb
end

/-- What a block leaves alone, and no link holds, the serving of its request leaves alone, whatever its payload. -/
theorem Part.keptBy_noPayload {p : Part} {s : State} {payload : List Byte} {block : State → State × Served}
    (hb : p.keptBy s block) : p.keptBy s (noPayload payload block) := by
  unfold Part.keptBy noPayload
  split
  · exact hb
  · exact p.same_refl s

/-- What an action on a string leaves alone, a request that names the string leaves alone. -/
theorem Part.keptBy_onString {p : Part} {s : State} {payload : List Byte} {act : State → Str → State × AnswerCode}
    (hb : ∀ c, p.same s (act s c).1) : p.keptBy s (onString payload act) := by
  unfold Part.keptBy onString
  split
  · exact hb _
  · exact p.same_refl s

/-! ## Orders -/

/-- What every state offered keeps, and the count of choices does not touch, a free choice keeps. -/
theorem State.oneOf_keeps {P : State → Prop} (hn : ∀ t n, P t → P { t with choices := n }) {first : State}
    {others : List State} (h : ∀ t ∈ first :: others, P t) : P (State.oneOf first others) := by
  obtain ⟨t, ht, n, e⟩ := State.oneOf_cases first others
  exact e ▸ hn t n (h t ht)

/-- A list taken into another holds what the two hold. -/
theorem mem_of_mem_weave {α : Type} {xs ys w : List α} {a : α} (hw : w ∈ weave xs ys) (ha : a ∈ w) :
    a ∈ xs ∨ a ∈ ys := by
  induction ys generalizing xs w with
  | nil => exact .inl ((List.mem_singleton.1 hw) ▸ ha)
  | cons y rest ih =>
    simp only [weave, List.mem_flatMap, List.mem_range, List.mem_map] at hw
    obtain ⟨i, -, v, hv, rfl⟩ := hw
    rcases List.mem_append.1 ha with ha | ha
    · exact .inl (List.mem_of_mem_take ha)
    · rcases List.mem_cons.1 ha with rfl | ha
      · exact .inr (List.mem_cons_self ..)
      · exact (ih hv ha).imp List.mem_of_mem_drop (List.mem_cons_of_mem _)

/-- The count of choices is no part of what a frame speaks of. -/
theorem Part.same_choices {p : Part} {s t : State} (n : Nat) (h : p.same s t) : p.same s { t with choices := n } := by
  cases p <;> simpa [Part.same] using h

/-! ## A fire evaluation as a course of decisions and effects -/

/-- R113: what a change of stage hands on: the FS update, on the entry into CONFIRMED the forced openings and the forced
trip, and the plant's own. -/
theorem State.mem_stageEffects {s : State} {old : FireStage} {e : FireEffect} (h : e ∈ s.stageEffects old) :
    e = s.fsEffect
      ∨ (confirmedEntry old s.fire.stage = true
        ∧ ((∃ c, e = (.string c, fun t => t.forceOpen c)) ∨ e = (.permit, State.forcedTrip)))
      ∨ e = (.plant, fun t => t.plantStageChange (confirmedEntry old s.fire.stage)) := by
  have forced {c : Str} (h : e ∈ s.forceEffect c) : e = (.string c, fun t => t.forceOpen c) := by
    unfold State.forceEffect at h
    split at h
    · cases h
    · exact List.mem_singleton.1 h
  have tripped (h : e ∈ s.tripEffect) : e = (.permit, State.forcedTrip) := by
    unfold State.tripEffect at h
    split at h
    · exact List.mem_singleton.1 h
    · cases h
  simp only [State.stageEffects, List.mem_append, List.mem_singleton] at h
  rcases h with (h | h) | h
  · exact .inl h
  · split at h
    · next entry =>
      simp only [List.mem_append] at h
      rcases h with (h | h) | h
      · exact .inr (.inl ⟨entry, .inl ⟨_, forced h⟩⟩)
      · exact .inr (.inl ⟨entry, .inl ⟨_, forced h⟩⟩)
      · exact .inr (.inl ⟨entry, .inr (tripped h)⟩)
    · cases h
  · exact .inr (.inr h)

/-- R97: the decision of a pass: the unit judged and, where the stage changes, the change of stage; what it hands on. -/
theorem State.decidePass_cases (s : State) (v : FireView) (code : Option Code) :
    ∃ t, t = ((s.judgeClasses v code).updateDegraded).judgeQuiet v
      ∧ ((∃ g, g ≠ t.fire.stage ∧ g = t.fire.nextStage t.params v t.uptime code
            ∧ s.decidePass v code = (t.enterStage g, (t.enterStage g).stageEffects t.fire.stage))
        ∨ (s.decidePass v code).1 = t
          ∧ ((s.decidePass v code).2 = [t.fsEffect] ∨ (s.decidePass v code).2 = [])) := by
  refine ⟨_, rfl, ?_⟩
  unfold State.decidePass
  dsimp only
  split
  · next changed => exact .inl ⟨_, changed, rfl, rfl⟩
  · refine .inr ⟨rfl, ?_⟩
    dsimp only
    split
    · exact .inl rfl
    · exact .inr rfl

/-- What every effect keeps, the effects keep one after the other. -/
theorem State.take_keeps {P : State → Prop} {effects : List FireEffect} (he : ∀ e ∈ effects, ∀ t, P t → P (e.2 t))
    {s : State} (hs : P s) : P (s.take effects) := by
  refine State.through_keeps (fun f hf t ht => ?_) hs
  obtain ⟨e, hm, rfl⟩ := List.mem_map.1 hf
  exact he e hm t ht

/-- What every effect keeps, and the count of choices does not touch, the effects keep in any order. -/
theorem State.takeAll_keeps {P : State → Prop} (hn : ∀ t n, P t → P { t with choices := n })
    {effects : List FireEffect} (he : ∀ e ∈ effects, ∀ t, P t → P (e.2 t)) {s : State} (hs : P s) :
    P (s.takeAll effects) := by
  refine State.inAnyOrder_keeps hn (fun f hf t ht => ?_) hs
  obtain ⟨e, hm, rfl⟩ := List.mem_map.1 hf
  exact he e hm t ht

/-- R113: the state in which the second pass of an evaluation decides: the first decided, and the receivers took the first
`i` of its effects in the order `p`. -/
def State.betweenPasses (s : State) (v : FireView) (a : Code) (p : List FireEffect) (i : Nat) : State :=
  (s.decidePass v (some a)).1.take (p.take i)

/-- R97, R113, R151: a course of the two passes of an evaluation: the first decision, some of its effects, the forced trip
among them, the second decision, then the rest with the second's, each receiver taking the first's before the second's. -/
inductive State.TwoPassCourse (s : State) (v : FireView) (a b : Code) : State → Prop where
  | intro (p q : List FireEffect) (i : Nat) (order : List (Nat × FireEffect)) (n : Nat)
      (first : p.Perm (s.decidePass v (some a)).2) (trip : tripTaken (p.drop i) = true)
      (second : q.Perm ((s.betweenPasses v a p i).decidePass v (some b)).2)
      (woven : order ∈ weave ((p.drop i).map (Prod.mk 1)) (q.map (Prod.mk 2)))
      (ordered : receiversInOrder order = true) (t : State)
      (left : t =
        { ((s.betweenPasses v a p i).decidePass v (some b)).1.take (order.map Prod.snd) with choices := n }) :
      TwoPassCourse s v a b t

/-- The states that two passes can lead to are those of its courses. -/
theorem State.mem_secondPass {s t : State} {v : FireView} {a b : Code} {p : List FireEffect}
    (h : t ∈ (s.decidePass v (some a)).1.secondPass v b p) :
    ∃ (i : Nat) (q : List FireEffect) (order : List (Nat × FireEffect)), tripTaken (p.drop i) = true ∧ q.Perm ((s.betweenPasses v a p i).decidePass v (some b)).2
      ∧ order ∈ weave ((p.drop i).map (Prod.mk 1)) (q.map (Prod.mk 2)) ∧ receiversInOrder order = true
      ∧ t = ((s.betweenPasses v a p i).decidePass v (some b)).1.take (order.map Prod.snd) := by
  simp only [State.secondPass, List.mem_flatMap, List.mem_filter, List.mem_map] at h
  obtain ⟨i, ⟨-, trip⟩, q, hq, order, ⟨woven, ordered⟩, rfl⟩ := h
  exact ⟨i, q, order, trip, List.mem_permutations'.1 hq, woven, ordered, rfl⟩

/-- Effects of one pass alone stand in the order of their receivers. -/
theorem receiversInOrder_of_one_pass (q : List FireEffect) (n : Nat) : receiversInOrder (q.map (Prod.mk n)) = true := by
  induction q with
  | nil => rfl
  | cons e rest ih => simp [receiversInOrder, ih]

/-- Nothing taken into a list leaves the list. -/
theorem mem_weave_nil {α : Type} (ys : List α) : ys ∈ weave [] ys := by
  induction ys with
  | nil => simp [weave]
  | cons y rest ih => exact List.mem_flatMap.2 ⟨0, by simp, List.mem_map.2 ⟨rest, ih, rfl⟩⟩

/-- All effects of the first decision may be taken before the second, and then the second's. -/
theorem State.mem_secondPass_of_all (s : State) (v : FireView) (b : Code) (p : List FireEffect) :
    ((s.take p).decidePass v (some b)).1.take ((s.take p).decidePass v (some b)).2 ∈ s.secondPass v b p := by
  simp only [State.secondPass, List.mem_flatMap, List.mem_filter, List.mem_map]
  refine ⟨p.length, ⟨by simp, by simp [tripTaken]⟩, ((s.take p).decidePass v (some b)).2, ?_,
    ((s.take p).decidePass v (some b)).2.map (Prod.mk 2), ⟨?_, receiversInOrder_of_one_pass _ 2⟩, ?_⟩
  · rw [List.take_length]
    exact List.mem_permutations'.2 (List.Perm.refl _)
  · rw [List.drop_length]
    exact mem_weave_nil _
  · simp [Function.comp_def]

/-- R97, R113: two passes take one of their courses. -/
theorem State.twoPasses_cases (s : State) (v : FireView) (a b : Code) :
    s.TwoPassCourse v a b (s.twoPasses v a b) := by
  unfold State.twoPasses
  dsimp only
  split
  · next t rest offered =>
    obtain ⟨u, hu, n, e⟩ := State.oneOf_cases t rest
    rw [← offered, List.mem_flatMap] at hu
    obtain ⟨p, hp, hu⟩ := hu
    obtain ⟨i, q, order, trip, hq, woven, ordered, rfl⟩ := State.mem_secondPass hu
    exact .intro p q i order n (List.mem_permutations'.1 hp) trip hq woven ordered _ e
  · next none =>
    have course := State.mem_secondPass_of_all (s.decidePass v (some a)).1 v b (s.decidePass v (some a)).2
    have offered := List.mem_flatMap.2 ⟨_, List.mem_permutations'.2 (List.Perm.refl _), course⟩
    rw [none] at offered
    cases offered

section
variable {P : State → Prop} (hn : ∀ t n, P t → P { t with choices := n })
  (hd : ∀ (t : State) v code, P t → P (t.decidePass v code).1)
  (he : ∀ (t : State) v code, ∀ e ∈ (t.decidePass v code).2, ∀ u, P u → P (e.2 u))
include hn hd he

/-- What every decision and every effect keeps, two passes keep. -/
theorem State.twoPasses_keeps (v : FireView) (a b : Code) {s : State} (hs : P s) : P (s.twoPasses v a b) := by
  obtain ⟨p, q, i, order, n, first, -, second, woven, -, t, left⟩ := s.twoPasses_cases v a b
  rw [left]
  have before : P (s.betweenPasses v a p i) :=
    State.take_keeps (fun e h => he s v _ e (first.mem_iff.1 (List.mem_of_mem_take h))) (hd s v _ hs)
  refine hn _ n (State.take_keeps (fun e h => ?_) (hd _ v _ before))
  obtain ⟨x, hx, rfl⟩ := List.mem_map.1 h
  rcases mem_of_mem_weave woven hx with hx | hx <;> obtain ⟨y, hy, rfl⟩ := List.mem_map.1 hx
  · exact he s v _ y (first.mem_iff.1 (List.mem_of_mem_drop hy))
  · exact he _ v _ y (second.mem_iff.1 hy)

/-- What every decision and every effect keeps, and an emptied change buffer does not touch, the passes of an evaluation
keep. -/
theorem State.passes_keeps (hl : ∀ t, P t → P (t.modLink .pnl LinkState.emptyBuffer)) {s : State} (hs : P s) :
    P s.passes := by
  have one (v : FireView) (code : Option Code) {t : State} (ht : P t) : P (t.onePass v code) :=
    State.takeAll_keeps hn (he t v code) (hd t v code ht)
  unfold State.passes
  dsimp only
  split
  · exact one _ _ (hl s hs)
  · exact one _ _ (hl s hs)
  · exact one _ _ (hl s hs)
  · exact State.twoPasses_keeps hn hd he _ _ _ (hl s hs)
end

/-- The effects that a decision hands on, be it of a change of stage or of DEGRADED. -/
theorem State.mem_decidePass_effects {s : State} {v : FireView} {code : Option Code} {e : FireEffect}
    (h : e ∈ (s.decidePass v code).2) :
    ∃ (t : State) (entry : Bool), e = t.fsEffect ∨ (∃ c, e = (.string c, fun t => t.forceOpen c))
      ∨ e = (.permit, State.forcedTrip) ∨ e = (.plant, fun t => t.plantStageChange entry) := by
  obtain ⟨t, -, ⟨g, -, -, e'⟩ | ⟨-, e' | e'⟩⟩ := s.decidePass_cases v code <;> rw [e'] at h
  · rcases State.mem_stageEffects h with h | ⟨-, h | h⟩ | h
    · exact ⟨_, true, .inl h⟩
    · exact ⟨t, true, .inr (.inl h)⟩
    · exact ⟨t, true, .inr (.inr (.inl h))⟩
    · exact ⟨t, _, .inr (.inr (.inr h))⟩
  · exact ⟨t, true, .inl (List.mem_singleton.1 h)⟩
  · cases h

/-! ## The frame of every command -/

/-- The passes of a permit evaluation change the permit unit and the links alone. -/
theorem Part.same_codePasses {p : Part} (hp : p ≠ .permit) (hl : p ≠ .links) (s : State) : p.same s s.codePasses := by
  have pass (t : State) (k : Code) : p.same t (t.cnvPass k) ∧ p.same t (t.stnPass k) := by
    cases p <;> simp_all [Part.same]
  have choice (t : State) (n : Nat) (h : p.same s t) : p.same s { t with choices := n } := by
    cases p <;> simpa [Part.same] using h
  have emptied : p.same s ((s.modLink .cnv LinkState.emptyBuffer).modLink .stn LinkState.emptyBuffer) :=
    Part.same_trans (Part.same_modLink hl s _) (Part.same_modLink hl _ _)
  unfold State.codePasses
  dsimp only
  split
  · exact emptied
  · next order rest weaved =>
    refine State.oneOf_keeps choice fun t ht => ?_
    obtain ⟨w, hw, rfl⟩ : ∃ w ∈ order :: rest, State.through _ w = t := by
      rw [← List.map_cons] at ht
      exact List.mem_map.1 ht
    refine State.through_keeps (P := p.same s) (fun f hf u hu => ?_) emptied
    rcases mem_of_mem_weave (weaved ▸ hw) hf with hf | hf <;> obtain ⟨k, -, rfl⟩ := List.mem_map.1 hf
    · exact Part.same_trans hu (pass u k).1
    · exact Part.same_trans hu (pass u k).2

/-- What the receiver finds in a telegram changes the links, the store, the envelope and the plant alone. -/
theorem Part.same_received {p : Part} (hp : p ∉ [Part.envelope, .plant, .store, .links]) (l : Link)
    (found : List Received) (s : State) : p.same s (found.foldl (fun t r => t.receiveOne l r) s) := by
  induction found generalizing s with
  | nil => exact p.same_refl s
  | cons r rest ih =>
    have one : p.same s (s.receiveOne l r) := by cases p <;> simp_all [Part.same]
    exact Part.same_trans one (ih _)

/-- What the receivers of a fire pass change. -/
def fireReceiverParts : List Part := [.strings, .envelope, .plant, .agreement, .permit, .links]

/-- The effects of a fire pass leave alone what no receiver of it holds. -/
theorem Part.same_fireEffect {p : Part} (hp : p ∉ fireReceiverParts) {s : State} {v : FireView} {code : Option Code}
    {e : FireEffect} (h : e ∈ (s.decidePass v code).2) (t : State) : p.same t (e.2 t) := by
  obtain ⟨u, entry, rfl | ⟨c, rfl⟩ | rfl | rfl⟩ := State.mem_decidePass_effects h <;>
    cases p <;> simp_all [Part.same, fireReceiverParts, State.fsEffect]

/-- The passes of a fire evaluation leave alone what neither the fire unit nor a receiver of a pass holds. -/
theorem Part.same_passes {p : Part} (hp : p ∉ fireReceiverParts) (hf : p ∉ [Part.fire, .store, .chains]) (s : State) :
    p.same s s.passes := by
  have hl : p ≠ .links := fun e => hp (e ▸ by simp [fireReceiverParts])
  refine State.passes_keeps (P := p.same s) (fun t n => Part.same_choices n) (fun t v code h => ?_)
    (fun t v code e he u h => Part.same_trans h (Part.same_fireEffect hp he u))
    (fun t h => Part.same_trans h (Part.same_modLink hl t _)) (p.same_refl s)
  exact Part.same_trans h (by cases p <;> simp_all [Part.same])

/-- A change of stage leaves alone what neither the fire unit nor a receiver of it holds. -/
theorem Part.same_changeStage {p : Part} (hp : p ∉ fireReceiverParts) (hf : p ∉ [Part.fire, .store, .chains]) (s : State)
    (g : FireStage) : p.same s (s.changeStage g) := by
  unfold State.changeStage
  refine State.takeAll_keeps (P := p.same s) (fun t n => Part.same_choices n) (fun e he t h => Part.same_trans h ?_)
    (by cases p <;> simp_all [Part.same, fireReceiverParts])
  rcases State.mem_stageEffects he with rfl | ⟨-, ⟨c, rfl⟩ | rfl⟩ | rfl <;>
    cases p <;> simp_all [Part.same, fireReceiverParts, State.fsEffect]

/-- A block that judges a request and leaves the state alone. -/
theorem Part.same_serve_read {p : Part} {s : State} {l : Link} {r : Request} (hl : p ≠ .links)
    {block : State → State × Served} (hb : (block s).1 = s) : p.same s (s.serve l r block) :=
  Part.same_serveWith hl (show p.same s (block s).1 from hb.symm ▸ p.same_refl s)

/-- A block of a request without payload that leaves a part alone. -/
theorem Part.same_serve_noPayload {p : Part} {s : State} {l : Link} {r : Request} {payload : List Byte}
    {block : State → State × Served} (hl : p ≠ .links) (hb : p.same s (block s).1) :
    p.same s (s.serve l r (noPayload payload block)) :=
  Part.same_serveWith hl (Part.keptBy_noPayload hb)

/-- An action on the string of a request that leaves a part alone. -/
theorem Part.same_serve_onString {p : Part} {s : State} {l : Link} {r : Request} {payload : List Byte}
    {act : State → Str → State × AnswerCode} (hl : p ≠ .links) (hb : ∀ c, p.same s (act s c).1) :
    p.same s (s.serve l r (onString payload act)) :=
  Part.same_serveWith hl (Part.keptBy_onString hb)

/-- R110: RESET-FIRE changes nothing, or returns the stage from CONFIRMED or ISOLATED to NORMAL. -/
theorem resetFireBlock_cases (s : State) :
    (resetFireBlock s).1 = s
      ∨ s.fire.stage.fire = true ∧ s.fire.resetConditions s.uptime = true
        ∧ resetFireBlock s = (s.changeStage .normal, .now .done []) := by
  unfold resetFireBlock
  cases h : s.fire.stage
  case normal | preAlert | alert => exact .inl rfl
  case confirmed | isolated =>
    dsimp only
    split
    · next conditions => exact .inr ⟨rfl, conditions, rfl⟩
    · exact .inl rfl

/-- A part that a command which serves a request cannot change is as it was after it. -/
theorem request_same {i : Instr} {l : Link} {r : Request} {s t : State} (hi : requestOf i = some (l, r))
    (h : exec i s = .next t) {p : Part} (hp : p ∉ changedBy i) : p.same s t := by
  have noLinks : Part.links ∈ changedBy i → p ≠ .links := fun hl e => hp (e ▸ hl)
  cases i
  all_goals try cases hi
  all_goals obtain rfl : _ = t := Host.Outcome.next.inj h
  all_goals replace noLinks : p ≠ .links := noLinks (by simp [changedBy])
  case readCells | readString =>
    refine Part.same_serve_read noLinks ?_
    split <;> rfl
  case readSnapshot =>
    refine Part.same_serve_read noLinks ?_
    unfold readSnapshotBlock
    repeat' split
    all_goals rfl
  case readParam =>
    refine Part.same_serve_read noLinks ?_
    unfold readParamBlock
    repeat' split
    all_goals rfl
  case readEnvelope | readFire | readStats | readAgreement | siteReset =>
    exact Part.same_serve_noPayload noLinks (p.same_refl s)
  case probeModule =>
    refine Part.same_serve noLinks ?_
    unfold Part.keptBy
    dsimp only
    split
    · cases p <;> simp_all [Part.same, changedBy]
    · exact p.same_refl s
  case resetBaseline =>
    refine Part.same_serve noLinks ?_
    unfold Part.keptBy resetBaselineBlock
    repeat' split
    all_goals cases p <;> simp_all [Part.same, changedBy]
  case joinString | releaseString =>
    refine Part.same_serve_onString noLinks fun c => ?_
    cases p <;> simp_all [Part.same, changedBy]
  case clearLockString =>
    unfold clearLockString
    split
    · exact p.same_refl s
    · refine Part.same_serve_onString noLinks fun c => ?_
      cases p <;> simp_all [Part.same, changedBy]
  case clearLockBreaker =>
    unfold clearLockBreaker
    split
    · refine Part.same_serveWith noLinks ?_
      unfold Part.keptBy reported
      cases p <;> simp_all [Part.same, changedBy]
    · exact p.same_refl s
  case connect | disconnect =>
    refine Part.same_serveReported noLinks ?_
    split
    · cases p <;> simp_all [Part.same, changedBy]
    · exact p.same_refl s
  case setCap =>
    refine Part.same_serve noLinks ?_
    unfold Part.keptBy setCapBlock
    split
    · cases p <;> simp_all [Part.same, changedBy]
    · exact p.same_refl s
  case resetFire =>
    refine Part.same_serve_noPayload noLinks ?_
    rcases resetFireBlock_cases s with e | ⟨-, -, e⟩ <;> rw [e]
    · exact p.same_refl s
    · have hr : p ∉ fireReceiverParts := by simp_all [changedBy, fireReceiverParts]
      have hf : p ∉ [Part.fire, .store, .chains] := by simp_all [changedBy]
      exact Part.same_changeStage hr hf s .normal
  case clearSnapshots =>
    refine Part.same_serve_noPayload noLinks ?_
    unfold clearSnapshotsBlock
    split
    · cases p <;> simp_all [Part.same, changedBy]
    · exact p.same_refl s
  case clearStats =>
    refine Part.same_serve_noPayload noLinks ?_
    cases p <;> simp_all [Part.same, changedBy, clearStatsBlock]
  case offer =>
    refine Part.same_serve noLinks ?_
    unfold Part.keptBy offerBlock
    dsimp only
    repeat' split
    all_goals cases p <;> simp_all [Part.same, changedBy]
  case agreementRestart =>
    refine Part.same_serve_noPayload noLinks ?_
    cases p <;> simp_all [Part.same, changedBy]
  case unknownKind =>
    unfold unknownKind
    split
    · exact p.same_refl s
    · exact Part.same_serve_read noLinks rfl
  case readNotices =>
    refine Part.same_serve_noPayload noLinks ?_
    cases p <;> simp_all [Part.same, changedBy, readNoticesBlock]
  case setMask =>
    refine Part.same_serve noLinks ?_
    unfold Part.keptBy setMaskBlock
    split
    · cases p <;> simp_all [Part.same, changedBy]
    · exact p.same_refl s
  case setSiteMode =>
    refine Part.same_serve noLinks ?_
    unfold Part.keptBy setSiteModeBlock
    repeat' split
    all_goals cases p <;> simp_all [Part.same, changedBy]
  case setParam =>
    refine Part.same_serve noLinks ?_
    unfold Part.keptBy setParamBlock
    repeat' split
    all_goals cases p <;> simp_all [Part.same, changedBy]
  case commit =>
    refine Part.same_serve_noPayload noLinks ?_
    unfold commitBlock
    repeat' split
    all_goals cases p <;> simp_all [Part.same, changedBy]

/-- A part that a command which serves no request cannot change is as it was after it. -/
theorem event_same {i : Instr} {s t : State} (hr : requestOf i = none) (h : exec i s = .next t) {p : Part}
    (hp : p ∉ changedBy i) : p.same s t := by
  cases i
  all_goals try cases hr
  all_goals obtain rfl : _ = t := Host.Outcome.next.inj h
  case fireEvaluation loops gas1 gas2 =>
    unfold fireEvaluation
    split
    · refine Part.same_trans ?_ (Part.same_passes (p := p) (by simp_all [changedBy, fireReceiverParts]) (by simp_all [changedBy]) _)
      cases p <;> simp_all [Part.same, changedBy]
    · exact p.same_refl s
  case telegram l raw =>
    unfold telegram
    split
    · exact Part.same_received (p := p) (by simp_all [changedBy]) l _ s
    · exact p.same_refl s
  case permitEvaluation =>
    unfold permitEvaluation
    split
    · refine Part.same_trans ?_ (Part.same_codePasses (p := p) (by simp_all [changedBy]) (by simp_all [changedBy]) _)
      cases p <;> simp_all [Part.same, changedBy]
    · exact p.same_refl s
  case clearLockString l q payload =>
    unfold clearLockString
    split
    · exact p.same_refl s
    · next other => exact absurd (by simpa [requestOf] using hr) other
  case clearLockBreaker l q payload =>
    unfold clearLockBreaker
    split
    · next breaker => simp [requestOf, breaker] at hr
    · exact p.same_refl s
  case unknownKind l kind q payload =>
    unfold unknownKind
    split
    · exact p.same_refl s
    · next unknown => simp [requestOf, unknown] at hr
  case siteResetStart =>
    unfold siteResetStart
    split
    · cases p <;> simp_all [changedBy, Part.same, State.completeReset, State.startReset]
    · exact p.same_refl s
  case startUpLoadComplete =>
    unfold startUpLoadComplete
    split
    · cases p <;> simp_all [changedBy, Part.same, State.completeReset]
    · exact p.same_refl s
  case powerOn | resetLineAssert | lossOfSupply =>
    simp only [powerOn, resetLineAssert, lossOfSupply]
    repeat' split
    all_goals cases p <;> simp_all [changedBy, Part.same, State.startReset]
  case resetLineRelease =>
    cases p <;> simp_all [changedBy, Part.same, resetLineRelease]
  case chainReply | replyTimeout | readingAgeTick | cycleDue | unfittedCheck =>
    simp only [chainReply, replyTimeout, readingAgeTick, cycleDue, unfittedCheck]
    repeat' split
    all_goals cases p <;> simp_all [changedBy, Part.same]
  case prechargeTimerExpiry | openingTimerExpiry | feedbackInputChange | feedbackCheck =>
    simp only [prechargeTimerExpiry, openingTimerExpiry, feedbackInputChange, feedbackCheck]
    repeat' split
    all_goals cases p <;> simp_all [changedBy, Part.same]
  case envelopeTick | analogSample | flowSwitchChange | flowTimerExpiry | chillerDwellExpiry | heaterDwellExpiry =>
    simp only [envelopeTick, analogSample, flowSwitchChange, flowTimerExpiry, chillerDwellExpiry, heaterDwellExpiry]
    repeat' split
    all_goals cases p <;> simp_all [changedBy, Part.same]
  case isolationTimerExpiry | histogramSample | minuteBoundary =>
    simp only [isolationTimerExpiry, histogramSample, minuteBoundary]
    repeat' split
    all_goals cases p <;> simp_all [changedBy, Part.same]
  case breakerFeedbackChange | closePendingTimerExpiry | releaseTimerExpiry | recloseTimerExpiry | tripPulseEnd =>
    simp only [breakerFeedbackChange, closePendingTimerExpiry, releaseTimerExpiry, recloseTimerExpiry, tripPulseEnd]
    repeat' split
    all_goals cases p <;> simp_all [changedBy, Part.same]
  case statusWord | silenceTimeout | sendStatusWord | answerSent | commitComplete =>
    simp only [statusWord, silenceTimeout, sendStatusWord, answerSent, commitComplete]
    repeat' split
    all_goals cases p <;> simp_all [changedBy, Part.same]

/-- A part that a command cannot change is as it was after it. -/
theorem exec_same {i : Instr} {s t : State} (h : exec i s = .next t) {p : Part} (hp : p ∉ changedBy i) :
    p.same s t := by
  cases hr : requestOf i with
  | some x => exact request_same hr h hp
  | none => exact event_same hr h hp

end Sys2Proof.Machine
end

-- ==== Proofs: what the record store keeps (chapter 7) ====
section
namespace Sys2Proof.Machine

/-! ## One step and every command -/

/-- What every command keeps, and neither the queue of waiting commands nor uptime touches, a step keeps. -/
theorem step_keeps {P : State → Prop} (hp : ∀ s rest, P s → P { s with pending := rest })
    (hu : ∀ s n, P s → P { s with uptime := n }) (he : ∀ i s t, P s → exec i s = .next t → P t) {s t : State}
    (hs : P s) (h : step s = .next t) : P t := by
  unfold step at h
  split at h
  · obtain rfl : _ = t := Host.Outcome.next.inj h
    unfold State.idle
    split
    · exact hu s _ hs
    · exact hs
  · exact he _ _ t (hp s _ hs) h

/-! ## Histograms (section 7.4) -/

theorem Histogram.bin_add (h : Histogram) (i j : Fin 6) : (h.add i).bin j = h.bin j + if j = i then 1 else 0 := by
  fin_cases i <;> fin_cases j <;> rfl

theorem Histogram.sum_add (h : Histogram) (i : Fin 6) : (h.add i).sum = h.sum + 1 := by
  fin_cases i <;> simp only [Histogram.add, Histogram.sum] <;> omega

theorem Histogram.count_add (h : Histogram) (i : Fin 6) : (h.add i).count = h.count + 1 := by
  fin_cases i <;> rfl

theorem Histogram.bin_halve (h : Histogram) (i : Fin 6) : h.halve.bin i = h.bin i / 2 := by
  fin_cases i <;> rfl

/-- R125: a halved histogram is sound, whatever its count was. -/
theorem Histogram.Sound.halve {h : Histogram} (sound : h.Sound) : h.halve.Sound :=
  ⟨rfl, fun i => by have := sound.2 i; rw [h.bin_halve]; omega⟩

/-- R124: one more sample in a bin that is not full. -/
theorem Histogram.Sound.add {h : Histogram} (sound : h.Sound) {i : Fin 6} (room : h.bin i < binMost) :
    (h.add i).Sound := by
  refine ⟨by rw [h.sum_add, h.count_add, sound.1], fun j => ?_⟩
  rw [h.bin_add]
  have := sound.2 j
  split
  · next e => subst e; omega
  · omega

/-- R124, R125: a sample leaves a sound histogram sound. -/
theorem Histogram.Sound.sample {h : Histogram} (sound : h.Sound) (t : Int) : (h.sample t).Sound := by
  unfold Histogram.sample
  split
  · refine sound.halve.add ?_
    have := sound.2 (binOf t)
    rw [h.bin_halve]
    unfold binMost at *
    omega
  · next room => exact sound.add (by omega)

theorem StringStats.zero_sound : StringStats.zero.histogram.Sound := ⟨rfl, fun i => by fin_cases i <;> simp [StringStats.zero, Histogram.bin]⟩

/-! ## Snapshots (section 7.1) -/

/-- R119: a snapshot is placed behind those there are. -/
theorem SnapshotStore.Ordered.freeze {k : SnapshotStore} (ordered : k.Ordered) (order : Nat → Snapshot) :
    (k.freeze order).1.Ordered := by
  obtain ⟨h2, h3, h4⟩ := ordered
  simp only [SnapshotStore.freeze, SnapshotStore.place]
  split
  · simp_all [SnapshotStore.Ordered]
  · next full1 =>
    replace full1 : k.slot1.isSome = true := Option.isSome_iff_ne_none.2 (by simpa using full1)
    split
    · simp_all [SnapshotStore.Ordered]
    · next full2 =>
      replace full2 : k.slot2.isSome = true := Option.isSome_iff_ne_none.2 (by simpa using full2)
      split
      · simp_all [SnapshotStore.Ordered]
      · next full3 =>
        replace full3 : k.slot3.isSome = true := Option.isSome_iff_ne_none.2 (by simpa using full3)
        exact ⟨fun _ => full1, fun _ => full2, fun _ => full3⟩

theorem SnapshotStore.empty_ordered : SnapshotStore.empty.Ordered := by simp [SnapshotStore.Ordered, SnapshotStore.empty]

/-! ## The operations -/

section
variable {s t : State}

theorem State.recordsKept_of_store (h : t.store = s.store) (hs : s.recordsKept) : t.recordsKept := by
  unfold State.recordsKept at *
  rwa [h]

/-- A change of a string's statistics that leaves its histogram sound. -/
theorem State.recordsKept_modStats (hs : s.recordsKept) (c : Str) {f : StringStats → StringStats}
    (hf : ∀ x, x.histogram.Sound → (f x).histogram.Sound) : (s.modStats c f).recordsKept := by
  refine ⟨hs.1, fun d => ?_⟩
  simp only [State.modStats, PerString.get_mod]
  split
  · exact hf _ (hs.2 d)
  · exact hs.2 d

theorem State.recordsKept_choices (n : Nat) (hs : s.recordsKept) : State.recordsKept { s with choices := n } := hs

theorem State.recordsKept_countTrip (hs : s.recordsKept) (c : Str) (k : LockCause) : (s.countTrip c k).recordsKept :=
  State.recordsKept_modStats hs c fun _ h => h

theorem State.recordsKept_protect (hs : s.recordsKept) (c : Str) (k : LockCause) : (s.protect c k).recordsKept := by
  have counted : (if k = .excursion then s.countTrip c .excursion else s).recordsKept := by
    split
    · exact State.recordsKept_countTrip hs c .excursion
    · exact hs
  unfold State.protect
  split
  case h_1 => exact State.recordsKept_of_store (by simp) counted
  all_goals exact State.recordsKept_of_store (by simp) hs

theorem StringStats.integrate_histogram (x : StringStats) (current : Int) (interval : Nat) :
    (x.integrate current interval).histogram = x.histogram := by
  simp only [StringStats.integrate]
  repeat' split
  all_goals rfl

theorem State.recordsKept_stringHeadReply (hs : s.recordsKept) (c : Str) : (s.stringHeadReply c).recordsKept := by
  have compared : (s.compareFeedback c).recordsKept := State.recordsKept_of_store (by simp) hs
  unfold State.stringHeadReply
  generalize s.compareFeedback c = t at compared
  have counted : (t.modStats c fun x => { x with excursions := countUp x.excursions }).recordsKept :=
    State.recordsKept_modStats compared c fun _ h => h
  have excursion : (t.checkExcursion c).recordsKept := by
    unfold State.checkExcursion
    dsimp only
    repeat' split
    · exact State.recordsKept_of_store (by simp) (State.recordsKept_protect counted c .excursion)
    · exact State.recordsKept_of_store (by simp) counted
    · exact State.recordsKept_of_store (by simp) compared
  unfold State.stateHeadReply
  repeat' split
  case h_3 => exact excursion
  all_goals exact State.recordsKept_of_store (by simp) compared

theorem State.recordsKept_headGood (hs : s.recordsKept) (c : Str) (i v b : Int) (m p : Contact) :
    (s.headGood c i v b m p).recordsKept := by
  unfold State.headGood
  refine State.inAnyOrder_keeps (P := State.recordsKept) (fun _ n h => State.recordsKept_choices n h) (fun f hf u hu => ?_)
    (State.recordsKept_modStats (State.recordsKept_of_store (by simp) hs) c fun x h => by
      rwa [StringStats.integrate_histogram])
  rcases List.mem_pair.1 hf with rfl | rfl
  · exact State.recordsKept_stringHeadReply hu c
  · exact State.recordsKept_of_store (by simp) hu

theorem State.recordsKept_applyOutcome (hs : s.recordsKept) (c : Str) (u : ChainUnit) (r : Option Reply) :
    (s.applyOutcome c u r).recordsKept := by
  have good (reply : Reply) : (s.applyGood c u reply).recordsKept := by
    unfold State.applyGood
    split
    · exact State.recordsKept_headGood hs ..
    · exact State.recordsKept_of_store (by simp) hs
    · exact hs
  unfold State.applyOutcome
  split
  · exact good _
  · exact State.recordsKept_of_store (by simp) hs

theorem State.recordsKept_cycleComplete (hs : s.recordsKept) (c : Str) : (s.cycleComplete c).recordsKept := by
  unfold State.cycleComplete
  dsimp only
  split
  · exact State.recordsKept_of_store (by simp) hs
  · next cause _ =>
    refine State.inAnyOrder_keeps (P := State.recordsKept) (fun _ n h => State.recordsKept_choices n h)
      (fun f hf u hu => ?_) (State.recordsKept_countTrip (State.recordsKept_of_store (by simp) hs) c cause)
    rcases List.mem_pair.1 hf with rfl | rfl
    · exact State.recordsKept_protect hu c cause
    · exact State.recordsKept_of_store (by simp) hu

theorem State.recordsKept_advance (hs : s.recordsKept) (c : Str) (u : ChainUnit) : (s.advance c u).recordsKept := by
  unfold State.advance State.completeCycle
  have completed := State.recordsKept_cycleComplete
    (s := s.modChain c fun k => { k with cycle := .waiting, nextUnit := .head, firstDone := true })
    (State.recordsKept_of_store (by simp) hs) c
  split
  · exact State.recordsKept_of_store (by simp) hs
  · dsimp only
    split
    · exact State.recordsKept_of_store (by simp) completed
    · exact completed

theorem State.recordsKept_endTransaction (hs : s.recordsKept) (c : Str) (x : Transaction) (r : Option Reply) :
    (s.endTransaction c x r).recordsKept := by
  unfold State.endTransaction
  refine State.recordsKept_of_store (s := s.concludeTransaction c x r) (by simp) ?_
  have missed : ((s.modChain c fun k => { k with inFlight := none }).countMiss c
      (classify x.addressed r)).recordsKept := by
    unfold State.countMiss
    split
    · exact State.recordsKept_modStats (State.recordsKept_of_store (by simp) hs) c fun _ h => h
    · exact State.recordsKept_of_store (by simp) hs
  unfold State.concludeTransaction
  dsimp only
  generalize State.countMiss _ c _ = t at missed
  have applied : (if (s.chain c).stillFitted x.addressed then t.applyOutcome c x.addressed r else t).recordsKept := by
    split
    · exact State.recordsKept_applyOutcome missed ..
    · exact missed
  split
  · exact State.recordsKept_of_store (by simp) applied
  · exact applied
  · exact State.recordsKept_advance applied ..

theorem State.recordsKept_judgeCheck (hs : s.recordsKept) (c : Str) : (s.judgeCheck c).recordsKept := by
  have locks (k : LockCause) : (s.checkLocks c k).recordsKept := by
    unfold State.checkLocks
    repeat' split
    · exact State.recordsKept_of_store (by simp) (State.recordsKept_countTrip hs c .welded)
    · exact hs
    · exact State.recordsKept_of_store (by simp) (State.recordsKept_countTrip hs c k)
  unfold State.judgeCheck
  repeat' split
  · exact State.recordsKept_of_store (by simp) hs
  · exact hs
  · exact locks .welded
  · exact locks .feedback

theorem State.recordsKept_prechargeFailed (hs : s.recordsKept) (c : Str) : (s.prechargeFailed c).recordsKept :=
  State.recordsKept_of_store (s := s.countTrip c .prechargeFail) (by simp [State.prechargeFailed])
    (State.recordsKept_countTrip hs c .prechargeFail)

theorem State.recordsKept_freeze (hs : s.recordsKept) (order : Nat → Snapshot) : (s.freeze order).recordsKept :=
  ⟨hs.1.freeze order, hs.2⟩

theorem State.recordsKept_enterStage (hs : s.recordsKept) (g : FireStage) : (s.enterStage g).recordsKept := by
  have ordered {u : State} (hu : u.recordsKept) (d : State) (old : FireStage) :
      (u.orderFreeze d old g).recordsKept := by
    unfold State.orderFreeze
    dsimp only
    repeat' split
    · exact State.recordsKept_freeze hu _
    · exact State.recordsKept_freeze hu _
    · exact hu
  have entered : ((s.modFire fun f => f.enter g s.uptime).postStage s.fire.stage).recordsKept :=
    State.recordsKept_of_store (by simp) hs
  unfold State.enterStage
  dsimp only
  split
  · exact State.recordsKept_of_store (s := State.orderFreeze _ s s.fire.stage g) (by simp) (ordered entered _ _)
  · exact ordered entered _ _

theorem State.recordsKept_decidePass (hs : s.recordsKept) (v : FireView) (code : Option Code) :
    (s.decidePass v code).1.recordsKept := by
  obtain ⟨u, rfl, ⟨g, -, -, e⟩ | ⟨e, -⟩⟩ := s.decidePass_cases v code <;> rw [e]
  · exact State.recordsKept_enterStage (State.recordsKept_of_store (by simp) hs) g
  · exact State.recordsKept_of_store (by simp) hs

theorem State.recordsKept_passes (hs : s.recordsKept) : s.passes.recordsKept := by
  refine State.passes_keeps (P := State.recordsKept) (fun _ n h => State.recordsKept_choices n h)
    (fun t v code h => State.recordsKept_decidePass h v code) (fun t v code e he u hu => ?_)
    (fun t h => State.recordsKept_of_store (by simp) h) hs
  exact State.recordsKept_of_store (Part.same_fireEffect (p := .store) (by decide) he u) hu

theorem State.recordsKept_changeStage (hs : s.recordsKept) (g : FireStage) : (s.changeStage g).recordsKept := by
  refine State.takeAll_keeps (P := State.recordsKept) (fun _ n h => State.recordsKept_choices n h) (fun e he u hu => ?_)
    (State.recordsKept_enterStage hs g)
  rcases State.mem_stageEffects he with rfl | ⟨-, ⟨c, rfl⟩ | rfl⟩ | rfl <;>
    exact State.recordsKept_of_store (by simp [State.fsEffect]) hu

theorem State.recordsKept_sampleString (hs : s.recordsKept) (c : Str) : (s.sampleString c).recordsKept := by
  unfold State.sampleString
  split
  · exact State.recordsKept_modStats hs c fun _ h => h.sample _
  · exact hs

theorem State.recordsKept_atReset (hs : s.recordsKept) (kind : ResetKind) (phase : Phase) :
    (s.startReset kind phase).recordsKept := by
  cases kind
  case powerOn => exact ⟨SnapshotStore.empty_ordered, fun c => by cases c <;> exact StringStats.zero_sound⟩
  all_goals exact hs

theorem State.recordsKept_completeReset (hs : s.recordsKept) : s.completeReset.recordsKept :=
  State.recordsKept_of_store (by simp [State.completeReset]) hs

theorem State.recordsKept_received (l : Link) (found : List Received) (hs : s.recordsKept) :
    (found.foldl (fun t r => t.receiveOne l r) s).recordsKept := by
  induction found generalizing s with
  | nil => exact hs
  | cons r rest ih =>
    refine ih ?_
    cases r with
    | bad => exact hs
    | good kind q payload =>
      unfold State.receiveOne State.offerRequest
      dsimp only
      split
      · exact State.recordsKept_of_store (by simp) hs
      · exact ⟨hs.1, hs.2⟩
    | status code => exact State.recordsKept_of_store (by simp [State.receiveOne]) hs

end

/-! ## The obligation -/

/-- R119, R125: every command keeps the records. -/
theorem exec_recordsKept (i : Instr) (s t : State) (hs : s.recordsKept) (h : exec i s = .next t) : t.recordsKept := by
  by_cases touched : Part.store ∈ changedBy i
  case neg => exact State.recordsKept_of_store (exec_same h touched) hs
  have links (t : State) (l : Link) (f : LinkState → LinkState) (ht : t.recordsKept) : (t.modLink l f).recordsKept := ht
  cases i
  case chainReply c r =>
    obtain rfl : _ = t := Host.Outcome.next.inj h
    unfold chainReply
    repeat' split
    · exact State.recordsKept_endTransaction hs ..
    all_goals exact hs
  case replyTimeout c =>
    obtain rfl : _ = t := Host.Outcome.next.inj h
    unfold replyTimeout
    repeat' split
    · exact State.recordsKept_endTransaction (s := s.atTime _) hs ..
    all_goals exact hs
  case prechargeTimerExpiry c =>
    obtain rfl : _ = t := Host.Outcome.next.inj h
    unfold prechargeTimerExpiry
    split
    · exact State.recordsKept_prechargeFailed (s := s.atTime _) hs c
    · exact hs
  case feedbackCheck c =>
    obtain rfl : _ = t := Host.Outcome.next.inj h
    unfold feedbackCheck
    repeat' split
    · exact State.recordsKept_judgeCheck (s := (s.atTime _).modString c _) hs c
    all_goals exact hs
  case fireEvaluation loops gas1 gas2 =>
    obtain rfl : _ = t := Host.Outcome.next.inj h
    unfold fireEvaluation
    split
    · exact State.recordsKept_passes (State.recordsKept_of_store (by simp) hs)
    · exact hs
  case resetFire l q payload =>
    obtain rfl : _ = t := Host.Outcome.next.inj h
    refine State.serve_keeps links hs ?_
    unfold noPayload
    split
    · rcases resetFireBlock_cases s with e | ⟨-, -, e⟩ <;> rw [e]
      · exact hs
      · exact State.recordsKept_changeStage hs .normal
    · exact hs
  case clearSnapshots l q payload =>
    obtain rfl : _ = t := Host.Outcome.next.inj h
    refine State.serve_keeps links hs ?_
    unfold noPayload clearSnapshotsBlock
    repeat' split
    · exact ⟨SnapshotStore.empty_ordered, hs.2⟩
    all_goals exact hs
  case clearStats l q payload =>
    obtain rfl : _ = t := Host.Outcome.next.inj h
    refine State.serve_keeps links hs ?_
    unfold noPayload
    split
    · exact ⟨hs.1, fun c => by cases c <;> exact StringStats.zero_sound⟩
    · exact hs
  case histogramSample =>
    obtain rfl : _ = t := Host.Outcome.next.inj h
    unfold histogramSample
    split
    · exact State.recordsKept_sampleString (State.recordsKept_sampleString
        (State.recordsKept_of_store (s := s) (by simp) hs) .one) .two
    · exact hs
  case telegram l raw =>
    obtain rfl : _ = t := Host.Outcome.next.inj h
    unfold telegram
    split
    · exact State.recordsKept_received l _ hs
    · exact hs
  case siteResetStart =>
    obtain rfl : _ = t := Host.Outcome.next.inj h
    unfold siteResetStart
    split
    · exact State.recordsKept_completeReset (State.recordsKept_atReset hs .siteReset .loading)
    · exact hs
  case powerOn =>
    obtain rfl : _ = t := Host.Outcome.next.inj h
    unfold powerOn
    split
    · exact State.recordsKept_atReset hs .powerOn _
    · exact hs
  case resetLineAssert =>
    obtain rfl : _ = t := Host.Outcome.next.inj h
    unfold resetLineAssert
    repeat' split
    all_goals exact hs
  case startUpLoadComplete =>
    obtain rfl : _ = t := Host.Outcome.next.inj h
    unfold startUpLoadComplete
    split
    · exact State.recordsKept_completeReset (s := s.modConfig ConfigStore.load) hs
    · exact hs
  case lossOfSupply =>
    obtain rfl : _ = t := Host.Outcome.next.inj h
    unfold lossOfSupply
    split
    · exact hs
    · exact State.recordsKept_atReset hs .powerOn .off
  all_goals exact absurd touched (by simp [changedBy])

/-- Settles O40: the commands that touch the record store each keep it, the others leave it alone. -/
theorem stepKeepsRecords : Obligations.StepKeepsRecords := fun _ _ hs h =>
  step_keeps (P := State.recordsKept) (fun _ _ h => h) (fun _ _ h => h) exec_recordsKept hs h

end Sys2Proof.Machine
end

-- ==== Proofs: the moves a command is made of ====
section
namespace Sys2Proof.Machine

/-! ## The moves -/

/-- A change of the string states, the envelope, the plant, the fire stage, the agreement or the permit, as the blocks make
it. Every command is a course of such moves; what each of them keeps, every command keeps. -/
inductive Move : State → State → Prop where
  /-- Nothing of these changes. -/
  | still {s t : State} (strings : ∀ c, (t.string c).state = (s.string c).state) (envelope : t.envelope = s.envelope)
      (plant : t.plant = s.plant) (stage : t.fire.stage = s.fire.stage) (agreement : t.agreement = s.agreement)
      (permit : t.permit = s.permit) : Move s t
  /-- R44: a new state or phase of a string; one that was apart goes in only below CONFIRMED. -/
  | string (s : State) (c : Str) (new : StringState)
      (guard : new.apart = true ∨ (s.string c).state.apart = false ∨ s.fire.stage.fire = false) :
      Move s (s.setString c new)
  /-- R70. -/
  | tick (s : State) : Move s s.tick
  /-- R65: an update of rows other than FS and GA. -/
  | table (s : State) (f : LimitTable → LimitTable) (fs : ∀ t, (f t).fs = t.fs) (ga : ∀ t, (f t).ga = t.ga) :
      Move s (s.updateTable f)
  /-- R150. -/
  | trip (s : State) (k : TripCause) : Move s (s.trip k)
  /-- A change of the permit unit that connects no permit. -/
  | permit (s : State) (f : Permit → Permit)
      (guard : (f s.permit).state.connected = true → s.permit.state.connected = true) : Move s (s.modPermit f)
  /-- R146: the permit granted, with a string JOINED below ALERT. -/
  | grant (s : State) (joined : s.joinedCount ≥ 1) (stage : s.fire.stage.fire = false) : Move s s.grant
  /-- R141. -/
  | computeGa (s : State) : Move s s.computeGa
  /-- R137: the site minute clock set. -/
  | clock (s : State) (k : Option MinuteClock) : Move s (s.modAgreement fun a => { a with clock := k })
  /-- R131. -/
  | takeOffer (s : State) (l : Link) (o : Offer) : Move s (s.takeOffer l o)
  /-- R135. -/
  | discardCnvOffer (s : State) : Move s s.discardCnvOffer
  /-- R136. -/
  | restartAgreement (s : State) : Move s s.restartAgreement
  /-- R134. -/
  | stationLapse (s : State) : Move s s.stationLapse
  /-- A change of the plant's inputs, demand, flow state, flow timer or prescaler. -/
  | plantNote (s : State) (f : Plant → Plant)
      (same : ∀ q, (f q).mode = q.mode ∧ (f q).fanDuty = q.fanDuty ∧ (f q).chiller1 = q.chiller1
        ∧ (f q).chiller2 = q.chiller2 ∧ (f q).heater = q.heater) : Move s (s.modPlant f)
  /-- R81. -/
  | modeChoice (s : State) : Move s s.modeChoice
  /-- R86, R87. -/
  | chillerExpired (s : State) (g : Stage) : Move s (s.chillerExpired g)
  /-- R91. -/
  | heaterExpired (s : State) : Move s s.heaterExpired
  /-- R97: the passes of a fire evaluation. -/
  | passes (s : State) : Move s s.passes
  /-- R110: the return to NORMAL. -/
  | fireReset (s : State) (stage : s.fire.stage.fire = true) : Move s (s.changeStage .normal)
  /-- R175: the start of a reset. -/
  | reset (s : State) (kind : ResetKind) (phase : Phase) : Move s (s.startReset kind phase)

/-- A course of moves. -/
abbrev Moves : State → State → Prop := Relation.ReflTransGen Move

/-- What every move keeps, a course of moves keeps. -/
theorem Moves.keeps {P : State → Prop} (hm : ∀ s t, P s → Move s t → P t) {s t : State} (h : Moves s t) (hs : P s) :
    P t := by
  induction h with
  | refl => exact hs
  | tail _ m ih => exact hm _ _ ih m

/-- The parts that a move speaks of. -/
def movedParts : List Part := [.strings, .envelope, .plant, .fire, .agreement, .permit]

/-- No move where none of the parts it speaks of changes. -/
theorem Moves.of_same {s t : State} (h : ∀ p ∈ movedParts, p.same s t) : Moves s t := by
  refine .single (.still (fun c => ?_) (h .envelope (by decide)) (h .plant (by decide)) ?_ (h .agreement (by decide))
    (h .permit (by decide)))
  · rw [State.string, State.string, show t.strings = s.strings from h .strings (by decide)]
  · rw [show t.fire = s.fire from h .fire (by decide)]

section
variable {s t : State}

theorem Moves.post (s : State) (n : NoticeKind) (d : NoticeDetail) : Moves s (s.post n d) :=
  .of_same (by simp [movedParts, Part.same])

theorem Moves.modLink (s : State) (l : Link) (f : LinkState → LinkState) : Moves s (s.modLink l f) :=
  .of_same (by simp [movedParts, Part.same])

theorem Moves.choices (s : State) (n : Nat) : Moves s { s with choices := n } :=
  .of_same (by simp [movedParts, Part.same])

/-- Effects that are each a course of moves are one in any order. -/
theorem Moves.inAnyOrder {effects : List (State → State)} (h : ∀ f ∈ effects, ∀ t, Moves t (f t)) (s : State) :
    Moves s (s.inAnyOrder effects) :=
  State.inAnyOrder_keeps (P := Moves s) (fun t n ht => ht.trans (Moves.choices t n)) (fun f hf t ht => ht.trans (h f hf t)) .refl

/-- A block whose effect is a course of moves, served. -/
theorem Moves.serveWith {l : Link} {r : Request} {refused : State → List Item} {block : State → State × Served}
    (h : Moves s (block s).1) : Moves s (s.serveWith l r refused block) :=
  State.serveWith_keeps (P := Moves s) (fun t l f ht => ht.trans (Moves.modLink t l f)) .refl h

theorem Moves.serve {l : Link} {r : Request} {block : State → State × Served} (h : Moves s (block s).1) :
    Moves s (s.serve l r block) := .serveWith h

theorem Moves.serveReported {l : Link} {r : Request} {block : State → State × AnswerCode} (h : Moves s (block s).1) :
    Moves s (s.serveReported l r block) := Moves.serveWith h

theorem Moves.noPayload {payload : List Byte} {block : State → State × Served} (h : Moves s (block s).1) :
    Moves s (noPayload payload block s).1 := by
  unfold Machine.noPayload
  split
  · exact h
  · exact .refl

theorem Moves.onString {payload : List Byte} {act : State → Str → State × AnswerCode} (h : ∀ c, Moves s (act s c).1) :
    Moves s (onString payload act s).1 := by
  unfold Machine.onString
  split
  · exact h _
  · exact .refl

/-! ## The strings -/

theorem Moves.setString_apart (s : State) (c : Str) {new : StringState} (h : new.apart = true) :
    Moves s (s.setString c new) := .single (.string s c new (.inl h))

theorem Moves.setString_in (s : State) (c : Str) (new : StringState) (h : (s.string c).state.apart = false) :
    Moves s (s.setString c new) := .single (.string s c new (.inr (.inl h)))

/-- A note about a string that leaves its state. -/
theorem Moves.modString (s : State) (c : Str) {f : StringController → StringController}
    (h : ∀ k, (f k).state = k.state) : Moves s (s.modString c f) := by
  refine .single (.still (fun d => ?_) ?_ ?_ ?_ ?_ ?_)
  · rw [State.modString_string]
    split
    · exact h _
    · rfl
  all_goals simp

theorem Moves.countTrip (s : State) (c : Str) (k : LockCause) : Moves s (s.countTrip c k) :=
  .of_same (by simp [movedParts, Part.same])

theorem Moves.protect (s : State) (c : Str) (k : LockCause) : Moves s (s.protect c k) := by
  unfold State.protect
  split
  case h_1 state =>
    have counted : Moves s (if k = .excursion then s.countTrip c .excursion else s)
        ∧ ((if k = .excursion then s.countTrip c .excursion else s).string c).state.apart = false := by
      split
      · exact ⟨.countTrip s c _, by simp [State.string, StringState.apart] at state ⊢; simp [state]⟩
      · exact ⟨.refl, by rw [state]; rfl⟩
    exact counted.1.trans (Moves.setString_in _ c _ counted.2)
  case h_2 state | h_5 state => exact .setString_in s c _ (by rw [state]; rfl)
  case h_4 | h_6 => exact .setString_apart s c rfl
  all_goals exact .refl

theorem Moves.unitLost (s : State) (c : Str) : Moves s (s.unitLost c) := by
  unfold State.unitLost
  split
  case h_1 state | h_3 state => exact .setString_in s c _ (by rw [state]; rfl)
  case h_2 => exact .setString_apart s c rfl
  case h_4 => exact .refl

theorem Moves.finishOpening (s : State) (c : Str) : Moves s (s.finishOpening c) := by
  unfold State.finishOpening
  split
  · next finish _ _ => exact .setString_apart s c (by cases finish <;> rfl)
  · exact .refl

theorem Moves.compareFeedback (s : State) (c : Str) : Moves s (s.compareFeedback c) := by
  unfold State.compareFeedback
  dsimp only
  repeat' split
  · exact .modString s c fun _ => rfl
  · exact .refl
  · exact (Moves.modString s c fun _ => by rfl).trans (Moves.post _ _ _)

theorem Moves.checkExcursion (s : State) (c : Str) : Moves s (s.checkExcursion c) := by
  have counted (f : StringStats → StringStats) : Moves s (s.modStats c f) := .of_same (by simp [movedParts, Part.same])
  unfold State.checkExcursion
  dsimp only
  repeat' split
  · exact ((counted _).trans (Moves.protect _ c .excursion)).trans (Moves.modString _ c fun _ => by rfl)
  · exact (counted _).trans (Moves.modString _ c fun _ => by rfl)
  · exact .modString s c fun _ => rfl

theorem Moves.stateHeadReply (s : State) (c : Str) : Moves s (s.stateHeadReply c) := by
  unfold State.stateHeadReply
  split
  case h_1 state =>
    split
    · exact .setString_in s c _ (by rw [state]; rfl)
    · exact .refl
  case h_2 =>
    split
    · exact .finishOpening s c
    · exact .refl
  case h_3 => exact .checkExcursion s c
  case h_4 => exact .refl

theorem Moves.stringHeadReply (s : State) (c : Str) : Moves s (s.stringHeadReply c) :=
  (Moves.compareFeedback s c).trans (Moves.stateHeadReply _ c)

theorem Moves.agreementHeadReply (s : State) : Moves s s.agreementHeadReply := by
  unfold State.agreementHeadReply
  split
  · exact .single (.computeGa s)
  · exact .refl

theorem Moves.join (s : State) (c : Str) : Moves s (s.join c).1 := by
  unfold State.join
  split
  case h_5 =>
    split
    · next conditions =>
      have below : s.fire.stage.fire = false := by
        simp only [State.joinConditions, Bool.and_eq_true, Bool.or_eq_true, decide_eq_true_eq] at conditions
        obtain ⟨⟨-, stage⟩, -⟩ := conditions
        rcases stage with stage | stage <;> rw [stage] <;> rfl
      exact (Moves.modString s c fun _ => by rfl).tail (.string _ c _ (.inr (.inr (by simpa using below))))
    · exact .refl
  all_goals exact .refl

theorem Moves.release (s : State) (c : Str) : Moves s (s.release c) := by
  unfold State.release
  split
  case h_1 => exact .setString_apart s c rfl
  case h_2 state => exact .setString_in s c _ (by rw [state]; rfl)
  case h_3 => exact .refl

theorem Moves.clearLock (s : State) (c : Str) : Moves s (s.clearLock c).1 := by
  unfold State.clearLock
  repeat' split
  case h_2.isTrue => exact .setString_apart s c rfl
  all_goals exact .refl

theorem Moves.checkLocks (s : State) (c : Str) (k : LockCause) : Moves s (s.checkLocks c k) := by
  unfold State.checkLocks
  repeat' split
  case h_1.isFalse => exact .refl
  all_goals exact (Moves.countTrip s c _).trans (Moves.setString_apart _ c rfl)

theorem Moves.judgeCheck (s : State) (c : Str) : Moves s (s.judgeCheck c) := by
  unfold State.judgeCheck
  split
  case h_1 =>
    split
    · next state => exact .setString_in s c _ (by rw [state]; rfl)
    · exact .refl
  case h_2 => exact .checkLocks s c .welded
  case h_3 => exact .checkLocks s c .feedback

/-! ## The chains -/

theorem Moves.cycleComplete (s : State) (c : Str) : Moves s (s.cycleComplete c) := by
  have rows (t : State) (vh td : Nat × Nat) : Moves t (t.updateVhTd c vh td) :=
    .single (.table t _ (fun _ => by rfl) fun _ => by rfl)
  have counted (f : Supervision → Supervision) : Moves s (s.modCells c f) := .of_same (by simp [movedParts, Part.same])
  unfold State.cycleComplete
  dsimp only
  split
  · exact (counted _).trans (rows _ _ _)
  · next cause _ =>
    refine ((counted _).trans (Moves.countTrip _ c cause)).trans (Moves.inAnyOrder (fun f hf t => ?_) _)
    rcases List.mem_pair.1 hf with rfl | rfl
    · exact .protect t c cause
    · exact rows t _ _

theorem Moves.dueMoment (s : State) (c : Str) : Moves s (s.dueMoment c) := .of_same (by simp [movedParts, Part.same])

theorem Moves.modChain (s : State) (c : Str) (f : Chain → Chain) : Moves s (s.modChain c f) :=
  .of_same (by simp [movedParts, Part.same])

theorem Moves.advance (s : State) (c : Str) (u : ChainUnit) : Moves s (s.advance c u) := by
  unfold State.advance State.completeCycle
  split
  · exact .modChain ..
  · dsimp only
    split
    · exact ((Moves.modChain s c _).trans (Moves.cycleComplete _ c)).trans (Moves.dueMoment _ c)
    · exact (Moves.modChain s c _).trans (Moves.cycleComplete _ c)

theorem Moves.applyOutcome (s : State) (c : Str) (u : ChainUnit) (r : Option Reply) : Moves s (s.applyOutcome c u r) := by
  have head (i v b : Int) (m p : Contact) : Moves s (s.headGood c i v b m p) := by
    unfold State.headGood
    dsimp only
    refine Relation.ReflTransGen.trans (Moves.of_same (by simp [movedParts, Part.same]))
      (Moves.inAnyOrder (fun f hf t => ?_) _)
    rcases List.mem_pair.1 hf with rfl | rfl
    · exact .stringHeadReply t c
    · exact .agreementHeadReply t
  have good (reply : Reply) : Moves s (s.applyGood c u reply) := by
    unfold State.applyGood
    split
    · exact head ..
    · exact .of_same (by simp [movedParts, Part.same])
    · exact .refl
  unfold State.applyOutcome
  split
  · exact good _
  · unfold State.judgeLoss
    dsimp only
    split
    · exact ((Moves.modChain s c _).trans (Moves.unitLost _ c)).trans (Moves.post _ _ _)
    · exact .modChain s c _

theorem Moves.endTransaction (s : State) (c : Str) (x : Transaction) (r : Option Reply) :
    Moves s (s.endTransaction c x r) := by
  have missed : Moves s ((s.modChain c fun k => { k with inFlight := none }).countMiss c (classify x.addressed r)) :=
    .of_same (by simp [movedParts, Part.same])
  unfold State.endTransaction
  refine Relation.ReflTransGen.trans ?_ (Moves.modChain _ c _)
  unfold State.concludeTransaction
  dsimp only
  generalize State.countMiss _ c _ = t at missed
  have applied : Moves s (if (s.chain c).stillFitted x.addressed then t.applyOutcome c x.addressed r else t) := by
    split
    · exact missed.trans (Moves.applyOutcome ..)
    · exact missed
  split
  · exact applied.trans (Moves.of_same (by simp [movedParts, Part.same]))
  · exact applied
  · exact applied.trans (Moves.advance ..)

/-! ## The permit unit -/

theorem Moves.modPermit (s : State) {f : Permit → Permit} (h : ∀ q, (f q).state = q.state) : Moves s (s.modPermit f) :=
  .single (.permit s f (by rw [h]; exact id))

/-- A permit that is no longer connected, and its notice. -/
theorem Moves.disconnected (s : State) {f : Permit → Permit} (h : (f s.permit).state.connected = false) (old : PermitState)
    (what : BreakerDetail) : Moves s ((s.modPermit f).postBreaker old what) :=
  Relation.ReflTransGen.trans (.single (.permit s f (by rw [h]; simp))) (Moves.post _ _ _)

theorem Moves.unpermittedClose (s : State) : Moves s s.unpermittedClose :=
  (Moves.modPermit s fun _ => by rfl).trans (Moves.post _ _ _)

theorem Moves.judgeBreaker (s : State) : Moves s s.judgeBreaker := by
  unfold State.judgeBreaker
  split
  case h_1 _ state =>
    exact Relation.ReflTransGen.trans (.single (.permit s _ fun _ => by rw [state]; rfl)) (Moves.post _ _ _)
  case h_2 => exact .refl
  case h_3 => exact .unpermittedClose s
  case h_4 =>
    split
    · exact .disconnected s rfl _ _
    · exact .single (.trip s .external)
  case h_5 => exact .refl

theorem Moves.connectAnswer (s : State) (l : Link) : Moves s (s.connectAnswer l).1 := by
  unfold State.connectAnswer
  split
  case h_5 =>
    split
    · next conditions =>
      simp only [State.connectConditions, Bool.and_eq_true, Bool.or_eq_true, decide_eq_true_eq] at conditions
      obtain ⟨⟨⟨⟨⟨⟨-, joined⟩, stage⟩, -⟩, -⟩, -⟩, -⟩ := conditions
      exact .single (.grant s joined (by rcases stage with stage | stage <;> rw [stage] <;> rfl))
    · exact .refl
  all_goals exact .refl

theorem Moves.disconnect (s : State) : Moves s s.disconnect := by
  unfold State.disconnect
  split
  case h_1 => exact .disconnected s rfl _ _
  case h_2 =>
    split
    · exact .refl
    · exact (Moves.modPermit s fun _ => by rfl).trans (Moves.post _ _ _)
  case h_3 => exact .refl

theorem Moves.clearBreaker (s : State) : Moves s s.clearBreaker.1 := by
  unfold State.clearBreaker
  repeat' split
  case h_2.isTrue => exact .disconnected s rfl _ _
  all_goals exact .refl

theorem Moves.cnvPass (s : State) (k : Code) : Moves s (s.cnvPass k) := by
  unfold State.cnvPass
  dsimp only
  split
  · exact (Moves.modPermit s fun _ => by rfl).tail (.trip _ _)
  · exact .modPermit s fun _ => rfl

theorem Moves.stnPass (s : State) (k : Code) : Moves s (s.stnPass k) := by
  unfold State.stnPass
  dsimp only
  split
  · exact (Moves.modPermit s fun _ => by rfl).tail (.trip _ _)
  · exact .modPermit s fun _ => rfl

theorem Moves.codePasses (s : State) : Moves s s.codePasses := by
  have emptied : Moves s ((s.modLink .cnv LinkState.emptyBuffer).modLink .stn LinkState.emptyBuffer) :=
    (Moves.modLink s _ _).trans (Moves.modLink _ _ _)
  unfold State.codePasses
  dsimp only
  split
  · exact emptied
  · next order rest weaved =>
    refine State.oneOf_keeps (P := Moves s) (fun t n h => h.trans (Moves.choices t n)) fun t ht => ?_
    rw [← List.map_cons] at ht
    obtain ⟨w, hw, rfl⟩ := List.mem_map.1 ht
    refine State.through_keeps (P := Moves s) (fun f hf u hu => ?_) emptied
    rcases mem_of_mem_weave (weaved ▸ hw) hf with hf | hf <;> obtain ⟨k, -, rfl⟩ := List.mem_map.1 hf
    · exact hu.trans (Moves.cnvPass u k)
    · exact hu.trans (Moves.stnPass u k)

/-! ## The links and the caps -/

theorem Moves.deliverSc (s : State) : Moves s s.deliverSc := .single (.table s _ (fun _ => by rfl) fun _ => by rfl)

/-- A change of the caps, the site mode, the clocks or the configuration is no move. -/
theorem Moves.storeCap (s : State) (l : Link) (v : Nat) : Moves s (s.storeCap l v) := by
  unfold State.storeCap
  repeat' split
  case h_1.isFalse | h_2.isFalse =>
    exact Relation.ReflTransGen.trans (Moves.of_same (by simp [movedParts, Part.same])) (Moves.deliverSc _)
  all_goals exact .refl

theorem Moves.returnToAuto (s : State) : Moves s s.returnToAuto := by
  unfold State.returnToAuto
  repeat' split
  · exact Relation.ReflTransGen.trans (Moves.of_same (by simp [movedParts, Part.same])) (Moves.deliverSc _)
  · exact .of_same (by simp [movedParts, Part.same])
  · exact .refl

theorem Moves.reportSilence (s : State) (l : Link) : Moves s (s.reportSilence l) := by
  cases l
  case cnv =>
    unfold State.reportSilence
    refine Moves.inAnyOrder (fun f hf t => ?_) s
    rcases List.mem_pair.1 hf with rfl | rfl
    · exact .single (.discardCnvOffer t)
    · exact .single (.trip t _)
  case stn => exact .single (.stationLapse s)
  case pnl => exact .refl
  case svc => exact .returnToAuto s

theorem Moves.bufferChange (s : State) (l : Link) (k : Code) : Moves s (s.bufferChange l k) :=
  .of_same (by simp [movedParts, Part.same])

theorem Moves.judgeStatus (s : State) (l : Link) (code : Byte) : Moves s (s.judgeStatus l code) := by
  have taken (t : State) (k : Code) : Moves t (t.takeChange l k) := by
    have noted : Moves t (t.modLink l fun j => { j with taken := some k }) := .modLink ..
    unfold State.takeChange
    cases l
    case cnv | stn => exact noted.trans (Moves.bufferChange _ _ _)
    case pnl => exact (noted.trans (Moves.bufferChange _ _ _)).tail (.modeChoice _)
    case svc =>
      dsimp only
      split
      · exact noted.trans (Moves.returnToAuto _)
      · exact noted
  unfold State.judgeStatus
  split
  · next k _ =>
    unfold State.showCode
    have shown : Moves s ((s.hear l).modLink l fun j => { j with candidate := some (namedCode l k) }) :=
      .of_same (by simp [movedParts, Part.same])
    dsimp only
    split
    · exact shown.trans (taken _ _)
    · exact shown
  · exact .modLink ..

theorem Moves.received (s : State) (l : Link) (found : List Received) :
    Moves s (found.foldl (fun t r => t.receiveOne l r) s) := by
  induction found generalizing s with
  | nil => exact .refl
  | cons r rest ih =>
    refine Relation.ReflTransGen.trans ?_ (ih _)
    cases r with
    | bad | good => exact Moves.of_same (by simp [State.receiveOne, movedParts, Part.same])
    | status code => exact Moves.judgeStatus s l code

/-! ## The plant -/

theorem Moves.flowExpired (s : State) : Moves s s.flowExpired := by
  unfold State.flowExpired
  split
  · exact Relation.ReflTransGen.trans (.single (.plantNote s _ fun _ => by exact ⟨rfl, rfl, rfl, rfl, rfl⟩)) (Moves.post _ _ _)
  · exact .single (.plantNote s _ fun _ => by exact ⟨rfl, rfl, rfl, rfl, rfl⟩)

theorem Moves.inputFault (s : State) (n : InputName) (old new : PlantInput) : Moves s (s.inputFault n old new) :=
  .of_same (by simp [movedParts, Part.same])

theorem Moves.storeInputs (s : State) (a b c d : Int) : Moves s (s.storeInputs a b c d) := by
  unfold State.storeInputs
  exact ((((Relation.ReflTransGen.single (.plantNote s _ fun _ => by exact ⟨rfl, rfl, rfl, rfl, rfl⟩)).trans
    (Moves.inputFault _ _ _ _)).trans (Moves.inputFault _ _ _ _)).trans (Moves.inputFault _ _ _ _)).trans
    (Moves.inputFault _ _ _ _)

theorem Moves.formDemand (s : State) : Moves s s.formDemand :=
  .single (.plantNote s _ fun _ => by exact ⟨rfl, rfl, rfl, rfl, rfl⟩)

theorem Moves.deliverCd (s : State) : Moves s s.deliverCd :=
  .single (.table s (fun t => { t with cd := .all _ }) (fun _ => rfl) fun _ => rfl)

/-! ## The resets -/

theorem Moves.completeReset (s : State) : Moves s s.completeReset := by
  have ready : Moves s s.ready := by
    have strings (d : Str) : (s.ready.string d).state = (s.string d).state := by cases d <;> rfl
    refine Relation.ReflTransGen.tail (b := s.modPlant fun q => { q with prescaler := s.params.prescaler.toNat })
      (.single (.plantNote s _ fun _ => by exact ⟨rfl, rfl, rfl, rfl, rfl⟩)) (.still strings ?_ ?_ ?_ ?_ ?_)
    all_goals rfl
  have fault (t : State) : Moves t t.reportFault := by
    unfold State.reportFault
    split
    · refine Relation.ReflTransGen.trans ?_ (Moves.deliverSc _)
      split
      · exact Moves.post ..
      · exact .refl
    · exact .refl
  have due (t : State) (c : Str) : Moves t (t.firstDue c) := .of_same (by simp [movedParts, Part.same])
  have noted (t : State) : Moves t t.noteSiteCode := .of_same (by simp [movedParts, Part.same])
  exact (((((ready.trans (due _ _)).trans (due _ _)).trans (Moves.post _ _ _)).trans (fault _)).trans
    (Moves.judgeBreaker _)).trans (noted _)

/-! ## Every command -/

theorem Moves.setTime (s : State) (n : Nat) : Moves s (s.atTime n) := .of_same (by simp [movedParts, Part.same])

/-- R110: RESET-FIRE. -/
theorem Moves.resetFire (s : State) : Moves s (resetFireBlock s).1 := by
  rcases resetFireBlock_cases s with e | ⟨stage, -, e⟩ <;> rw [e]
  exact .single (.fireReset s stage)

theorem Moves.offer (s : State) (l : Link) (payload : List Byte) : Moves s (offerBlock l payload s).1 := by
  unfold offerBlock
  split
  · exact .refl
  · dsimp only
    split
    · exact .refl
    · exact .single (.takeOffer s l _)

theorem Moves.setCap (s : State) (l : Link) (payload : List Byte) : Moves s (setCapBlock l payload s).1 := by
  unfold setCapBlock
  split
  · exact .storeCap ..
  · exact .refl

theorem Moves.setSiteMode (s : State) (payload : List Byte) : Moves s (setSiteModeBlock payload s).1 := by
  unfold setSiteModeBlock
  repeat' split
  case isTrue => exact .refl
  case isFalse.isTrue => exact .refl
  case isFalse.isFalse.isTrue => exact .returnToAuto s
  case isFalse.isFalse.isFalse => exact .of_same (by simp [movedParts, Part.same])

/-- A command that changes none of the parts a move speaks of makes no move. -/
theorem Moves.of_unchanged {i : Instr} (h : exec i s = .next t) (hi : ∀ p ∈ movedParts, p ∉ changedBy i) : Moves s t :=
  .of_same fun p hp => exec_same h (hi p hp)

/-- A command that serves a request is a course of moves. -/
theorem request_moves {i : Instr} {l : Link} {r : Request} (hi : requestOf i = some (l, r)) (h : exec i s = .next t) :
    Moves s t := by
  cases i
  all_goals try cases hi
  case joinString =>
    obtain rfl : _ = t := Host.Outcome.next.inj h
    exact .serve (.onString fun c => .join s c)
  case releaseString =>
    obtain rfl : _ = t := Host.Outcome.next.inj h
    exact .serve (.onString fun c => .release s c)
  case clearLockString =>
    obtain rfl : _ = t := Host.Outcome.next.inj h
    unfold clearLockString
    split
    · exact .refl
    · exact .serve (.onString fun c => .clearLock s c)
  case clearLockBreaker =>
    obtain rfl : _ = t := Host.Outcome.next.inj h
    unfold clearLockBreaker
    split
    · exact .serveReported (.clearBreaker s)
    · exact .refl
  case setCap =>
    obtain rfl : _ = t := Host.Outcome.next.inj h
    exact .serve (.setCap s _ _)
  case setSiteMode =>
    obtain rfl : _ = t := Host.Outcome.next.inj h
    exact .serve (.setSiteMode s _)
  case offer =>
    obtain rfl : _ = t := Host.Outcome.next.inj h
    exact .serve (.offer s _ _)
  case agreementRestart =>
    obtain rfl : _ = t := Host.Outcome.next.inj h
    exact .serve (.noPayload (.single (.restartAgreement s)))
  case resetFire =>
    obtain rfl : _ = t := Host.Outcome.next.inj h
    exact .serve (.noPayload (.resetFire s))
  case connect =>
    obtain rfl : _ = t := Host.Outcome.next.inj h
    refine .serveReported ?_
    split
    · exact .connectAnswer s _
    · exact .refl
  case disconnect =>
    obtain rfl : _ = t := Host.Outcome.next.inj h
    refine .serveReported ?_
    split
    · exact .disconnect s
    · exact .refl
  all_goals exact .of_unchanged h (by simp [movedParts, changedBy])

/-- R2, R4, R5: the end of a transaction, judged after the time of its end. -/
theorem Moves.transactionEnded (s : State) (n : Nat) (c : Str) (x : Transaction) (r : Option Reply) :
    Moves s ((s.atTime n).endTransaction c x r) := (Moves.setTime s n).trans (Moves.endTransaction ..)

/-- The timers of the strings. -/
theorem Moves.prechargeFailed (s : State) (c : Str) : Moves s (s.prechargeFailed c) :=
  (Moves.countTrip s c _).trans (Moves.setString_apart _ c rfl)

theorem Moves.feedbackChecked (s : State) (c : Str) (n : Nat) :
    Moves s (((s.atTime n).modString c fun k => { k with check := none }).judgeCheck c) :=
  ((Moves.setTime s n).trans (Moves.modString _ c fun _ => by rfl)).trans (Moves.judgeCheck _ c)

/-- The timers of the permit unit. -/
theorem Moves.closeTimeout (s : State) : Moves s s.closeTimeout := by
  unfold State.closeTimeout
  split
  · exact .disconnected s (by rfl) _ _
  · exact .modPermit s fun _ => by rfl

theorem Moves.releaseTimeout (s : State) : Moves s s.releaseTimeout := by
  unfold State.releaseTimeout
  split
  · exact (Moves.modPermit s fun _ => by rfl).trans (Moves.post _ _ _)
  · exact .modPermit s fun _ => by rfl

theorem Moves.recloseExpired (s : State) : Moves s s.recloseExpired := by
  unfold State.recloseExpired
  split
  · exact .disconnected s (by rfl) _ _
  · exact .modPermit s fun _ => by rfl

/-- R150, R154: a new level of the breaker feedback. -/
theorem Moves.breakerChanged (s : State) (level : Contact) : Moves s (breakerFeedbackChange level s) := by
  unfold breakerFeedbackChange
  repeat' split
  case isTrue => exact .refl
  case isFalse.isTrue => exact (Moves.modPermit s fun _ => by rfl).trans (Moves.judgeBreaker _)
  case isFalse.isFalse => exact .modPermit s fun _ => by rfl

theorem Moves.feedbackInput (s : State) (c : Str) (w : Contactor) (level : Contact) :
    Moves s (feedbackInputChange c w level s) := by
  unfold feedbackInputChange
  split
  · exact .refl
  · exact .modString s c fun k => by cases w <;> rfl

/-- R94. -/
theorem Moves.fallSilent (s : State) (l : Link) : Moves s (s.fallSilent l) :=
  (Moves.modLink s l _).trans (Moves.reportSilence _ l)

theorem Moves.completeWrite (s : State) (p : Params) : Moves s (s.completeWrite p) := by
  have written : Moves s (s.modConfig fun k => k.written p) := .of_same (by simp [movedParts, Part.same])
  have answered (t : State) : Moves t t.answerCommit := .of_same (by simp [movedParts, Part.same])
  unfold State.completeWrite
  dsimp only
  split
  · exact (written.trans (Moves.deliverSc _)).trans (answered _)
  · exact written.trans (answered _)

theorem Moves.isolationExpired (s : State) : Moves s s.isolationExpired := by
  refine .single (.still (fun c => ?_) (by simp) (by simp) ?_ (by simp) (by simp))
  · simp [State.string]
  · unfold State.isolationExpired
    dsimp only
    split <;> simp [State.modFire]

/-- R98, R99: the samples leave the stage as it was. -/
@[simp] theorem State.sampleLoops_stage (s : State) (ohms : Vector Nat 8) :
    (s.sampleLoops ohms).fire.stage = s.fire.stage := by
  refine State.foldl_post_keeps (P := fun t => t.fire.stage = s.fire.stage) (fun t n d ht => ?_) _ _ _ _ ?_
  · simpa using ht
  · simp [State.modFire]

@[simp] theorem State.sampleGas_stage (s : State) (g1 g2 : Int) : (s.sampleGas g1 g2).fire.stage = s.fire.stage := by
  simp [State.sampleGas, State.modFire]

/-- R80, R82: a new level of the flow switch. -/
theorem Moves.flowSwitch (s : State) (level : Flow) : Moves s (flowSwitchChange level s) := by
  unfold flowSwitchChange
  repeat' split
  case isTrue => exact .refl
  all_goals exact .single (.plantNote s _ fun _ => by exact ⟨rfl, rfl, rfl, rfl, rfl⟩)

/-- R175, R178: the start of a reset, and with the load its completion. -/
theorem Moves.startReset (s : State) (kind : ResetKind) (phase : Phase) : Moves s (s.startReset kind phase) :=
  .single (.reset s kind phase)

/-- A command that serves no request is a course of moves. -/
theorem event_moves {i : Instr} (hr : requestOf i = none) (h : exec i s = .next t) : Moves s t := by
  cases i
  all_goals try cases hr
  case readingAgeTick | cycleDue | unfittedCheck | histogramSample | sendStatusWord | answerSent | resetLineRelease
      | unknownKind =>
    exact .of_unchanged h (by simp [movedParts, changedBy])
  all_goals obtain rfl : _ = t := Host.Outcome.next.inj h
  case chainReply c r =>
    unfold chainReply
    split
    · split
      · exact .endTransaction ..
      · exact .refl
    · exact .refl
  case replyTimeout c =>
    unfold replyTimeout
    split
    · split
      · exact .transactionEnded ..
      · exact .refl
    · exact .refl
  case prechargeTimerExpiry c =>
    unfold prechargeTimerExpiry
    split
    · exact (Moves.setTime s _).trans (Moves.prechargeFailed _ c)
    · exact .refl
  case openingTimerExpiry c =>
    unfold openingTimerExpiry
    split
    · exact (Moves.setTime s _).trans (Moves.finishOpening _ c)
    · exact .refl
  case feedbackInputChange c w level => exact .feedbackInput s c w level
  case feedbackCheck c =>
    unfold feedbackCheck
    repeat' split
    case h_1.isTrue => exact .feedbackChecked ..
    all_goals exact .refl
  case clearLockString l n payload =>
    unfold clearLockString
    split
    · exact .refl
    · exact .serve (.onString fun c => .clearLock s c)
  case clearLockBreaker l n payload =>
    unfold clearLockBreaker
    split
    · exact .serveReported (.clearBreaker s)
    · exact .refl
  case envelopeTick =>
    unfold envelopeTick
    split
    · exact Relation.ReflTransGen.tail (Moves.of_same (by simp [movedParts, Part.same])) (.tick _)
    · exact .refl
  case analogSample a b c d =>
    have started (x : Clocks) : Moves s { s.atTime s.clocks.sample with clocks := x } :=
      .of_same (by simp [movedParts, Part.same])
    unfold analogSample
    split
    · exact ((((started _).trans (Moves.storeInputs _ a b c d)).trans (Moves.formDemand _)).tail (.modeChoice _)).trans
        (Moves.deliverCd _)
    · exact .refl
  case flowSwitchChange level => exact .flowSwitch s level
  case flowTimerExpiry =>
    unfold flowTimerExpiry
    split
    · exact (Moves.setTime s _).trans (Moves.flowExpired _)
    · exact .refl
  case chillerDwellExpiry g =>
    unfold chillerDwellExpiry
    split
    · exact (Moves.setTime s _).tail (.chillerExpired _ g)
    · exact .refl
  case heaterDwellExpiry =>
    unfold heaterDwellExpiry
    split
    · exact (Moves.setTime s _).tail (.heaterExpired _)
    · exact .refl
  case fireEvaluation loops gas1 gas2 =>
    have sampled (x : Clocks) : Moves s ((({ s.atTime s.clocks.fire with clocks := x }).sampleLoops loops).sampleGas gas1 gas2) := by
      refine .single (.still (fun c => ?_) (by simp) (by simp) (by simp) (by simp) (by simp))
      simp [State.string]
    unfold fireEvaluation
    split
    · exact (sampled _).tail (.passes _)
    · exact .refl
  case isolationTimerExpiry =>
    unfold isolationTimerExpiry
    split
    · exact (Moves.setTime s _).trans (Moves.isolationExpired _)
    · exact .refl
  case minuteBoundary =>
    unfold minuteBoundary
    split
    · exact ((Moves.setTime s _).tail (.clock _ _)).tail (.computeGa _)
    · exact .refl
  case breakerFeedbackChange level => exact .breakerChanged s level
  case closePendingTimerExpiry =>
    unfold closePendingTimerExpiry
    split
    · exact (Moves.setTime s _).trans (Moves.closeTimeout _)
    · exact .refl
  case releaseTimerExpiry =>
    unfold releaseTimerExpiry
    split
    · exact (Moves.setTime s _).trans (Moves.releaseTimeout _)
    · exact .refl
  case recloseTimerExpiry =>
    unfold recloseTimerExpiry
    split
    · exact (Moves.setTime s _).trans (Moves.recloseExpired _)
    · exact .refl
  case permitEvaluation =>
    have started (x : Clocks) : Moves s { s.atTime s.clocks.permit with clocks := x } :=
      .of_same (by simp [movedParts, Part.same])
    unfold permitEvaluation
    split
    · exact (started _).trans (Moves.codePasses _)
    · exact .refl
  case tripPulseEnd =>
    unfold tripPulseEnd
    split
    · exact (Moves.setTime s _).trans (Moves.modPermit _ fun _ => by rfl)
    · exact .refl
  case telegram l raw =>
    unfold telegram
    split
    · exact .received s l _
    · exact .refl
  case statusWord l code =>
    unfold statusWord
    split
    · exact .judgeStatus s l code
    · exact .refl
  case silenceTimeout l =>
    unfold silenceTimeout
    split
    · exact (Moves.setTime s _).trans (Moves.fallSilent _ l)
    · exact .refl
  case commitComplete =>
    unfold commitComplete
    split
    · exact .completeWrite s _
    · exact .refl
  case siteResetStart =>
    unfold siteResetStart
    split
    · exact (Moves.startReset s _ _).trans (Moves.completeReset _)
    · exact .refl
  case powerOn =>
    unfold powerOn
    split
    · exact .startReset s _ _
    · exact .refl
  case resetLineAssert =>
    have asserted : Moves s { s with resetLine := true } := .of_same (by simp [movedParts, Part.same])
    unfold resetLineAssert
    repeat' split
    case isTrue => exact .refl
    case isFalse.isTrue => exact asserted
    case isFalse.isFalse => exact asserted.trans (Moves.startReset _ _ _)
  case lossOfSupply =>
    unfold lossOfSupply
    split
    · exact .refl
    · exact .startReset s _ _
  case startUpLoadComplete =>
    have loaded : Moves s (s.modConfig ConfigStore.load) := .of_same (by simp [movedParts, Part.same])
    unfold startUpLoadComplete
    split
    · exact loaded.trans (Moves.completeReset _)
    · exact .refl

/-- Every command is a course of moves. -/
theorem exec_moves {i : Instr} (h : exec i s = .next t) : Moves s t := by
  cases hr : requestOf i with
  | some x => exact request_moves hr h
  | none => exact event_moves hr h

end

end Sys2Proof.Machine
end

-- ==== Proofs: the report of a string state, and the passes of a fire evaluation ====
section
namespace Sys2Proof.Machine

/-! ## What a list of effects establishes -/

/-- What one effect of a list establishes, and every one keeps, holds after the list; under a condition that every one
keeps. -/
theorem State.through_establishes {P Q : State → Prop} {effects : List (State → State)} {f : State → State}
    (hf : f ∈ effects) (hQ : ∀ g ∈ effects, ∀ t, Q t → Q (g t)) (hP : ∀ t, Q t → P (f t))
    (hk : ∀ g ∈ effects, ∀ t, Q t → P t → P (g t)) {s : State} (hs : Q s) : P (s.through effects) := by
  obtain ⟨before, after, rfl⟩ := List.append_of_mem hf
  have through (t : State) : t.through (before ++ f :: after) = (f (t.through before)).through after := by
    simp [State.through]
  have reached : Q (s.through before) := State.through_keeps (fun g hg => hQ g (by simp [hg])) hs
  rw [through]
  exact (State.through_keeps (P := fun t => Q t ∧ P t)
    (fun g hg t h => ⟨hQ g (by simp [hg]) t h.1, hk g (by simp [hg]) t h.1 h.2⟩)
    ⟨hQ f (by simp) _ reached, hP _ reached⟩).2

/-! ## The report of a string state (R44) -/

/-- R44, R69, R139, R150: the course of a report: the downward computation, the GA update where the number of JOINED
strings changed, and the NO-STRING trip where none is JOINED and a permit is connected, in some order. -/
theorem State.reportString_course (s : State) (before : Nat) :
    ∃ order n, s.reportString before = { s.through order with choices := n } ∧ State.downward ∈ order
      ∧ (∀ f ∈ order, f = State.downward ∨ f = State.computeGa ∨ f = State.noStringTrip)
      ∧ (s.joinedCount ≠ before → State.computeGa ∈ order)
      ∧ (s.joinedCount = 0 → s.permit.state.connected = true → State.noStringTrip ∈ order) := by
  unfold State.reportString
  split
  · next same => exact ⟨[State.downward, State.noStringTrip], _, rfl, by simp, by simp, by simp [same], by simp⟩
  · split
    · obtain ⟨p, hp, n, e⟩ := s.inAnyOrder_cases [State.downward, State.computeGa, State.noStringTrip]
      exact ⟨p, n, e, by simp [hp.mem_iff], by simp [hp.mem_iff], by simp [hp.mem_iff], by simp [hp.mem_iff]⟩
    · next other =>
      obtain ⟨p, hp, n, e⟩ := s.inAnyOrder_cases [State.downward, State.computeGa]
      exact ⟨p, n, e, by simp [hp.mem_iff], fun f hf => by simpa using Or.elim (by simpa using hp.mem_iff.1 hf) .inl (.inr ∘ .inl),
        by simp [hp.mem_iff], fun none connected => absurd ⟨none, connected⟩ other⟩

/-- R44, R56: a new state of a string stored, with the feedback check that a changed drive schedules. -/
def State.storeString (s : State) (c : Str) (new : StringState) : State :=
  s.modString c fun k => { k with
    state := new
    check := if (s.string c).state.mainDrive != new.mainDrive
        || (s.string c).state.prechargeDrive != new.prechargeDrive then some (s.uptime + 200) else k.check }

/-- R44: a change of state or of the LOCKED cause is posted and reported, any other is stored alone. -/
theorem State.setString_cases (s : State) (c : Str) (new : StringState) :
    (s.string c).state.name = new.name ∧ (s.string c).state.cause = new.cause
        ∧ s.setString c new = s.storeString c new
      ∨ ¬ ((s.string c).state.name = new.name ∧ (s.string c).state.cause = new.cause)
        ∧ s.setString c new
          = ((s.storeString c new).post .stringState (.string c new.name new.cause)).reportString s.joinedCount := by
  unfold State.setString State.storeString
  dsimp only
  split
  · next same => exact .inl ⟨same.1, same.2, rfl⟩
  · next changed => exact .inr ⟨changed, rfl⟩

/-- R44: the string controllers after a change of string state are those stored. -/
theorem State.setString_strings (s : State) (c : Str) (new : StringState) :
    (s.setString c new).strings = (s.storeString c new).strings := by
  rcases s.setString_cases c new with ⟨-, -, e⟩ | ⟨-, e⟩ <;> rw [e]
  simp

@[simp] theorem State.storeString_state (s : State) (c d : Str) (new : StringState) :
    ((s.storeString c new).string d).state = if d = c then new else (s.string d).state := by
  rw [State.storeString, State.modString_string]
  split <;> rfl

@[simp] theorem State.setString_state (s : State) (c d : Str) (new : StringState) :
    ((s.setString c new).string d).state = if d = c then new else (s.string d).state := by
  rw [State.string, s.setString_strings, ← State.string, State.storeString_state]

/-- What a report's receivers keep, a change of string state keeps once stored. -/
theorem State.setString_keeps {P : State → Prop} (hn : ∀ t n, P t → P { t with choices := n })
    (hpost : ∀ t n d, P t → P (t.post n d)) (hd : ∀ t, P t → P t.downward) (hg : ∀ t, P t → P t.computeGa)
    (ht : ∀ t, P t → P t.noStringTrip) {s : State} {c : Str} {new : StringState} (hs : P (s.storeString c new)) :
    P (s.setString c new) := by
  rcases s.setString_cases c new with ⟨-, -, e⟩ | ⟨-, e⟩ <;> rw [e]
  · exact hs
  · obtain ⟨order, n, e, -, members, -⟩ := State.reportString_course
      ((s.storeString c new).post .stringState (.string c new.name new.cause)) s.joinedCount
    rw [e]
    refine hn _ n (State.through_keeps (fun f hf t hP => ?_) (hpost _ _ _ hs))
    rcases members f hf with rfl | rfl | rfl
    · exact hd t hP
    · exact hg t hP
    · exact ht t hP

/-! ## The passes of a fire evaluation -/

/-- R105: what a pass judges before its change of stage leaves the stage as it was. -/
theorem State.judged_stage (s : State) (v : FireView) (code : Option Code) :
    (((s.judgeClasses v code).updateDegraded).judgeQuiet v).fire.stage = s.fire.stage := by
  have degraded : (s.judgeClasses v code).updateDegraded.fire.stage = (s.judgeClasses v code).fire.stage := by
    rw [(State.updateDegraded_fire _).1]
  have classes : (s.judgeClasses v code).fire.stage = s.fire.stage := rfl
  rw [← classes, ← degraded]
  unfold State.judgeQuiet State.modFire FireUnit.updateQuiet
  dsimp only
  split <;> rfl

/-- R104: from a stage below CONFIRMED a change leads to CONFIRMED, or to a stage below it. -/
theorem FireUnit.nextStage_below {f : FireUnit} (below : f.stage.fire = false) (p : Params) (v : FireView) (now : Nat)
    (code : Option Code) : (f.nextStage p v now code).fire = true → f.nextStage p v now code = .confirmed := by
  unfold FireUnit.nextStage
  dsimp only
  revert below
  cases f.stage <;> intro below <;> dsimp only
  case normal | preAlert | alert =>
    repeat' split
    all_goals simp [FireStage.fire]
  all_goals cases below

/-- R106: the decision of an entry into CONFIRMED, and what it hands on: the FS update, the forced openings, the forced
trip and the forcing of the plant. -/
theorem State.decidePass_entry {s : State} {v : FireView} {code : Option Code} (below : s.fire.stage.fire = false)
    (fire : (s.decidePass v code).1.fire.stage.fire = true) :
    ∃ u, (s.decidePass v code).1 = u ∧ u.fire.stage = .confirmed
      ∧ (s.decidePass v code).2 = [u.fsEffect] ++ (u.forceEffect .one ++ u.forceEffect .two ++ u.tripEffect)
          ++ [(.plant, fun t => t.plantStageChange true)] := by
  obtain ⟨t, e, ⟨g, -, next, d⟩ | ⟨d, -⟩⟩ := s.decidePass_cases v code
  · have old : t.fire.stage = s.fire.stage := e ▸ s.judged_stage v code
    have entered : (t.enterStage g).fire.stage = g := by rw [State.enterStage_fire]; rfl
    rw [d, entered] at fire
    have confirmed : g = .confirmed := by
      rw [next] at fire ⊢
      exact FireUnit.nextStage_below (old ▸ below) _ _ _ _ fire
    have entry : confirmedEntry t.fire.stage (t.enterStage g).fire.stage = true := by
      rw [entered, confirmed, old]
      revert below
      cases s.fire.stage <;> simp [confirmedEntry, FireStage.fire]
    refine ⟨_, rfl, by rw [d, entered, confirmed], ?_⟩
    rw [d]
    simp only [State.stageEffects, entry, if_true]
  · rw [d, e, s.judged_stage v code, below] at fire
    cases fire

/-- No effect of a pass changes the fire unit. -/
theorem State.fireEffect_fire {s : State} {v : FireView} {code : Option Code} {e : FireEffect}
    (h : e ∈ (s.decidePass v code).2) (t : State) : (e.2 t).fire = t.fire :=
  Part.same_fireEffect (p := .fire) (by decide) h t

/-- R113: what a change of stage hands on. -/
theorem State.mem_changeStage_effects {s : State} {old : FireStage} {e : FireEffect} (h : e ∈ s.stageEffects old) :
    ∃ (t : State) (entry : Bool), e = t.fsEffect ∨ (∃ c, e = (.string c, fun t => t.forceOpen c))
      ∨ e = (.permit, State.forcedTrip) ∨ e = (.plant, fun t => t.plantStageChange entry) := by
  rcases State.mem_stageEffects h with h | ⟨-, h | h⟩ | h
  · exact ⟨s, true, .inl h⟩
  · exact ⟨s, true, .inr (.inl h)⟩
  · exact ⟨s, true, .inr (.inr (.inl h))⟩
  · exact ⟨s, _, .inr (.inr (.inr h))⟩

/-- R113: a pass whose decision leaves a stage below CONFIRMED hands nothing to the strings or the permit unit. -/
theorem State.fireEffect_below {s : State} {v : FireView} {code : Option Code} {e : FireEffect}
    (h : e ∈ (s.decidePass v code).2) (below : (s.decidePass v code).1.fire.stage.fire = false) :
    e.1 = .envelope ∨ e.1 = .plant := by
  obtain ⟨t, -, ⟨g, -, -, d⟩ | ⟨-, d | d⟩⟩ := s.decidePass_cases v code <;> rw [d] at h
  · rcases State.mem_stageEffects h with rfl | ⟨entry, -⟩ | rfl
    · exact .inl rfl
    · rw [d] at below
      simp only [confirmedEntry, Bool.and_eq_true, beq_iff_eq] at entry
      rw [entry.1.1] at below
      cases below
    · exact .inr rfl
  · rw [List.mem_singleton.1 h]
    exact .inl rfl
  · cases h

/-- R113: effects in any order are taken in some order. -/
theorem State.takeAll_cases (s : State) (effects : List FireEffect) :
    ∃ p : List FireEffect, p.Perm effects ∧ ∃ n, s.takeAll effects = { s.take p with choices := n } := by
  obtain ⟨p, hp, n, e⟩ := s.inAnyOrder_cases (effects.map Prod.snd)
  rw [← List.mem_permutations', ← List.map_permutations', List.mem_map] at hp
  obtain ⟨q, hq, rfl⟩ := hp
  exact ⟨q, List.mem_permutations'.1 hq, n, e⟩

/-- What two lists hold, a list woven of them holds. -/
theorem mem_weave {α : Type} {xs ys w : List α} {a : α} (hw : w ∈ weave xs ys) (ha : a ∈ xs ∨ a ∈ ys) : a ∈ w := by
  induction ys generalizing xs w with
  | nil => simpa [List.mem_singleton.1 hw] using ha
  | cons y rest ih =>
    simp only [weave, List.mem_flatMap, List.mem_range, List.mem_map] at hw
    obtain ⟨i, -, v, hv, rfl⟩ := hw
    rcases ha with ha | ha
    · rw [← List.take_append_drop i xs] at ha
      rcases List.mem_append.1 ha with ha | ha
      · simp [ha]
      · simp [ih hv (.inl ha)]
    · rcases List.mem_cons.1 ha with rfl | ha
      · simp
      · simp [ih hv (.inr ha)]

/-- An effect keeps a condition while the stage is CONFIRMED or ISOLATED. -/
def FireEffect.Keeps (H : State → Prop) (e : FireEffect) : Prop :=
  ∀ t, t.fire.stage.fire = true → H t → H (e.2 t)

/-- Effects of decisions leave the fire unit alone. -/
def FireEffect.Quiet (e : FireEffect) : Prop := ∀ t, (e.2 t).fire = t.fire

/-- Quiet effects, taken one after the other, leave the fire unit alone. -/
theorem State.take_fire {effects : List FireEffect} (h : ∀ e ∈ effects, e.Quiet) (s : State) :
    (s.take effects).fire = s.fire :=
  State.take_keeps (P := fun t => t.fire = s.fire) (fun e hm t ht => (h e hm t).trans ht) rfl

/-- What a change of stage hands on leaves the fire unit alone. -/
theorem State.changeStage_fire (s : State) (g : FireStage) : (s.changeStage g).fire = (s.enterStage g).fire := by
  unfold State.changeStage
  dsimp only
  refine State.takeAll_keeps (P := fun t => t.fire = (s.enterStage g).fire) (fun t n h => h) (fun e he t h => ?_) rfl
  obtain ⟨u, entry, rfl | ⟨c, rfl⟩ | rfl | rfl⟩ := State.mem_changeStage_effects he
  all_goals simpa [State.fsEffect] using h

/-- R104: a change of stage leads to the stage it names. -/
@[simp] theorem State.changeStage_stage (s : State) (g : FireStage) : (s.changeStage g).fire.stage = g := by
  rw [State.changeStage_fire, State.enterStage_fire]
  rfl

section
variable {H : State → Prop}

/-- Effects that keep a condition keep it one after the other. -/
theorem State.take_holds {effects : List FireEffect} (hq : ∀ e ∈ effects, e.Quiet) (hk : ∀ e ∈ effects, e.Keeps H)
    {s : State} (fire : s.fire.stage.fire = true) (hs : H s) : H (s.take effects) :=
  (State.take_keeps (P := fun t => t.fire.stage.fire = true ∧ H t)
    (fun e he t h => ⟨by rw [hq e he t]; exact h.1, hk e he t h.1 h.2⟩) ⟨fire, hs⟩).2

/-- Effects that keep a condition, one of which establishes it. -/
theorem State.take_establishes {effects : List FireEffect} (hq : ∀ e ∈ effects, e.Quiet)
    (hk : ∀ e ∈ effects, e.Keeps H) {e : FireEffect} (he : e ∈ effects)
    (est : ∀ t, t.fire.stage.fire = true → H (e.2 t)) {s : State} (fire : s.fire.stage.fire = true) :
    H (s.take effects) := by
  refine State.through_establishes (Q := fun t => t.fire.stage.fire = true) (List.mem_map_of_mem he)
    (fun g hg t ht => ?_) est (fun g hg t ht h => ?_) fire
  · obtain ⟨x, hx, rfl⟩ := List.mem_map.1 hg
    rw [hq x hx t]
    exact ht
  · obtain ⟨x, hx, rfl⟩ := List.mem_map.1 hg
    exact hk x hx t ht h

/-- Numbered effects in which each receiver takes those of the first pass before those of the second, under a condition
that all of them keep: an effect of the second establishes what every other effect keeps, but perhaps those of the first
pass for the same receiver. -/
theorem State.take_woven {W : State → Prop} {order : List (Nat × FireEffect)} (ordered : receiversInOrder order = true)
    (hw : ∀ x ∈ order, ∀ t, W t → W (x.2.2 t)) {e : FireEffect} (he : (2, e) ∈ order)
    (hk : ∀ x ∈ order, (∀ t, W t → H t → H (x.2.2 t)) ∨ x.1 = 1 ∧ x.2.1 = e.1) (est : ∀ t, W t → H (e.2 t)) {s : State}
    (hs : W s) : H (s.take (order.map Prod.snd)) := by
  induction order generalizing s with
  | nil => cases he
  | cons x rest ih =>
    obtain ⟨later, ordered⟩ := Bool.and_eq_true_iff.1 (show (_ && receiversInOrder rest) = true from ordered)
    have hs' : W (x.2.2 s) := hw x (by simp) s hs
    have kept : ∀ y ∈ rest, ∀ t, W t → W (y.2.2 t) := fun y hy => hw y (by simp [hy])
    rcases List.mem_cons.1 he with rfl | he
    · refine (State.take_keeps (P := fun t => W t ∧ H t) (fun y hy t ht => ?_) (s := e.2 s) ⟨hs', est s hs⟩).2
      obtain ⟨z, hz, rfl⟩ := List.mem_map.1 hy
      refine ⟨kept z hz t ht.1, ?_⟩
      rcases hk z (by simp [hz]) with keeps | ⟨first, same⟩
      · exact keeps t ht.1 ht.2
      · have := List.all_eq_true.1 later z hz
        simp [first, same] at this
    · exact ih ordered kept he (fun y hy => hk y (by simp [hy])) hs'
end

/-- The effects of a fire evaluation that keep a condition while the stage is CONFIRMED or ISOLATED: those of a decision
that leaves such a stage, and those of any decision for receivers other than `r`. -/
def FireHolds (r : FireReceiver) (H : State → Prop) : Prop :=
  ∀ (s : State) v code, ∀ e ∈ (s.decidePass v code).2, (s.decidePass v code).1.fire.stage.fire = true ∨ e.1 ≠ r →
    e.Keeps H

/-- An entry into CONFIRMED from a stage below it brings a condition about: it holds already, of the strings or the permit
unit, or the effect of a receiver `r` establishes it. -/
def FireEnters (r : FireReceiver) (H : State → Prop) : Prop :=
  ∀ (s : State) v code, s.fire.stage.fire = false → (s.decidePass v code).1.fire.stage.fire = true →
    (r ≠ .envelope ∧ r ≠ .plant ∧ H (s.decidePass v code).1)
      ∨ ∃ e ∈ (s.decidePass v code).2, e.1 = r ∧ ∀ t, t.fire.stage.fire = true → H (e.2 t)

section
variable {r : FireReceiver} {H : State → Prop} (hn : ∀ t n, H t → H { t with choices := n })
  (hd : ∀ (t : State) v code, H t → H (t.decidePass v code).1) (hk : FireHolds r H) (he : FireEnters r H)

include hd hk he in
/-- The effects of a decision that leaves CONFIRMED or ISOLATED bring the condition about, where it held in such a stage
before. -/
theorem State.take_decision {s : State} {v : FireView} {code : Option Code} {p : List FireEffect}
    (hp : p.Perm (s.decidePass v code).2) (fire : (s.decidePass v code).1.fire.stage.fire = true)
    (hs : s.fire.stage.fire = true → H s) : H ((s.decidePass v code).1.take p) := by
  have quiet : ∀ e ∈ p, e.Quiet := fun e h => State.fireEffect_fire (hp.mem_iff.1 h)
  have keeps : ∀ e ∈ p, e.Keeps H := fun e h => hk s v code e (hp.mem_iff.1 h) (.inl fire)
  cases before : s.fire.stage.fire with
  | true => exact State.take_holds quiet keeps fire (hd s v code (hs before))
  | false =>
    rcases he s v code before fire with ⟨-, -, h⟩ | ⟨e, h, -, est⟩
    · exact State.take_holds quiet keeps fire h
    · exact State.take_establishes quiet keeps (hp.mem_iff.2 h) est fire

include hn hd hk he in
/-- R106: a condition that the entry into CONFIRMED brings about, and every effect in CONFIRMED and ISOLATED keeps, holds
in these stages after two passes, where it held in them before. -/
theorem State.twoPasses_fire {s : State} (v : FireView) (a b : Code) (hs : s.fire.stage.fire = true → H s)
    (fire : (s.twoPasses v a b).fire.stage.fire = true) : H (s.twoPasses v a b) := by
  obtain ⟨p, q, i, order, n, first, -, second, woven, ordered, t, left⟩ := s.twoPasses_cases v a b
  rw [left] at fire ⊢
  generalize he1 : (s.betweenPasses v a p i).decidePass v (some b) = e at *
  have quietP : ∀ x ∈ p, x.Quiet := fun x h => State.fireEffect_fire (first.mem_iff.1 h)
  have quietQ : ∀ x ∈ q, x.Quiet := fun x h => State.fireEffect_fire (he1 ▸ second.mem_iff.1 h)
  have fromOrder {x : Nat × FireEffect} (hx : x ∈ order) : x.1 = 1 ∧ x.2 ∈ p.drop i ∨ x.2 ∈ q := by
    rcases mem_of_mem_weave woven hx with h | h <;> obtain ⟨y, hy, rfl⟩ := List.mem_map.1 h
    · exact .inl ⟨rfl, hy⟩
    · exact .inr hy
  have quietO : ∀ x ∈ order, x.2.Quiet := fun x hx =>
    (fromOrder hx).elim (fun h => quietP _ (List.mem_of_mem_drop h.2)) (quietQ _)
  have quietM : ∀ x ∈ order.map Prod.snd, x.Quiet := by simpa using fun x k hx => quietO (k, x) hx
  have left : e.1.fire.stage.fire = true := by
    rw [← State.take_fire quietM e.1]
    exact fire
  have keepsQ : ∀ x ∈ q, x.Keeps H := fun x h =>
    hk _ v _ x (by rw [he1]; exact second.mem_iff.1 h) (.inl (by rw [he1]; exact left))
  have between : (s.betweenPasses v a p i).fire = (s.decidePass v (some a)).1.fire :=
    State.take_fire (fun x h => quietP x (List.mem_of_mem_take h)) _
  have decided (h : H (s.betweenPasses v a p i)) : H e.1 := he1 ▸ hd _ v _ h
  refine hn _ n ?_
  cases entered : (s.decidePass v (some a)).1.fire.stage.fire with
  | true =>
    have keepsP : ∀ x ∈ p, x.Keeps H := fun x h => hk s v _ x (first.mem_iff.1 h) (.inl entered)
    have keepsO : ∀ x ∈ order.map Prod.snd, x.Keeps H := by
      intro x hx
      obtain ⟨y, hy, rfl⟩ := List.mem_map.1 hx
      exact (fromOrder hy).elim (fun h => keepsP _ (List.mem_of_mem_drop h.2)) (keepsQ _)
    have after (h : H (s.betweenPasses v a p i)) : H (e.1.take (order.map Prod.snd)) :=
      State.take_holds quietM keepsO left (decided h)
    have taken : ∀ x ∈ p.take i, x ∈ p := fun x => List.mem_of_mem_take
    have held (h : H (s.decidePass v (some a)).1) : H (s.betweenPasses v a p i) :=
      State.take_holds (fun x hx => quietP x (taken x hx)) (fun x hx => keepsP x (taken x hx)) entered h
    cases before : s.fire.stage.fire with
    | true => exact after (held (hd s v _ (hs before)))
    | false =>
      rcases he s v _ before entered with ⟨-, -, h⟩ | ⟨x, hx, -, est⟩
      · exact after (held h)
      · have hx : x ∈ p.take i ++ p.drop i := by rw [List.take_append_drop]; exact first.mem_iff.2 hx
        rcases List.mem_append.1 hx with hx | hx
        · exact after (State.take_establishes (fun x hx => quietP x (taken x hx)) (fun x hx => keepsP x (taken x hx)) hx
            est entered)
        · have hx : (1, x) ∈ order := mem_weave woven (.inl (List.mem_map_of_mem hx))
          exact State.take_establishes quietM keepsO (List.mem_map_of_mem hx) est left
  | false =>
    have keepsO : ∀ x ∈ order, x.2.Keeps H ∨ x.1 = 1 ∧ x.2.1 = r := by
      intro x hx
      rcases fromOrder hx with ⟨one, h⟩ | h
      · by_cases same : x.2.1 = r
        · exact .inr ⟨one, same⟩
        · exact .inl (hk s v _ _ (first.mem_iff.1 (List.mem_of_mem_drop h)) (.inr same))
      · exact .inl (keepsQ _ h)
    rcases he (s.betweenPasses v a p i) v (some b) (by rw [between]; exact entered) (by rw [he1]; exact left) with
      ⟨env, plant, h⟩ | ⟨x, hx, rfl, est⟩
    · refine State.take_holds quietM (fun x hx => ?_) left (he1 ▸ h)
      obtain ⟨y, hy, rfl⟩ := List.mem_map.1 hx
      rcases fromOrder hy with ⟨-, h⟩ | h
      · have h := first.mem_iff.1 (List.mem_of_mem_drop h)
        refine hk s v _ _ h (.inr fun same => ?_)
        rcases State.fireEffect_below h entered with e | e
        · exact env (same ▸ e)
        · exact plant (same ▸ e)
      · exact keepsQ _ h
    · have hx : (2, x) ∈ order := mem_weave woven (.inr (List.mem_map_of_mem (second.mem_iff.2 (he1 ▸ hx))))
      exact State.take_woven ordered (fun y hy w hw => by rw [quietO y hy w]; exact hw) hx keepsO est left

include hn hd hk he in
/-- R106: a condition that the entry into CONFIRMED brings about, and every effect in CONFIRMED and ISOLATED keeps, holds
in these stages after an evaluation, where it held in them before. -/
theorem State.passes_fire_holds (hl : ∀ t, H t → H (t.modLink .pnl LinkState.emptyBuffer)) {s : State}
    (hs : s.fire.stage.fire = true → H s) (fire : s.passes.fire.stage.fire = true) : H s.passes := by
  have one (v : FireView) (code : Option Code) {t : State} (ht : t.fire.stage.fire = true → H t)
      (fire : (t.onePass v code).fire.stage.fire = true) : H (t.onePass v code) := by
    obtain ⟨p, hp, n, e⟩ := (t.decidePass v code).1.takeAll_cases (t.decidePass v code).2
    rw [State.onePass, e] at fire ⊢
    rw [State.take_fire fun x hx => State.fireEffect_fire (hp.mem_iff.1 hx)] at fire
    exact hn _ n (State.take_decision hd hk he hp fire ht)
  have emptied : (s.modLink .pnl LinkState.emptyBuffer).fire.stage.fire = true →
      H (s.modLink .pnl LinkState.emptyBuffer) := fun h => hl s (hs (by simpa using h))
  unfold State.passes at fire ⊢
  dsimp only at fire ⊢
  split at fire
  case h_4 => exact State.twoPasses_fire hn hd hk he _ _ _ emptied fire
  all_goals exact one _ _ emptied fire

end

end Sys2Proof.Machine
end

-- ==== Proofs: the published limits within their columns ====
section
namespace Sys2Proof.Machine

/-! ## The bound as one of targets (R67, R68) -/

/-- Each entry of a row is at most the other's. -/
def Row.AtMost (r q : Row) : Prop := ∀ c, r.charge c ≤ q.charge c ∧ r.discharge c ≤ q.discharge c

theorem State.targets_charge (s : State) (c : Str) :
    s.targets.charge c = (if s.isJoined c then s.envelope.table.lowest.charge c else 0)
      ∧ s.targets.discharge c = if s.isJoined c then s.envelope.table.lowest.discharge c else 0 := by
  cases c <;> exact ⟨rfl, rfl⟩

/-- R68: the limits are within their bounds where none is above its target. -/
theorem State.envelopeBounded_iff (s : State) : s.envelopeBounded ↔ s.envelope.limits.AtMost s.targets := by
  refine forall_congr' fun c => ?_
  obtain ⟨charge, discharge⟩ := s.targets_charge c
  rw [charge, discharge]
  cases s.isJoined c
  · simp; omega
  · simp

/-- The bound speaks of the limits, the table and the joined strings alone. -/
theorem State.envelopeBounded_congr {s t : State} (limits : t.envelope.limits = s.envelope.limits)
    (table : t.envelope.table = s.envelope.table) (joined : ∀ c, t.isJoined c = s.isJoined c) (h : s.envelopeBounded) :
    t.envelopeBounded := by
  intro c
  rw [limits, table, joined c]
  exact h c

theorem State.isJoined_congr {s t : State} (h : t.strings = s.strings) (c : Str) : t.isJoined c = s.isJoined c := by
  rw [State.isJoined, State.isJoined, State.string, State.string, h]

/-- The parts that hold the limits, the table and the strings. -/
theorem State.envelopeBounded_of_same {s t : State} (envelope : t.envelope = s.envelope) (strings : t.strings = s.strings)
    (h : s.envelopeBounded) : t.envelopeBounded :=
  State.envelopeBounded_congr (by rw [envelope]) (by rw [envelope]) (State.isJoined_congr strings) h

/-! ## What brings the bound about -/

@[simp] theorem State.publish_limits (s : State) (limits : Row) : (s.publish limits).envelope.limits = limits := by
  unfold State.publish
  split
  · next same => exact same.symm
  · rfl

/-- R68, R70: a publication of limits within the targets. -/
theorem State.publish_bounded {s : State} {limits : Row} (h : limits.AtMost s.targets) :
    (s.publish limits).envelopeBounded := by
  rw [State.envelopeBounded_iff, State.publish_limits]
  have same : (s.publish limits).targets = s.targets := by
    have strings : (s.publish limits).strings = s.strings := by simp
    rw [State.targets, State.targets, State.publish_table, State.isJoined_congr strings, State.isJoined_congr strings]
  rwa [same]

theorem State.downward_bounded (s : State) : s.downward.envelopeBounded :=
  State.publish_bounded fun c => by cases c <;> exact ⟨Nat.min_le_right .., Nat.min_le_right ..⟩

/-- R70: a tick moves a limit to its target or below it. -/
theorem tickLimit_le (step target limit : Nat) : tickLimit step target limit ≤ target := by
  unfold tickLimit
  split <;> omega

theorem State.tick_bounded (s : State) : s.tick.envelopeBounded :=
  State.publish_bounded fun c => by cases c <;> exact ⟨tickLimit_le .., tickLimit_le ..⟩

theorem State.updateTable_bounded (s : State) (f : LimitTable → LimitTable) : (s.updateTable f).envelopeBounded :=
  State.downward_bounded _

theorem State.computeGa_bounded (s : State) : s.computeGa.envelopeBounded := State.updateTable_bounded _ _

theorem State.noStringTrip_bounded {s : State} (h : s.envelopeBounded) : s.noStringTrip.envelopeBounded :=
  State.envelopeBounded_of_same (by simp) (by simp) h

/-- A new phase or end state of a string joins none and releases none. -/
theorem State.storeString_isJoined {s : State} {c : Str} {new : StringState} (name : (s.string c).state.name = new.name)
    (d : Str) : (s.storeString c new).isJoined d = s.isJoined d := by
  rw [State.isJoined, State.storeString_state]
  split
  · next same =>
    subst same
    unfold State.isJoined
    revert name
    cases (s.string d).state <;> cases new <;> simp [StringState.name]
  · rfl

/-- R44, R69: a change of string state that is reported runs a downward computation. -/
theorem State.setString_reported_bounded {s : State} {c : Str} {new : StringState}
    (changed : ¬((s.string c).state.name = new.name ∧ (s.string c).state.cause = new.cause)) :
    (s.setString c new).envelopeBounded := by
  rcases s.setString_cases c new with ⟨name, cause, -⟩ | ⟨-, e⟩
  · exact absurd ⟨name, cause⟩ changed
  · obtain ⟨order, n, e', down, members, -⟩ := State.reportString_course
      ((s.storeString c new).post .stringState (.string c new.name new.cause)) s.joinedCount
    rw [e, e']
    refine State.envelopeBounded_of_same (s := State.through _ order) rfl rfl ?_
    refine State.through_establishes (Q := fun _ => True) down (fun _ _ _ _ => trivial)
      (fun t _ => t.downward_bounded) (fun f hf t _ ht => ?_) trivial
    rcases members f hf with rfl | rfl | rfl
    · exact t.downward_bounded
    · exact t.computeGa_bounded
    · exact State.noStringTrip_bounded ht

/-- R44: a change of string state, stored, is reported with a downward computation where a string joins or is joined no
more. -/
theorem State.setString_bounded {s : State} (c : Str) (new : StringState) (h : s.envelopeBounded) :
    (s.setString c new).envelopeBounded := by
  rcases s.setString_cases c new with ⟨name, -, e⟩ | ⟨changed, -⟩
  · rw [e]
    exact State.envelopeBounded_congr (s := s) rfl rfl (State.storeString_isJoined name) h
  · exact State.setString_reported_bounded changed

/-- R113: the effects of a fire pass keep the bound. -/
theorem FireEffect.bounded {u : State} {entry : Bool} {e : FireEffect}
    (he : e = u.fsEffect ∨ (∃ c, e = (.string c, fun t => t.forceOpen c)) ∨ e = (.permit, State.forcedTrip)
      ∨ e = (.plant, fun t => t.plantStageChange entry)) {t : State} (h : t.envelopeBounded) :
    (e.2 t).envelopeBounded := by
  rcases he with rfl | ⟨c, rfl⟩ | rfl | rfl
  · exact State.updateTable_bounded t _
  · dsimp only
    unfold State.forceOpen
    split
    · exact h
    · exact State.setString_bounded c _ h
  · exact State.envelopeBounded_of_same (by simp) (by simp) h
  · exact State.envelopeBounded_of_same (by simp) (by simp) h

theorem State.passes_bounded {s : State} (h : s.envelopeBounded) : s.passes.envelopeBounded :=
  State.passes_keeps (P := State.envelopeBounded) (fun t n ht => State.envelopeBounded_of_same rfl rfl ht)
    (fun t v code ht => State.envelopeBounded_of_same (by simp) (by simp) ht)
    (fun t v code e he u hu => by
      obtain ⟨w, entry, he⟩ := State.mem_decidePass_effects he
      exact FireEffect.bounded he hu)
    (fun t ht => State.envelopeBounded_of_same (by simp) (by simp) ht) h

theorem State.changeStage_bounded {s : State} (g : FireStage) (h : s.envelopeBounded) :
    (s.changeStage g).envelopeBounded :=
  State.takeAll_keeps (P := State.envelopeBounded) (fun t n ht => State.envelopeBounded_of_same rfl rfl ht)
    (fun e he u hu => by
      obtain ⟨w, entry, he⟩ := State.mem_changeStage_effects he
      exact FireEffect.bounded he hu)
    (State.envelopeBounded_of_same (by simp) (by simp) h)

/-! ## Every step -/

/-- R68: every move keeps the bound. -/
theorem Move.bounded {s t : State} (h : s.envelopeBounded) (m : Move s t) : t.envelopeBounded := by
  cases m with
  | still strings envelope =>
    exact State.envelopeBounded_congr (by rw [envelope]) (by rw [envelope])
      (fun c => by rw [State.isJoined, strings c, State.isJoined]) h
  | string c new => exact State.setString_bounded c new h
  | tick => exact s.tick_bounded
  | table f => exact s.updateTable_bounded f
  | computeGa => exact s.computeGa_bounded
  | takeOffer | discardCnvOffer | restartAgreement => exact State.computeGa_bounded _
  | stationLapse =>
    unfold State.stationLapse
    dsimp only
    split
    · exact State.computeGa_bounded _
    · exact State.envelopeBounded_of_same rfl rfl h
    · exact State.computeGa_bounded _
  | passes => exact State.passes_bounded h
  | fireReset => exact State.changeStage_bounded .normal h
  | reset kind phase =>
    intro c
    cases c <;> simp [State.startReset, Envelope.atReset, Row.all, Row.charge, Row.discharge]
  | trip | grant => exact State.envelopeBounded_of_same (by simp) (by simp) h
  | permit | clock | plantNote => exact State.envelopeBounded_of_same rfl rfl h
  | modeChoice | chillerExpired | heaterExpired => exact State.envelopeBounded_of_same (by simp) (by simp) h

/-- Settles O29: each command is a course of moves, each of which keeps the bound. -/
theorem stepKeepsEnvelopeBounded : Obligations.StepKeepsEnvelopeBounded := by
  unfold Obligations.StepKeepsEnvelopeBounded
  intro s t hs h
  exact step_keeps (P := State.envelopeBounded) (fun s rest h => State.envelopeBounded_of_same rfl rfl h)
    (fun s n h => State.envelopeBounded_of_same rfl rfl h)
    (fun i s t hs h => (exec_moves h).keeps (fun s t => Move.bounded) hs) hs h

end Sys2Proof.Machine
end

-- ==== Proofs: the agreement and the GA row ====
section
namespace Sys2Proof.Machine

/-! ## Resolution (R132) -/

/-- R132: RESOLVED has both offers, and values within both. -/
theorem resolution_resolved {cnv stn : Option Offer} {lapse : Bool} (h : (resolution cnv stn lapse).1 = .resolved) :
    ∃ c t r, cnv = some c ∧ stn = some t ∧ (resolution cnv stn lapse).2.2 = some r
      ∧ r.importPower ≤ c.importLimit ∧ r.importPower ≤ t.importLimit
      ∧ r.exportPower ≤ c.exportLimit ∧ r.exportPower ≤ t.exportLimit := by
  cases cnv with
  | none => cases stn <;> cases h
  | some c =>
    cases stn with
    | none => cases h
    | some t =>
      by_cases blocked : ((mismatch c t lapse).condition || (mismatch c t lapse).minImport) = true
      · rw [resolution_of_blocked rfl blocked] at h
        cases h
      · rw [resolution_of_agreed rfl blocked]
        exact ⟨c, t, _, rfl, rfl, rfl, Nat.min_le_right .., Nat.min_le_left .., Nat.min_le_right .., Nat.min_le_left ..⟩

/-- R132: the agreement resolved afresh is sound. -/
theorem State.resolveAgreement_sound (s : State) : s.resolveAgreement.agreement.resolvedSound := by
  have resolved : (s.modAgreement fun a => { a with
      state := (resolution s.agreement.cnvOffer s.agreement.stnOffer s.agreement.lapse).1
      flags := (resolution s.agreement.cnvOffer s.agreement.stnOffer s.agreement.lapse).2.1
      resolved := (resolution s.agreement.cnvOffer s.agreement.stnOffer s.agreement.lapse).2.2 }).agreement.resolvedSound :=
    resolution_resolved
  unfold State.resolveAgreement
  dsimp only
  split
  · simpa using resolved
  · exact resolved

/-! ## The computation of GA (R140, R141) -/

/-- R140: in NONE, OFFERED and MISMATCH the power basis is 0. -/
theorem State.powerBasis_lost {s : State} (h : s.agreement.state.lost = true) : s.powerBasis = (0, 0) := by
  cases e : s.agreement.state <;> simp_all [State.powerBasis, AgreementState.lost]

/-- R140: in RESOLVED the power basis is within the resolved values. -/
theorem State.powerBasis_resolved {s : State} {r : Resolved} (h : s.agreement.state = .resolved)
    (hr : s.agreement.resolved = some r) : s.powerBasis.1 ≤ r.importPower ∧ s.powerBasis.2 ≤ r.exportPower := by
  simp only [State.powerBasis, h, hr]
  cases s.segmentInForce with
  | none => exact ⟨le_rfl, le_rfl⟩
  | some g => exact ⟨Nat.min_le_right .., Nat.min_le_right ..⟩

/-- R141: a power of 0 is shared as no current. -/
theorem perString_zero (v n : Nat) : perString 0 v n = 0 := by simp [perString]

/-- R140: the computation of GA leaves the agreement kept, where its resolved values are sound. -/
theorem State.computeGa_kept {s : State} (h : s.agreement.resolvedSound) : s.computeGa.agreementKept := by
  refine ⟨fun lost => ?row, fun state => ?basis, fun state => ?values⟩
  case row =>
    rw [s.computeGa_agreement] at lost
    rw [s.computeGa_table, State.powerBasis_lost lost, perString_zero]
    rfl
  case basis =>
    rw [s.computeGa_agreement] at state ⊢
    obtain ⟨cnv, stn, r, hc, hs, hr, ic, is, ec, es⟩ := h state
    obtain ⟨import_le, export_le⟩ := State.powerBasis_resolved state hr
    exact ⟨cnv, stn, hc, hs, import_le.trans ic, import_le.trans is, export_le.trans ec, export_le.trans es⟩
  case values =>
    rw [s.computeGa_agreement] at state ⊢
    exact h state

/-- The parts that hold the agreement and the GA row. -/
theorem State.agreementKept_of_same {s t : State} (agreement : t.agreement = s.agreement)
    (ga : t.envelope.table.ga = s.envelope.table.ga) (h : s.agreementKept) : t.agreementKept := by
  obtain ⟨row, basis, values⟩ := h
  refine ⟨fun lost => ?_, agreement ▸ basis, agreement ▸ values⟩
  rw [ga]
  exact row (agreement ▸ lost)

/-- The agreement is kept where only the clock, the lapse or a toggle changes. -/
theorem State.agreementKept_modAgreement {s : State} {f : Agreement → Agreement}
    (state : (f s.agreement).state = s.agreement.state) (cnv : (f s.agreement).cnvOffer = s.agreement.cnvOffer)
    (stn : (f s.agreement).stnOffer = s.agreement.stnOffer) (resolved : (f s.agreement).resolved = s.agreement.resolved)
    (imported : (f s.agreement).basisImport = s.agreement.basisImport)
    (exported : (f s.agreement).basisExport = s.agreement.basisExport) (h : s.agreementKept) :
    (s.modAgreement f).agreementKept := by
  obtain ⟨row, basis, values⟩ := h
  refine ⟨fun lost => row (state ▸ lost), fun h => ?_, fun h => ?_⟩
  · rw [State.modAgreement, cnv, stn, imported, exported]
    exact basis (state ▸ h)
  · rw [State.modAgreement, cnv, stn, resolved]
    exact values (state ▸ h)

theorem State.downward_agreementKept {s : State} (h : s.agreementKept) : s.downward.agreementKept :=
  State.agreementKept_of_same (by simp) (by simp [State.downward]) h

theorem State.setString_agreementKept {s : State} (c : Str) (new : StringState) (h : s.agreementKept) :
    (s.setString c new).agreementKept :=
  State.setString_keeps (P := State.agreementKept) (fun t n ht => State.agreementKept_of_same rfl rfl ht)
    (fun t n d ht => State.agreementKept_of_same (by simp) (by simp) ht) (fun t => State.downward_agreementKept)
    (fun t ht => State.computeGa_kept ht.2.2) (fun t ht => State.agreementKept_of_same (by simp) (by simp) ht)
    (State.agreementKept_of_same rfl rfl h)

/-- R139: the STN link's silence. -/
theorem State.stationLapse_kept {s : State} (h : s.agreementKept) : s.stationLapse.agreementKept := by
  unfold State.stationLapse
  dsimp only
  split
  · exact State.computeGa_kept (by simp [Agreement.resolvedSound, State.modAgreement])
  · exact State.agreementKept_modAgreement rfl rfl rfl rfl rfl rfl h
  · exact State.computeGa_kept h.2.2

/-! ## The passes of a fire evaluation -/

/-- R113: the effects of a change of stage keep the agreement. -/
theorem FireEffect.agreementKept {u : State} {entry : Bool} {e : FireEffect}
    (he : e = u.fsEffect ∨ (∃ c, e = (.string c, fun t => t.forceOpen c)) ∨ e = (.permit, State.forcedTrip)
      ∨ e = (.plant, fun t => t.plantStageChange entry)) {t : State} (h : t.agreementKept) :
    (e.2 t).agreementKept := by
  rcases he with rfl | ⟨c, rfl⟩ | rfl | rfl
  · exact State.agreementKept_of_same (by simp [State.fsEffect]) (by simp [State.fsEffect, State.updateFs]) h
  · dsimp only
    unfold State.forceOpen
    split
    · exact h
    · exact State.setString_agreementKept c _ h
  · exact State.agreementKept_of_same (by simp) (by simp) h
  · exact State.agreementKept_of_same (by simp) (by simp) h

theorem State.passes_agreementKept {s : State} (h : s.agreementKept) : s.passes.agreementKept :=
  State.passes_keeps (P := State.agreementKept) (fun t n ht => State.agreementKept_of_same rfl rfl ht)
    (fun t v code ht => State.agreementKept_of_same (by simp) (by simp) ht)
    (fun t v code e he u hu => by
      obtain ⟨w, entry, he⟩ := State.mem_decidePass_effects he
      exact FireEffect.agreementKept he hu)
    (fun t ht => State.agreementKept_of_same (by simp) (by simp) ht) h

theorem State.changeStage_agreementKept {s : State} (g : FireStage) (h : s.agreementKept) :
    (s.changeStage g).agreementKept :=
  State.takeAll_keeps (P := State.agreementKept) (fun t n ht => State.agreementKept_of_same rfl rfl ht)
    (fun e he t ht => by
      obtain ⟨w, entry, he⟩ := State.mem_changeStage_effects he
      exact FireEffect.agreementKept he ht)
    (State.agreementKept_of_same (by simp) (by simp) h)

/-! ## Every step -/

/-- R132, R140: every move keeps the agreement. -/
theorem Move.agreementKept {s t : State} (h : s.agreementKept) (m : Move s t) : t.agreementKept := by
  cases m with
  | still _ envelope _ _ agreement => exact State.agreementKept_of_same agreement (by rw [envelope]) h
  | string c new => exact State.setString_agreementKept c new h
  | tick => exact State.agreementKept_of_same (by simp) (by simp [State.tick]) h
  | table f _ ga => exact State.agreementKept_of_same (by simp) (by simp [ga]) h
  | computeGa => exact State.computeGa_kept h.2.2
  | clock => exact State.agreementKept_modAgreement rfl rfl rfl rfl rfl rfl h
  | takeOffer l o =>
    exact State.computeGa_kept (by simpa [State.postAgreement] using State.resolveAgreement_sound _)
  | discardCnvOffer =>
    refine State.computeGa_kept ?_
    split
    · simpa [State.postAgreement] using State.resolveAgreement_sound _
    · exact State.resolveAgreement_sound _
  | restartAgreement =>
    refine State.computeGa_kept ?_
    split
    · simpa [State.postAgreement] using State.resolveAgreement_sound _
    · exact State.resolveAgreement_sound _
  | stationLapse => exact State.stationLapse_kept h
  | passes => exact State.passes_agreementKept h
  | fireReset => exact State.changeStage_agreementKept .normal h
  | reset kind phase =>
    refine ⟨fun _ => rfl, ?_, ?_⟩
    all_goals
      intro state
      cases state
  | trip | grant => exact State.agreementKept_of_same (by simp) (by simp) h
  | permit | plantNote => exact State.agreementKept_of_same rfl rfl h
  | modeChoice | chillerExpired | heaterExpired => exact State.agreementKept_of_same (by simp) (by simp) h

/-- Settles O44: each command is a course of moves, each of which keeps the agreement. -/
theorem stepKeepsAgreement : Obligations.StepKeepsAgreement := by
  unfold Obligations.StepKeepsAgreement
  intro s t hs h
  exact step_keeps (P := State.agreementKept) (fun s rest h => State.agreementKept_of_same rfl rfl h)
    (fun s n h => State.agreementKept_of_same rfl rfl h)
    (fun i s t hs h => (exec_moves h).keeps (fun s t => Move.agreementKept) hs) hs h

end Sys2Proof.Machine
end

-- ==== Proofs: a connected permit has a JOINED string and no fire ====
section
namespace Sys2Proof.Machine

/-! ## What connects no permit -/

/-- From a state to another no permit is connected that was not. -/
def State.ConnectsNone (s t : State) : Prop :=
  t.permit.state.connected = true → s.permit.state.connected = true

theorem State.ConnectsNone.of_same {s t : State} (h : t.permit = s.permit) : s.ConnectsNone t := by
  rw [State.ConnectsNone, h]
  exact id

theorem State.ConnectsNone.trans {s t u : State} (h : s.ConnectsNone t) (k : t.ConnectsNone u) : s.ConnectsNone u := h ∘ k

/-- R151: a trip leaves no permit connected. -/
theorem State.trip_disconnects (s : State) (k : TripCause) : (s.trip k).permit.state.connected = false := by
  unfold State.trip
  split
  · simp only [State.postBreaker, State.post_frame, State.modPermit, Permit.tripped]
    split <;> rfl
  · next none => exact Bool.eq_false_iff.2 none

theorem State.trip_connectsNone (s : State) (k : TripCause) : s.ConnectsNone (s.trip k) := by
  rw [State.ConnectsNone, s.trip_disconnects k]
  simp

theorem State.noStringTrip_connectsNone (s : State) : s.ConnectsNone s.noStringTrip := by
  unfold State.noStringTrip
  split
  · exact s.trip_connectsNone _
  · exact .of_same rfl

theorem State.forcedTrip_connectsNone (s : State) : s.ConnectsNone s.forcedTrip := by
  unfold State.forcedTrip
  repeat' split
  case isTrue => exact s.trip_connectsNone _
  case isFalse.isTrue =>
    intro h
    simpa [State.unpermittedClose, State.postBreaker, State.modPermit] using h
  case isFalse.isFalse => exact .of_same rfl

/-- R151: the forced trip leaves no permit connected. -/
theorem State.forcedTrip_disconnects (s : State) : s.forcedTrip.permit.state.connected = false := by
  cases connected : s.permit.state.connected with
  | true =>
    rw [State.forcedTrip, if_pos connected]
    exact s.trip_disconnects _
  | false => exact Bool.eq_false_iff.2 fun h => by simpa [connected] using s.forcedTrip_connectsNone h

theorem State.resolveAgreement_connectsNone (s : State) : s.ConnectsNone s.resolveAgreement := by
  unfold State.resolveAgreement
  dsimp only
  split
  · exact State.trip_connectsNone (s.modAgreement _) _
  · exact .of_same rfl

theorem State.computeGa_connectsNone (s : State) : s.ConnectsNone s.computeGa := .of_same (by simp)

theorem State.takeOffer_connectsNone (s : State) (l : Link) (o : Offer) : s.ConnectsNone (s.takeOffer l o) := by
  refine (State.resolveAgreement_connectsNone (s.modAgreement fun a => a.hold l o s.uptime)).trans ?_
  exact .of_same (by simp [State.takeOffer, State.postAgreement])

/-- A state that has the permit unit as a resolution left it connects no permit. -/
theorem State.ConnectsNone.of_resolved {s t : State} (f : Agreement → Agreement)
    (h : t.permit = (s.modAgreement f).resolveAgreement.permit) : s.ConnectsNone t :=
  (State.resolveAgreement_connectsNone (s.modAgreement f)).trans (.of_same h)

theorem State.discardCnvOffer_connectsNone (s : State) : s.ConnectsNone s.discardCnvOffer := by
  refine .of_resolved (fun a => { a with cnvOffer := none, cnvToggle := none }) ?_
  unfold State.discardCnvOffer
  dsimp only
  split <;> simp [State.postAgreement]

theorem State.restartAgreement_connectsNone (s : State) : s.ConnectsNone s.restartAgreement := by
  refine .of_resolved (fun a =>
    { a with cnvOffer := none, stnOffer := none, cnvToggle := none, stnToggle := none, lapse := false }) ?_
  unfold State.restartAgreement
  dsimp only
  split <;> simp [State.postAgreement]

theorem State.setString_connectsNone (s : State) (c : Str) (new : StringState) : s.ConnectsNone (s.setString c new) :=
  State.setString_keeps (P := s.ConnectsNone) (fun t n h => h) (fun t n d h => h.trans (.of_same (by simp)))
    (fun t h => h.trans (.of_same (by simp))) (fun t h => h.trans t.computeGa_connectsNone)
    (fun t h => h.trans t.noStringTrip_connectsNone) (.of_same rfl)

theorem State.forceOpen_connectsNone (s : State) (c : Str) : s.ConnectsNone (s.forceOpen c) := by
  unfold State.forceOpen
  split
  · exact .of_same rfl
  · exact s.setString_connectsNone c _

/-- R113: the effects of a change of stage connect no permit. -/
theorem FireEffect.connectsNone {u : State} {entry : Bool} {e : FireEffect}
    (he : e = u.fsEffect ∨ (∃ c, e = (.string c, fun t => t.forceOpen c)) ∨ e = (.permit, State.forcedTrip)
      ∨ e = (.plant, fun t => t.plantStageChange entry)) (t : State) : t.ConnectsNone (e.2 t) := by
  rcases he with rfl | ⟨c, rfl⟩ | rfl | rfl
  · exact .of_same (by simp [State.fsEffect])
  · exact t.forceOpen_connectsNone c
  · exact t.forcedTrip_connectsNone
  · exact .of_same (by simp)

theorem State.passes_connectsNone (s : State) : s.ConnectsNone s.passes :=
  State.passes_keeps (P := s.ConnectsNone) (fun t n h => h) (fun t v code h => h.trans (.of_same (by simp)))
    (fun t v code e he u h => by
      obtain ⟨w, entry, he⟩ := State.mem_decidePass_effects he
      exact h.trans (FireEffect.connectsNone he u))
    (fun t h => h.trans (.of_same (by simp))) (.of_same rfl)

theorem State.changeStage_connectsNone (s : State) (g : FireStage) : s.ConnectsNone (s.changeStage g) :=
  State.takeAll_keeps (P := s.ConnectsNone) (fun t n h => h)
    (fun e he t h => by
      obtain ⟨w, entry, he⟩ := State.mem_changeStage_effects he
      exact h.trans (FireEffect.connectsNone he t))
    (.of_same (by simp))

/-- R146: every move connects a permit only as CONNECT grants it. -/
theorem Move.connectsNone {s t : State} (m : Move s t) :
    s.ConnectsNone t ∨ s.joinedCount ≥ 1 ∧ s.fire.stage.fire = false ∧ t = s.grant := by
  cases m with
  | grant joined stage => exact .inr ⟨joined, stage, rfl⟩
  | still _ _ _ _ _ permit => exact .inl (.of_same permit)
  | string c new => exact .inl (s.setString_connectsNone c new)
  | trip k => exact .inl (s.trip_connectsNone k)
  | permit f guard => exact .inl guard
  | takeOffer l o => exact .inl (s.takeOffer_connectsNone l o)
  | discardCnvOffer => exact .inl s.discardCnvOffer_connectsNone
  | restartAgreement => exact .inl s.restartAgreement_connectsNone
  | passes => exact .inl s.passes_connectsNone
  | fireReset => exact .inl (s.changeStage_connectsNone _)
  | reset kind phase =>
    refine .inl fun h => ?_
    simp only [State.startReset, Permit.atReset] at h
    cases kind <;> cases state : s.permit.state <;> simp_all [PermitState.afterReset, PermitState.connected]
  | tick | table | computeGa | clock | plantNote | modeChoice | chillerExpired | heaterExpired | stationLapse =>
    exact .inl (.of_same (by simp))

/-! ## A connected permit has a JOINED string -/

/-- R145: a connected permit has a JOINED string. -/
def State.permitJoined (s : State) : Prop := s.permit.state.connected = true → s.joinedCount ≥ 1

theorem State.joinedCount_eq (s : State) :
    s.joinedCount = (if s.isJoined .one then 1 else 0) + if s.isJoined .two then 1 else 0 := by
  unfold State.joinedCount State.isJoined State.string PerString.get
  by_cases one : s.strings.one.state = .joined <;> by_cases two : s.strings.two.state = .joined <;> simp [one, two]

theorem State.joinedCount_congr {s t : State} (h : ∀ c, t.isJoined c = s.isJoined c) : t.joinedCount = s.joinedCount := by
  rw [t.joinedCount_eq, s.joinedCount_eq, h, h]

/-- The strings as they were, and no permit newly connected. -/
theorem State.permitJoined_of_same {s t : State} (strings : t.strings = s.strings) (connected : s.ConnectsNone t)
    (h : s.permitJoined) : t.permitJoined := fun k => by
  rw [State.joinedCount_congr (State.isJoined_congr strings)]
  exact h (connected k)

@[simp] theorem State.permitJoined_choices (s : State) (n : Nat) :
    ({ s with choices := n } : State).permitJoined ↔ s.permitJoined := Iff.rfl

/-- R150: a reported change of string state after which no string is JOINED leaves no permit connected. -/
theorem State.setString_reported_permitJoined {s : State} {c : Str} {new : StringState}
    (changed : ¬((s.string c).state.name = new.name ∧ (s.string c).state.cause = new.cause)) :
    (s.setString c new).permitJoined := by
  rcases s.setString_cases c new with ⟨name, cause, -⟩ | ⟨-, e⟩
  · exact absurd ⟨name, cause⟩ changed
  · rw [e]
    generalize posted : (s.storeString c new).post .stringState (.string c new.name new.cause) = t
    obtain ⟨order, n, e, -, members, -, trips⟩ := t.reportString_course s.joinedCount
    rw [e]
    have strings (u : State) : ∀ f ∈ order, (f u).strings = u.strings := fun f hf => by
      rcases members f hf with rfl | rfl | rfl <;> simp
    have connects (u : State) : ∀ f ∈ order, u.ConnectsNone (f u) := fun f hf => by
      rcases members f hf with rfl | rfl | rfl
      · exact .of_same (by simp)
      · exact u.computeGa_connectsNone
      · exact u.noStringTrip_connectsNone
    have keeps (u : State) (hu : u.permitJoined) : ∀ f ∈ order, (f u).permitJoined := fun f hf =>
      State.permitJoined_of_same (strings u f hf) (connects u f hf) hu
    rw [State.permitJoined_choices]
    by_cases joined : t.permitJoined
    · exact State.through_keeps (fun f hf u hu => keeps u hu f hf) joined
    · simp only [State.permitJoined, Classical.not_imp, not_le, Nat.lt_one_iff] at joined
      obtain ⟨connected, none⟩ := joined
      refine State.through_establishes (Q := fun u => u.joinedCount = 0) (trips none connected)
        (fun f hf u hu => ?_) (fun u hu k => ?_) (fun f hf u _ hu => keeps u hu f hf) none
      · rw [State.joinedCount_congr (State.isJoined_congr (strings u f hf))]
        exact hu
      · rw [State.noStringTrip, if_pos hu, State.trip_disconnects] at k
        cases k

/-- R150: a change of string state after which no string is JOINED leaves no permit connected. -/
theorem State.setString_permitJoined {s : State} (c : Str) (new : StringState) (h : s.permitJoined) :
    (s.setString c new).permitJoined := by
  rcases s.setString_cases c new with ⟨name, -, e⟩ | ⟨changed, -⟩
  · rw [e]
    intro k
    rw [State.joinedCount_congr (State.storeString_isJoined name)]
    exact h k
  · exact State.setString_reported_permitJoined changed

/-- R113: the effects of a change of stage keep a JOINED string to a connected permit. -/
theorem FireEffect.permitJoined {u : State} {entry : Bool} {e : FireEffect}
    (he : e = u.fsEffect ∨ (∃ c, e = (.string c, fun t => t.forceOpen c)) ∨ e = (.permit, State.forcedTrip)
      ∨ e = (.plant, fun t => t.plantStageChange entry)) {t : State} (h : t.permitJoined) : (e.2 t).permitJoined := by
  have connects := FireEffect.connectsNone he t
  rcases he with rfl | ⟨c, rfl⟩ | rfl | rfl
  · exact State.permitJoined_of_same (by simp [State.fsEffect]) connects h
  · dsimp only
    unfold State.forceOpen
    split
    · exact h
    · exact State.setString_permitJoined c _ h
  · exact State.permitJoined_of_same (by simp) connects h
  · exact State.permitJoined_of_same (by simp) connects h

theorem State.passes_permitJoined {s : State} (h : s.permitJoined) : s.passes.permitJoined :=
  State.passes_keeps (P := State.permitJoined) (fun t n ht => ht)
    (fun t v code ht => State.permitJoined_of_same (by simp) (.of_same (by simp)) ht)
    (fun t v code e he u hu => by
      obtain ⟨w, entry, he⟩ := State.mem_decidePass_effects he
      exact FireEffect.permitJoined he hu)
    (fun t ht => State.permitJoined_of_same (by simp) (.of_same (by simp)) ht) h

theorem State.changeStage_permitJoined {s : State} (g : FireStage) (h : s.permitJoined) :
    (s.changeStage g).permitJoined :=
  State.takeAll_keeps (P := State.permitJoined) (fun t n ht => ht)
    (fun e he t ht => by
      obtain ⟨w, entry, he⟩ := State.mem_changeStage_effects he
      exact FireEffect.permitJoined he ht)
    (State.permitJoined_of_same (by simp) (.of_same (by simp)) h)

/-- R145, R150: every move keeps a JOINED string to a connected permit. -/
theorem Move.permitJoined {s t : State} (h : s.permitJoined) (m : Move s t) : t.permitJoined := by
  have connects := m.connectsNone
  cases m with
  | grant joined => exact fun _ => by simpa [State.joinedCount] using joined
  | still strings _ _ _ _ permit =>
    intro k
    rw [State.joinedCount_congr (s := s) fun c => by simp only [State.isJoined, strings c]]
    exact h (permit ▸ k)
  | string c new => exact State.setString_permitJoined c new h
  | passes => exact State.passes_permitJoined h
  | fireReset => exact State.changeStage_permitJoined _ h
  | reset kind phase =>
    intro k
    simp only [State.startReset, Permit.atReset] at k
    cases kind <;> cases state : s.permit.state <;> simp_all [PermitState.afterReset, PermitState.connected]
  | trip | permit | takeOffer | discardCnvOffer | restartAgreement | tick | table | computeGa | clock | plantNote
    | modeChoice | chillerExpired | heaterExpired | stationLapse =>
    rcases connects with connects | ⟨joined, -, -⟩
    · exact State.permitJoined_of_same (by simp) connects h
    · exact fun _ => by rw [State.joinedCount_congr (s := s) (State.isJoined_congr (by simp))]; exact joined

/-! ## No permit in a fire -/

/-- R106: the forced trip of an entry into CONFIRMED leaves no permit connected. -/
theorem fireEnters_disconnected : FireEnters .permit fun t => t.permit.state.connected = false := by
  intro s v code below fire
  obtain ⟨u, d, -, effects⟩ := State.decidePass_entry below fire
  rw [d, effects]
  by_cases connected : u.permit.state.connected = true
  · refine .inr ⟨(.permit, State.forcedTrip), ?_, rfl, fun t _ => t.forcedTrip_disconnects⟩
    simp [State.tripEffect, connected]
  · exact .inl ⟨by decide, by decide, Bool.eq_false_iff.2 connected⟩

theorem fireHolds_disconnected : FireHolds .permit fun t => t.permit.state.connected = false := by
  intro s v code e he _ t _ h
  obtain ⟨w, entry, he⟩ := State.mem_decidePass_effects he
  exact Bool.eq_false_iff.2 fun k => by simpa [h] using FireEffect.connectsNone he t k

/-- R106, R150: every move leaves no permit connected in CONFIRMED and ISOLATED. -/
theorem Move.disconnected {s t : State} (h : s.fire.stage.fire = true → s.permit.state.connected = false)
    (m : Move s t) (fire : t.fire.stage.fire = true) : t.permit.state.connected = false := by
  have connects := m.connectsNone
  cases m with
  | passes =>
    exact State.passes_fire_holds (H := fun t => t.permit.state.connected = false) (fun t n h => h)
      (fun t v code h => by simpa using h) fireHolds_disconnected fireEnters_disconnected (fun t h => by simpa using h) h
      fire
  | fireReset => simp [FireStage.fire] at fire
  | reset kind phase => cases fire
  | still _ _ _ stage _ permit => exact permit ▸ h (stage ▸ fire)
  | grant _ stage =>
    simp [stage] at fire
  | string | tick | table | trip | permit | computeGa | clock | takeOffer | discardCnvOffer | restartAgreement
    | stationLapse | plantNote | modeChoice | chillerExpired | heaterExpired =>
    have before : s.permit.state.connected = false := h (by simpa using fire)
    rcases connects with connects | ⟨-, below, -⟩
    · exact Bool.eq_false_iff.2 fun k => by simpa [before] using connects k
    · simp [below] at fire

/-! ## Every step -/

/-- R145 in three parts: the permit line needs a connected permit by its definition. -/
theorem State.permitKept_iff (s : State) :
    s.permitKept ↔ s.permitJoined ∧ (s.fire.stage.fire = true → s.permit.state.connected = false) := by
  have line : s.permit.line = true → s.permit.state.connected = true := by
    unfold Permit.line
    cases s.permit.state <;> simp [PermitState.connected]
  constructor
  · rintro ⟨connected, -⟩
    refine ⟨fun k => (connected k).1, fun fire => Bool.eq_false_iff.2 fun k => ?_⟩
    rw [(connected k).2] at fire
    cases fire
  · rintro ⟨joined, fire⟩
    refine ⟨fun k => ⟨joined k, Bool.eq_false_iff.2 fun f => ?_⟩, line⟩
    rw [fire f] at k
    cases k

/-- Settles O50: each command is a course of moves, each of which keeps a JOINED string and no fire to a connected
permit. -/
theorem stepKeepsPermit : Obligations.StepKeepsPermit := by
  unfold Obligations.StepKeepsPermit
  intro s t hs h
  refine step_keeps (P := State.permitKept) (fun s rest h => h) (fun s n h => h)
    (fun i s t hs h => (exec_moves h).keeps (fun s t hs m => ?_) hs) hs h
  rw [State.permitKept_iff] at hs ⊢
  exact ⟨m.permitJoined hs.1, m.disconnected hs.2⟩

end Sys2Proof.Machine
end

-- ==== Proofs: the container isolated in a fire ====
section
namespace Sys2Proof.Machine

/-! ## Both strings apart -/

/-- R106: a string forced open is apart. -/
theorem State.forceOpen_apart (s : State) (c : Str) : ((s.forceOpen c).string c).state.apart = true := by
  unfold State.forceOpen
  split
  · assumption
  · rw [State.setString_state, if_pos rfl]
    rfl

/-- A forced opening leaves a string apart that was. -/
theorem State.forceOpen_keeps_apart {s : State} (c : Str) {d : Str} (h : (s.string d).state.apart = true) :
    ((s.forceOpen c).string d).state.apart = true := by
  unfold State.forceOpen
  split
  · exact h
  · rw [State.setString_state]
    split
    · rfl
    · exact h

theorem State.string_congr {s t : State} (h : t.strings = s.strings) (c : Str) : t.string c = s.string c := by
  rw [State.string, State.string, h]

theorem fireHolds_apart (c : Str) : FireHolds (.string c) fun t => (t.string c).state.apart = true := by
  intro s v code e he _ t _ h
  obtain ⟨w, entry, rfl | ⟨d, rfl⟩ | rfl | rfl⟩ := State.mem_decidePass_effects he
  · rw [State.string_congr (s := t) (by simp [State.fsEffect])]
    exact h
  · exact State.forceOpen_keeps_apart d h
  · rw [State.string_congr (s := t) (by simp)]
    exact h
  · rw [State.string_congr (s := t) (by simp)]
    exact h

theorem fireEnters_apart (c : Str) : FireEnters (.string c) fun t => (t.string c).state.apart = true := by
  intro s v code below fire
  obtain ⟨u, d, -, effects⟩ := State.decidePass_entry below fire
  rw [d, effects]
  by_cases apart : (u.string c).state.apart = true
  · exact .inl ⟨nofun, nofun, apart⟩
  · refine .inr ⟨(.string c, fun t => t.forceOpen c), ?_, rfl, fun t _ => t.forceOpen_apart c⟩
    cases c <;> simp [State.forceEffect, apart]

/-- R106: every move leaves the strings apart in CONFIRMED and ISOLATED. -/
theorem Move.apart {s t : State} (c : Str) (h : s.fire.stage.fire = true → (s.string c).state.apart = true)
    (m : Move s t) (fire : t.fire.stage.fire = true) : (t.string c).state.apart = true := by
  cases m with
  | passes =>
    exact State.passes_fire_holds (H := fun t => (t.string c).state.apart = true) (fun t n h => h)
      (fun t v code h => by rwa [State.string_congr (s := t) (by simp)]) (fireHolds_apart c) (fireEnters_apart c)
      (fun t h => by rwa [State.string_congr (s := t) (by simp)]) h fire
  | fireReset => simp [FireStage.fire] at fire
  | reset kind phase => cases fire
  | still strings _ _ stage => exact strings c ▸ h (stage ▸ fire)
  | string d new guard =>
    have before := h (by simpa using fire)
    rw [State.setString_state]
    split
    · next same =>
      subst same
      rcases guard with new | old | stage
      · exact new
      · rw [before] at old
        cases old
      · simp [stage] at fire
    · exact before
  | tick | table | trip | permit | computeGa | clock | takeOffer | discardCnvOffer | restartAgreement | grant
    | stationLapse | plantNote | modeChoice | chillerExpired | heaterExpired =>
    rw [State.string_congr (s := s) (by simp)]
    exact h (by simpa using fire)

/-! ## The FS row -/

/-- R112: in CONFIRMED and ISOLATED the FS entries are 0. -/
theorem fsRow_fire (p : Params) {g : FireStage} (h : g.fire = true) (degraded : Bool) : fsRow p g degraded = .all 0 := by
  cases g <;> cases h <;> cases degraded <;> simp [fsRow, stageRow, Row.both, Row.all]

/-- R112: what a decision hands to the envelope unit is the FS update of the stage it left. -/
theorem State.fireEffect_envelope {s : State} {v : FireView} {code : Option Code} {e : FireEffect}
    (h : e ∈ (s.decidePass v code).2) (env : e.1 = .envelope) : e = (s.decidePass v code).1.fsEffect := by
  obtain ⟨t, -, ⟨g, -, -, d⟩ | ⟨d, effects⟩⟩ := s.decidePass_cases v code
  · rw [d] at h ⊢
    rcases State.mem_stageEffects h with rfl | ⟨-, ⟨c, rfl⟩ | rfl⟩ | rfl
    · rfl
    all_goals cases env
  · rw [d]
    rcases effects with effects | effects <;> rw [effects] at h
    · exact List.mem_singleton.1 h
    · cases h

/-- The FS entries of a state. -/
def State.fsZero (s : State) : Prop := s.envelope.table.fs = .all 0

theorem State.computeGa_fsZero {s : State} (h : s.fsZero) : s.computeGa.fsZero := by
  simpa [State.fsZero, State.computeGa_table] using h

theorem State.fsZero_of_same {s t : State} (envelope : t.envelope = s.envelope) (h : s.fsZero) : t.fsZero := by
  rw [State.fsZero, envelope]
  exact h

theorem State.setString_fsZero {s : State} (c : Str) (new : StringState) (h : s.fsZero) : (s.setString c new).fsZero :=
  State.setString_keeps (P := State.fsZero) (fun t n h => h) (fun t n d h => by simpa [State.fsZero] using h)
    (fun t h => by simpa [State.fsZero, State.downward] using h)
    (fun t => State.computeGa_fsZero)
    (fun t h => by simpa [State.fsZero] using h) h

theorem State.fsEffect_fsZero {s : State} (fire : s.fire.stage.fire = true) (t : State) : (s.fsEffect.2 t).fsZero := by
  simp [State.fsZero, State.fsEffect, State.updateFs, fsRow_fire _ fire]

theorem fireHolds_fsZero : FireHolds .envelope State.fsZero := by
  intro s v code e he other t _ h
  obtain ⟨w, entry, fs | ⟨c, rfl⟩ | rfl | rfl⟩ := State.mem_decidePass_effects he
  · have env : e.1 = .envelope := fs ▸ rfl
    rcases other with fire | other
    · rw [State.fireEffect_envelope he env]
      exact State.fsEffect_fsZero fire t
    · exact absurd env other
  · dsimp only
    unfold State.forceOpen
    split
    · exact h
    · exact State.setString_fsZero c _ h
  · simpa [State.fsZero] using h
  · simpa [State.fsZero] using h

theorem fireEnters_fsZero : FireEnters .envelope State.fsZero := by
  intro s v code below fire
  obtain ⟨u, d, confirmed, effects⟩ := State.decidePass_entry below fire
  refine .inr ⟨u.fsEffect, by simp [effects], rfl, fun t _ => State.fsEffect_fsZero ?_ t⟩
  rw [confirmed]
  rfl

/-- R106, R112: every move leaves the FS entries 0 in CONFIRMED and ISOLATED. -/
theorem Move.fsZero {s t : State} (h : s.fire.stage.fire = true → s.fsZero) (m : Move s t)
    (fire : t.fire.stage.fire = true) : t.fsZero := by
  cases m with
  | passes =>
    exact State.passes_fire_holds (H := State.fsZero) (fun t n h => h) (fun t v code h => by simpa [State.fsZero] using h)
      fireHolds_fsZero fireEnters_fsZero (fun t h => by simpa [State.fsZero] using h) h fire
  | fireReset => simp [FireStage.fire] at fire
  | reset kind phase => cases fire
  | still _ envelope _ stage =>
    rw [State.fsZero, envelope]
    exact h (stage ▸ fire)
  | string c new => exact State.setString_fsZero c new (h (by simpa using fire))
  | tick =>
    have before := h (by simpa using fire)
    simpa [State.fsZero, State.tick] using before
  | table f fs =>
    have before := h (by simpa using fire)
    simpa [State.fsZero, fs] using before
  | computeGa => exact State.computeGa_fsZero (h (by simpa using fire))
  | takeOffer l o =>
    exact State.computeGa_fsZero (State.fsZero_of_same (by simp [State.postAgreement]) (h (by simpa using fire)))
  | discardCnvOffer | restartAgreement =>
    refine State.computeGa_fsZero (State.fsZero_of_same ?_ (h (by simpa using fire)))
    split <;> simp [State.postAgreement]
  | stationLapse =>
    have before := h (by simpa using fire)
    unfold State.stationLapse
    dsimp only
    split
    · exact State.computeGa_fsZero (State.fsZero_of_same (by simp [State.postAgreement]) before)
    · exact before
    · exact State.computeGa_fsZero (State.fsZero_of_same (by simp) before)
  | trip | permit | clock | grant | plantNote | modeChoice | chillerExpired | heaterExpired =>
    have before := h (by simpa using fire)
    simpa [State.fsZero] using before

/-! ## Every step -/

/-- R106: limits within columns whose FS entries are 0 are 0. -/
theorem State.limits_zero {s : State} (bounded : s.envelopeBounded) (zero : s.fsZero) :
    s.envelope.limits = .all 0 := by
  have lowest : s.envelope.table.lowest = .all 0 := by
    rw [LimitTable.lowest, show s.envelope.table.fs = .all 0 from zero]
    simp [Row.zip, Row.all]
  obtain ⟨c1, d1, -⟩ := bounded .one
  obtain ⟨c2, d2, -⟩ := bounded .two
  rw [lowest] at c1 d1 c2 d2
  generalize s.envelope.limits = limits at *
  cases limits
  simpa [Row.all, Row.charge, Row.discharge] using And.intro c1 (And.intro d1 (And.intro c2 d2))

/-- R106: what the part keeps, with the limits and the permit line left to follow from the rest. -/
theorem State.fireKept_iff (s : State) :
    s.FireKept ↔ s.envelopeBounded ∧ (s.fire.stage.fire = true → s.fsZero)
      ∧ (s.fire.stage.fire = true → s.permit.state.connected = false)
      ∧ ∀ c, s.fire.stage.fire = true → (s.string c).state.apart = true := by
  constructor
  · intro h
    refine ⟨h.bounded, h.row, h.permit, fun c fire => ?_⟩
    obtain ⟨-, -, one, two⟩ := h.isolates fire
    cases c
    · exact one
    · exact two
  · rintro ⟨bounded, row, permit, apart⟩
    refine ⟨bounded, fun fire => ⟨State.limits_zero bounded (row fire), ?_, apart .one fire, apart .two fire⟩, row, permit⟩
    have disconnected := permit fire
    unfold Permit.line
    revert disconnected
    cases s.permit.state <;> simp [PermitState.connected]

/-- Settles O38: each command is a course of moves, each of which keeps the container isolated. -/
theorem stepKeepsFireIsolation : Obligations.StepKeepsFireIsolation := by
  unfold Obligations.StepKeepsFireIsolation
  intro s t hs h
  refine step_keeps (P := State.FireKept) (fun s rest h => ?_) (fun s n h => ?_)
    (fun i s t hs h => (exec_moves h).keeps (fun s t hs m => ?_) hs) hs h
  · rw [State.fireKept_iff] at h ⊢
    exact h
  · rw [State.fireKept_iff] at h ⊢
    exact h
  · rw [State.fireKept_iff] at hs ⊢
    obtain ⟨bounded, row, permit, apart⟩ := hs
    exact ⟨m.bounded bounded, m.fsZero row, m.disconnected permit, fun c => m.apart c (apart c)⟩

end Sys2Proof.Machine
end

-- ==== Proofs: the plant's stages in order, and held off in a fire ====
section
namespace Sys2Proof.Machine

/-! ## Stage 2 only with stage 1 (R87) -/

section
variable {q : Plant} (now : Nat)

theorem Plant.stage1Off_ordered (h : q.stagesOrdered) : (q.stage1Off now).stagesOrdered := by
  unfold Plant.stage1Off
  repeat' split
  case isTrue.isTrue => exact nofun
  case isTrue.isFalse => exact h
  case isFalse off => exact fun on => absurd on off

theorem Plant.stage2Off_ordered : (q.stage2Off now).stagesOrdered := nofun

/-- R86: a request ON leaves an output ON that was; a request OFF leaves one OFF that was. -/
theorem DwellOutput.ask_on (o : DwellOutput) (dwell : Bool → Nat) (on : Bool) (h : o.on = on) :
    o.ask dwell now on = { o with request := none } := by
  rw [DwellOutput.ask, if_pos h.symm]

/-- R86: a request refused by the dwell is pending. -/
theorem DwellOutput.ask_pending (o : DwellOutput) (dwell : Bool → Nat) (on : Bool) (other : on ≠ o.on)
    (busy : o.free dwell now = false) : o.ask dwell now on = { o with request := some on } := by
  rw [DwellOutput.ask, if_neg other, if_neg (by simp [busy])]

/-- R86: a request within the dwell, or for the state the output has, changes no output. -/
theorem DwellOutput.ask_same {o : DwellOutput} {dwell : Bool → Nat} {on : Bool}
    (h : on = o.on ∨ ¬ o.free dwell now = true) : (o.ask dwell now on).on = o.on := by
  unfold DwellOutput.ask
  repeat' split
  case isFalse.isTrue other free => exact absurd free (h.resolve_left other)
  all_goals rfl

theorem DwellOutput.ask_true {o : DwellOutput} {dwell : Bool → Nat} (h : o.on = true) :
    (o.ask dwell now true).on = true := by
  rw [DwellOutput.ask_same now (.inl h.symm)]
  exact h

theorem Plant.ask1_ordered (on : Bool) (h : q.stagesOrdered) : (q.ask1 now on).stagesOrdered := by
  unfold Plant.ask1
  repeat' split
  case isTrue.isTrue => exact fun two => DwellOutput.ask_true now (h two)
  case isTrue.isFalse => exact fun two => DwellOutput.ask_true now (h two)
  case isFalse.isTrue => exact Plant.stage1Off_ordered now h
  case isFalse.isFalse busy =>
    intro two
    have one := h two
    rw [DwellOutput.ask_same now (.inr fun free => busy ⟨one, free⟩)]
    exact one

theorem Plant.ask2_ordered (on : Bool) (h : q.stagesOrdered) : (q.ask2 now on).stagesOrdered := by
  unfold Plant.ask2
  repeat' split
  case isTrue.isTrue one => exact fun _ => one
  case isTrue.isFalse => exact h
  case isFalse.isTrue => exact q.stage2Off_ordered now
  case isFalse.isFalse busy =>
    intro two
    refine h ?_
    cases on2 : q.chiller2.on with
    | true => rfl
    | false =>
      rw [DwellOutput.ask_on now _ _ _ on2, on2] at two
      exact two

theorem Plant.askIf1_ordered (r : Option Bool) (h : q.stagesOrdered) : (q.askIf1 now r).stagesOrdered := by
  cases r with
  | none => exact h
  | some on => exact Plant.ask1_ordered now on h

theorem Plant.askIf2_ordered (r : Option Bool) (h : q.stagesOrdered) : (q.askIf2 now r).stagesOrdered := by
  cases r with
  | none => exact h
  | some on => exact Plant.ask2_ordered now on h

theorem Plant.chillerRule_ordered (p : Params) (m : CoolingMode) (h : q.stagesOrdered) :
    (q.chillerRule p now m).stagesOrdered := by
  unfold Plant.chillerRule
  split
  · exact Plant.askIf2_ordered now _ (Plant.askIf1_ordered now _ h)
  · exact Plant.ask2_ordered now _ (Plant.ask1_ordered now _ h)

/-- R91: the heater's rules leave the chiller stages alone. -/
theorem Plant.heaterIn_chillers (p : Params) (coldest : Option Int) (m : CoolingMode) :
    (q.heaterIn p now coldest m).chiller1 = q.chiller1 ∧ (q.heaterIn p now coldest m).chiller2 = q.chiller2 := by
  unfold Plant.heaterIn Plant.heaterRule
  repeat' split
  all_goals exact ⟨rfl, rfl⟩

theorem Plant.setOutputs_ordered (p : Params) (coldest : Option Int) (m : CoolingMode) (h : q.stagesOrdered) :
    (q.setOutputs p now coldest m).stagesOrdered := by
  unfold Plant.setOutputs
  rw [Plant.stagesOrdered, Plant.judgeFlow]
  dsimp only
  obtain ⟨one, two⟩ := Plant.heaterIn_chillers (q := Plant.chillerRule { q with
      mode := m
      prescaler := p.prescaler.toNat
      fanDuty := fanDutyOf p q.demand m
      pumpDuty := pumpDutyOf p m } p now m) now p coldest m
  rw [one, two]
  exact Plant.chillerRule_ordered now p m h

theorem Plant.expire1_ordered (h : q.stagesOrdered) : (q.expire1 now).stagesOrdered := by
  unfold Plant.expire1
  repeat' split
  case h_1.isTrue one => exact fun _ => one
  case h_1.isFalse => exact fun _ => rfl
  case h_2.isTrue => exact Plant.stage1Off_ordered now h
  case h_2.isFalse => exact h
  case h_3 => exact h

theorem Plant.expire2_ordered (h : q.stagesOrdered) : (q.expire2 now).stagesOrdered := by
  unfold Plant.expire2
  repeat' split
  case h_1.isTrue on => exact fun _ => on.1
  case h_1.isFalse => exact h
  case h_2.isTrue => exact q.stage2Off_ordered now
  case h_2.isFalse => exact h
  case h_3 => exact h

theorem Plant.fireOff_ordered : (q.fireOff now).stagesOrdered := by
  have off (o : DwellOutput) : (o.forceOff now).on = false := by
    unfold DwellOutput.forceOff
    split
    · rfl
    · next off => exact Bool.eq_false_iff.2 off
  intro two
  rw [Plant.fireOff, Plant.forceChillersOff, off] at two
  cases two
end

/-! ## The plant held off (R92) -/

/-- An output is OFF with no request that would bring it ON. -/
def DwellOutput.Off (o : DwellOutput) : Prop := o.on = false ∧ o.request ≠ some true

section
variable {o : DwellOutput} {q : Plant} (now : Nat)

theorem DwellOutput.change_off : (DwellOutput.change false now).Off := ⟨rfl, nofun⟩

theorem DwellOutput.forceOff_off (o : DwellOutput) : (o.forceOff now).Off := by
  unfold DwellOutput.forceOff
  split
  · exact DwellOutput.change_off now
  · next off => exact ⟨Bool.eq_false_iff.2 off, nofun⟩

theorem DwellOutput.ask_off (dwell : Bool → Nat) (h : o.Off) : (o.ask dwell now false).Off := by
  rw [DwellOutput.ask_on now _ _ _ h.1]
  exact ⟨h.1, nofun⟩

/-- R90: both stages OFF are asked to be: nothing pends any more. -/
theorem Plant.chillersOff_eq (one : q.chiller1.on = false) (two : q.chiller2.on = false) :
    q.chillersOff now = { q with
      chiller1 := q.chiller1.ask chillerDwell now false
      chiller2 := q.chiller2.ask chillerDwell now false
      chiller2Follows := false } := by
  have first : q.ask1 now false = { q with chiller1 := q.chiller1.ask chillerDwell now false } := by
    simp [Plant.ask1, one]
  rw [Plant.chillersOff, first]
  simp [Plant.ask2, two]

/-- R92: a fire mode set on stages that are OFF holds the plant off. -/
theorem Plant.setOutputs_heldOff (p : Params) (coldest : Option Int) {m : CoolingMode} (fire : m = .fireHold ∨ m = .purge)
    (one : q.chiller1.Off) (two : q.chiller2.Off) : (q.setOutputs p now coldest m).HeldOff := by
  have chillers (r : Plant) : r.chillerRule p now m = r.chillersOff now := by rcases fire with rfl | rfl <;> rfl
  have heater (r : Plant) : r.heaterIn p now coldest m = { r with heater := r.heater.holdOff now } := by
    rcases fire with rfl | rfl <;> rfl
  rw [Plant.setOutputs, chillers, heater, Plant.chillersOff_eq (q := { q with
      mode := m
      prescaler := p.prescaler.toNat
      fanDuty := fanDutyOf p q.demand m
      pumpDuty := pumpDutyOf p m }) now one.1 two.1]
  exact
    { mode := fire
      fans := fun hold => by rw [show m = .fireHold from hold]; exact ⟨rfl, rfl⟩
      stage1 := DwellOutput.ask_off now _ one
      stage2 := DwellOutput.ask_off now _ two
      heater := DwellOutput.forceOff_off now _ }

theorem Plant.fireOff_off : (q.fireOff now).chiller1.Off ∧ (q.fireOff now).chiller2.Off :=
  ⟨DwellOutput.forceOff_off now _, DwellOutput.forceOff_off now _⟩

theorem Plant.expire1_heldOff (h : q.HeldOff) : (q.expire1 now).HeldOff := by
  unfold Plant.expire1
  split
  · next on => exact absurd on h.stage1.2
  · rw [if_neg (by simp [h.stage1.1])]
    exact { h with stage1 := ⟨h.stage1.1, nofun⟩ }
  · exact h

theorem Plant.expire2_heldOff (h : q.HeldOff) : (q.expire2 now).HeldOff := by
  unfold Plant.expire2
  split
  · next on => exact absurd on h.stage2.2
  · rw [if_neg (by simp [h.stage2.1])]
    exact { h with stage2 := ⟨h.stage2.1, nofun⟩ }
  · exact h

theorem Plant.expireHeater_heldOff (h : q.HeldOff) : (q.expireHeater now).HeldOff := by
  unfold Plant.expireHeater
  split
  · next b asked =>
    have off : b = false := Bool.eq_false_iff.2 fun on => h.heater.2 (on ▸ asked)
    rw [if_pos (off.trans h.heater.1.symm)]
    exact { h with heater := ⟨h.heater.1, nofun⟩ }
  · exact h
end

/-! ## The state -/

/-- R92: a mode choice in CONFIRMED or ISOLATED takes a fire mode. -/
theorem State.chosenMode_fire {s : State} (fire : s.fire.stage.fire = true) :
    s.chosenMode = .fireHold ∨ s.chosenMode = .purge := by
  rw [State.chosenMode, if_pos fire]
  split
  · exact .inr rfl
  · exact .inl rfl

/-- R92: a mode choice in CONFIRMED or ISOLATED holds a plant off whose stages are. -/
theorem State.modeChoice_heldOff {s : State} (fire : s.fire.stage.fire = true) (one : s.plant.chiller1.Off)
    (two : s.plant.chiller2.Off) : s.modeChoice.plant.HeldOff :=
  Plant.setOutputs_heldOff _ _ _ (State.chosenMode_fire fire) one two

theorem State.modeChoice_ordered {s : State} (h : s.plant.stagesOrdered) : s.modeChoice.plant.stagesOrdered :=
  Plant.setOutputs_ordered _ _ _ _ h

theorem State.plantStageChange_ordered {s : State} (entry : Bool) (h : s.plant.stagesOrdered) :
    (s.plantStageChange entry).plant.stagesOrdered := by
  cases entry
  · exact State.modeChoice_ordered h
  · exact State.modeChoice_ordered (s := s.modPlant _) (Plant.fireOff_ordered _)

/-- R90, R92: the entry into CONFIRMED holds the plant off. -/
theorem State.plantStageChange_entry {s : State} (fire : s.fire.stage.fire = true) :
    (s.plantStageChange true).plant.HeldOff := by
  obtain ⟨one, two⟩ := Plant.fireOff_off (q := s.plant) s.uptime
  exact State.modeChoice_heldOff (s := s.modPlant _) fire one two

theorem State.plantStageChange_heldOff {s : State} (entry : Bool) (fire : s.fire.stage.fire = true)
    (h : s.plant.HeldOff) : (s.plantStageChange entry).plant.HeldOff := by
  cases entry
  · exact State.modeChoice_heldOff fire h.stage1 h.stage2
  · exact State.plantStageChange_entry fire

theorem fireHolds_heldOff : FireHolds .plant fun t => t.plant.HeldOff := by
  intro s v code e he _ t fire h
  obtain ⟨w, entry, rfl | ⟨d, rfl⟩ | rfl | rfl⟩ := State.mem_decidePass_effects he
  · simpa [State.fsEffect] using h
  · simpa using h
  · simpa using h
  · exact State.plantStageChange_heldOff entry fire h

theorem fireEnters_heldOff : FireEnters .plant fun t => t.plant.HeldOff := by
  intro s v code below fire
  obtain ⟨u, -, -, effects⟩ := State.decidePass_entry below fire
  exact .inr ⟨(.plant, fun t => t.plantStageChange true), by simp [effects], rfl, fun t => State.plantStageChange_entry⟩

/-! ## Every step -/

/-- R113: the effects of a change of stage keep the stages in order. -/
theorem FireEffect.stagesOrdered {u : State} {entry : Bool} {e : FireEffect}
    (he : e = u.fsEffect ∨ (∃ c, e = (.string c, fun t => t.forceOpen c)) ∨ e = (.permit, State.forcedTrip)
      ∨ e = (.plant, fun t => t.plantStageChange entry)) {t : State} (h : t.plant.stagesOrdered) :
    (e.2 t).plant.stagesOrdered := by
  rcases he with rfl | ⟨c, rfl⟩ | rfl | rfl
  · simpa [State.fsEffect] using h
  · simpa using h
  · simpa using h
  · exact State.plantStageChange_ordered entry h

/-- R87: every move keeps the stages in order. -/
theorem Move.stagesOrdered {s t : State} (h : s.plant.stagesOrdered) (m : Move s t) : t.plant.stagesOrdered := by
  cases m with
  | still _ _ plant => exact plant ▸ h
  | passes =>
    exact State.passes_keeps (P := fun t => t.plant.stagesOrdered) (fun t n h => h) (fun t v code h => by simpa using h)
      (fun t v code e he u h => by
        obtain ⟨w, entry, he⟩ := State.mem_decidePass_effects he
        exact FireEffect.stagesOrdered he h)
      (fun t h => by simpa using h) h
  | fireReset =>
    exact State.takeAll_keeps (P := fun t => t.plant.stagesOrdered) (fun t n h => h)
      (fun e he t h => by
        obtain ⟨w, entry, he⟩ := State.mem_changeStage_effects he
        exact FireEffect.stagesOrdered he h)
      (by simpa using h)
  | reset => exact nofun
  | plantNote f same =>
    obtain ⟨-, -, one, two, -⟩ := same s.plant
    show (f s.plant).stagesOrdered
    rwa [Plant.stagesOrdered, one, two]
  | modeChoice => exact State.modeChoice_ordered h
  | chillerExpired g =>
    cases g
    · exact Plant.expire1_ordered _ h
    · exact Plant.expire2_ordered _ h
  | heaterExpired =>
    show (s.plant.expireHeater _).stagesOrdered
    unfold Plant.expireHeater
    split <;> exact h
  | string | tick | table | trip | permit | computeGa | clock | takeOffer | discardCnvOffer | restartAgreement | grant
    | stationLapse => simpa using h

/-- R92: every move holds the plant off in CONFIRMED and ISOLATED. -/
theorem Move.heldOff {s t : State} (h : s.fire.stage.fire = true → s.plant.HeldOff) (m : Move s t)
    (fire : t.fire.stage.fire = true) : t.plant.HeldOff := by
  cases m with
  | still _ _ plant stage => exact plant ▸ h (stage ▸ fire)
  | passes =>
    exact State.passes_fire_holds (H := fun t => t.plant.HeldOff) (fun t n h => h) (fun t v code h => by simpa using h)
      fireHolds_heldOff fireEnters_heldOff (fun t h => by simpa using h) h fire
  | fireReset => simp [FireStage.fire] at fire
  | reset kind phase => cases fire
  | plantNote f same =>
    obtain ⟨mode, fans, stage1, stage2, heater⟩ := h fire
    obtain ⟨m, d, one, two, hot⟩ := same s.plant
    refine ⟨?_, ?_, ?_, ?_, ?_⟩
    all_goals simp only [State.modPlant, m, d, one, two, hot]
    all_goals assumption
  | modeChoice =>
    have held := h (by simpa using fire)
    exact State.modeChoice_heldOff (by simpa using fire) held.stage1 held.stage2
  | chillerExpired g =>
    cases g
    · exact Plant.expire1_heldOff _ (h fire)
    · exact Plant.expire2_heldOff _ (h fire)
  | heaterExpired => exact Plant.expireHeater_heldOff _ (h fire)
  | string | tick | table | trip | permit | computeGa | clock | takeOffer | discardCnvOffer | restartAgreement | grant
    | stationLapse => simpa using h (by simpa using fire)

/-- Settles O33: each command is a course of moves, each of which keeps the stages in order and the plant held off. -/
theorem stepKeepsPlant : Obligations.StepKeepsPlant := by
  unfold Obligations.StepKeepsPlant
  intro s t hs h
  exact step_keeps (P := State.plantKept) (fun s rest h => h) (fun s n h => h)
    (fun i s t hs h => (exec_moves h).keeps (fun s t hs m => ⟨m.stagesOrdered hs.1, m.heldOff hs.2⟩) hs) hs h

end Sys2Proof.Machine
end

-- ==== Proofs: the operations that only post on the links ====
section
namespace Sys2Proof.Machine

/-! ## The parts that hold no link -/

@[simp] theorem State.modChain_quietLinks (s : State) (c : Str) (f : Chain → Chain) :
    (s.modChain c f).quietLinks = s.quietLinks := rfl

@[simp] theorem State.modCells_quietLinks (s : State) (c : Str) (f : Supervision → Supervision) :
    (s.modCells c f).quietLinks = s.quietLinks := rfl

@[simp] theorem State.modString_quietLinks (s : State) (c : Str) (f : StringController → StringController) :
    (s.modString c f).quietLinks = s.quietLinks := rfl

@[simp] theorem State.modStats_quietLinks (s : State) (c : Str) (f : StringStats → StringStats) :
    (s.modStats c f).quietLinks = s.quietLinks := rfl

@[simp] theorem State.modModule_quietLinks (s : State) (c : Str) (a : Addr) (f : ModuleRecord → ModuleRecord) :
    (s.modModule c a f).quietLinks = s.quietLinks := rfl

@[simp] theorem State.modPlant_quietLinks (s : State) (f : Plant → Plant) : (s.modPlant f).quietLinks = s.quietLinks :=
  rfl

@[simp] theorem State.modFire_quietLinks (s : State) (f : FireUnit → FireUnit) :
    (s.modFire f).quietLinks = s.quietLinks := rfl

@[simp] theorem State.modPermit_quietLinks (s : State) (f : Permit → Permit) :
    (s.modPermit f).quietLinks = s.quietLinks := rfl

@[simp] theorem State.modAgreement_quietLinks (s : State) (f : Agreement → Agreement) :
    (s.modAgreement f).quietLinks = s.quietLinks := rfl

@[simp] theorem State.modConfig_quietLinks (s : State) (f : ConfigStore → ConfigStore) :
    (s.modConfig f).quietLinks = s.quietLinks := rfl

@[simp] theorem State.atTime_quietLinks (s : State) (t : Nat) : (s.atTime t).quietLinks = s.quietLinks :=
  State.quietLinks_congr (by simp)

@[simp] theorem State.countTrip_quietLinks (s : State) (c : Str) (k : LockCause) :
    (s.countTrip c k).quietLinks = s.quietLinks := State.quietLinks_congr (by simp)

@[simp] theorem State.countMiss_quietLinks (s : State) (c : Str) (o : ChainOutcome) :
    (s.countMiss c o).quietLinks = s.quietLinks := State.quietLinks_congr (by simp)

@[simp] theorem State.emptyAllSets_quietLinks (s : State) : s.emptyAllSets.quietLinks = s.quietLinks :=
  State.quietLinks_congr (by simp)

@[simp] theorem State.formDemand_quietLinks (s : State) : s.formDemand.quietLinks = s.quietLinks :=
  State.quietLinks_congr (by simp)

@[simp] theorem State.modeChoice_quietLinks (s : State) : s.modeChoice.quietLinks = s.quietLinks :=
  State.quietLinks_congr (by simp)

@[simp] theorem State.plantStageChange_quietLinks (s : State) (confirmedEntry : Bool) :
    (s.plantStageChange confirmedEntry).quietLinks = s.quietLinks := State.quietLinks_congr (by simp)

@[simp] theorem State.judgeClasses_quietLinks (s : State) (v : FireView) (code : Option Code) :
    (s.judgeClasses v code).quietLinks = s.quietLinks := State.quietLinks_congr (by simp)

@[simp] theorem State.judgeQuiet_quietLinks (s : State) (v : FireView) : (s.judgeQuiet v).quietLinks = s.quietLinks :=
  State.quietLinks_congr (by simp)

@[simp] theorem State.moduleReply_quietLinks (s : State) (c : Str) (a : Addr) :
    (s.moduleReply c a).quietLinks = s.quietLinks := State.quietLinks_congr (by simp)

@[simp] theorem State.chillerExpired_quietLinks (s : State) (g : Stage) :
    (s.chillerExpired g).quietLinks = s.quietLinks := State.quietLinks_congr (by simp)

@[simp] theorem State.heaterExpired_quietLinks (s : State) : s.heaterExpired.quietLinks = s.quietLinks :=
  State.quietLinks_congr (by simp)

/-! ## The envelope, the permit and the agreement units -/

@[simp] theorem State.postBreaker_quietLinks (s : State) (old : PermitState) (what : BreakerDetail) :
    (s.postBreaker old what).quietLinks = s.quietLinks := rfl

@[simp] theorem State.publish_quietLinks (s : State) (limits : Row) : (s.publish limits).quietLinks = s.quietLinks := by
  unfold State.publish
  split
  · rfl
  · exact State.post_quietLinks _ _ _

@[simp] theorem State.downward_quietLinks (s : State) : s.downward.quietLinks = s.quietLinks := by simp [State.downward]

@[simp] theorem State.tick_quietLinks (s : State) : s.tick.quietLinks = s.quietLinks := by simp [State.tick]

@[simp] theorem State.updateTable_quietLinks (s : State) (f : LimitTable → LimitTable) :
    (s.updateTable f).quietLinks = s.quietLinks := State.downward_quietLinks _

@[simp] theorem State.updateVhTd_quietLinks (s : State) (c : Str) (vh td : Nat × Nat) :
    (s.updateVhTd c vh td).quietLinks = s.quietLinks := State.updateTable_quietLinks ..

@[simp] theorem State.updateCd_quietLinks (s : State) (n : Nat) : (s.updateCd n).quietLinks = s.quietLinks :=
  State.updateTable_quietLinks ..

@[simp] theorem State.updateFs_quietLinks (s : State) (r : Row) : (s.updateFs r).quietLinks = s.quietLinks :=
  State.updateTable_quietLinks ..

@[simp] theorem State.updateGa_quietLinks (s : State) (charge discharge : Nat) :
    (s.updateGa charge discharge).quietLinks = s.quietLinks := State.updateTable_quietLinks ..

@[simp] theorem State.deliverSc_quietLinks (s : State) : s.deliverSc.quietLinks = s.quietLinks :=
  State.updateTable_quietLinks ..

@[simp] theorem State.unpermittedClose_quietLinks (s : State) : s.unpermittedClose.quietLinks = s.quietLinks := rfl

@[simp] theorem State.grant_quietLinks (s : State) : s.grant.quietLinks = s.quietLinks := rfl

@[simp] theorem State.trip_quietLinks (s : State) (k : TripCause) : (s.trip k).quietLinks = s.quietLinks := by
  unfold State.trip
  repeat' split
  all_goals simp

@[simp] theorem State.forcedTrip_quietLinks (s : State) : s.forcedTrip.quietLinks = s.quietLinks := by
  unfold State.forcedTrip
  repeat' split
  all_goals simp

@[simp] theorem State.noStringTrip_quietLinks (s : State) : s.noStringTrip.quietLinks = s.quietLinks := by
  unfold State.noStringTrip
  repeat' split
  all_goals simp

@[simp] theorem State.judgeBreaker_quietLinks (s : State) : s.judgeBreaker.quietLinks = s.quietLinks := by
  unfold State.judgeBreaker
  repeat' split
  all_goals simp

@[simp] theorem State.closeTimeout_quietLinks (s : State) : s.closeTimeout.quietLinks = s.quietLinks := by
  unfold State.closeTimeout
  repeat' split
  all_goals simp

@[simp] theorem State.releaseTimeout_quietLinks (s : State) : s.releaseTimeout.quietLinks = s.quietLinks := by
  unfold State.releaseTimeout
  repeat' split
  all_goals simp

@[simp] theorem State.recloseExpired_quietLinks (s : State) : s.recloseExpired.quietLinks = s.quietLinks := by
  unfold State.recloseExpired
  repeat' split
  all_goals simp

@[simp] theorem State.disconnect_quietLinks (s : State) : s.disconnect.quietLinks = s.quietLinks := by
  unfold State.disconnect
  repeat' split
  all_goals simp

@[simp] theorem State.returnToAuto_quietLinks (s : State) : s.returnToAuto.quietLinks = s.quietLinks := by
  unfold State.returnToAuto
  split
  · split
    · exact State.deliverSc_quietLinks _
    · rfl
  · rfl

@[simp] theorem State.storeCap_quietLinks (s : State) (l : Link) (v : Nat) :
    (s.storeCap l v).quietLinks = s.quietLinks := by
  unfold State.storeCap
  repeat' split
  case h_1.isFalse | h_2.isFalse => exact State.deliverSc_quietLinks _
  all_goals rfl

@[simp] theorem State.computeGa_quietLinks (s : State) : s.computeGa.quietLinks = s.quietLinks :=
  State.updateTable_quietLinks ..

@[simp] theorem State.agreementHeadReply_quietLinks (s : State) : s.agreementHeadReply.quietLinks = s.quietLinks := by
  unfold State.agreementHeadReply
  repeat' split
  all_goals simp

@[simp] theorem State.resolveAgreement_quietLinks (s : State) : s.resolveAgreement.quietLinks = s.quietLinks := by
  unfold State.resolveAgreement
  dsimp only
  repeat' split
  all_goals simp

@[simp] theorem State.postAgreement_quietLinks (s : State) : s.postAgreement.quietLinks = s.quietLinks := rfl

@[simp] theorem State.takeOffer_quietLinks (s : State) (l : Link) (o : Offer) :
    (s.takeOffer l o).quietLinks = s.quietLinks := by simp [State.takeOffer]

@[simp] theorem State.discardCnvOffer_quietLinks (s : State) : s.discardCnvOffer.quietLinks = s.quietLinks := by
  unfold State.discardCnvOffer
  dsimp only
  repeat' split
  all_goals simp

@[simp] theorem State.restartAgreement_quietLinks (s : State) : s.restartAgreement.quietLinks = s.quietLinks := by
  unfold State.restartAgreement
  dsimp only
  repeat' split
  all_goals simp

@[simp] theorem State.stationLapse_quietLinks (s : State) : s.stationLapse.quietLinks = s.quietLinks := by
  unfold State.stationLapse
  dsimp only
  repeat' split
  all_goals simp

@[simp] theorem State.cnvPass_quietLinks (s : State) (k : Code) : (s.cnvPass k).quietLinks = s.quietLinks := by
  unfold State.cnvPass
  dsimp only
  repeat' split
  all_goals simp

@[simp] theorem State.stnPass_quietLinks (s : State) (k : Code) : (s.stnPass k).quietLinks = s.quietLinks := by
  unfold State.stnPass
  dsimp only
  repeat' split
  all_goals simp

/-! ## The strings -/

/-- Effects that each leave the links but for their notices do so in any order. -/
theorem State.inAnyOrder_quietLinks {s : State} {effects : List (State → State)}
    (h : ∀ f ∈ effects, ∀ t, (f t).quietLinks = t.quietLinks) : (s.inAnyOrder effects).quietLinks = s.quietLinks :=
  State.inAnyOrder_keeps (P := fun t => t.quietLinks = s.quietLinks) (fun t n ht => ht)
    (fun f hf t ht => (h f hf t).trans ht) rfl

@[simp] theorem State.reportString_quietLinks (s : State) (before : Nat) :
    (s.reportString before).quietLinks = s.quietLinks := by
  unfold State.reportString
  split
  · simp
  · split <;> exact State.inAnyOrder_quietLinks (by simp)

@[simp] theorem State.setString_quietLinks (s : State) (c : Str) (new : StringState) :
    (s.setString c new).quietLinks = s.quietLinks := by
  unfold State.setString
  dsimp only
  repeat' split
  all_goals simp

@[simp] theorem State.protect_quietLinks (s : State) (c : Str) (k : LockCause) :
    (s.protect c k).quietLinks = s.quietLinks := by
  unfold State.protect
  repeat' split
  all_goals simp

@[simp] theorem State.unitLost_quietLinks (s : State) (c : Str) : (s.unitLost c).quietLinks = s.quietLinks := by
  unfold State.unitLost
  repeat' split
  all_goals simp

@[simp] theorem State.forceOpen_quietLinks (s : State) (c : Str) : (s.forceOpen c).quietLinks = s.quietLinks := by
  unfold State.forceOpen
  repeat' split
  all_goals simp

@[simp] theorem State.finishOpening_quietLinks (s : State) (c : Str) : (s.finishOpening c).quietLinks = s.quietLinks :=
  by
  unfold State.finishOpening
  repeat' split
  all_goals simp

@[simp] theorem State.compareFeedback_quietLinks (s : State) (c : Str) :
    (s.compareFeedback c).quietLinks = s.quietLinks := by
  unfold State.compareFeedback
  dsimp only
  repeat' split
  all_goals simp

@[simp] theorem State.checkExcursion_quietLinks (s : State) (c : Str) : (s.checkExcursion c).quietLinks = s.quietLinks :=
  by
  unfold State.checkExcursion
  dsimp only
  repeat' split
  all_goals simp

@[simp] theorem State.stateHeadReply_quietLinks (s : State) (c : Str) : (s.stateHeadReply c).quietLinks = s.quietLinks :=
  by
  unfold State.stateHeadReply
  repeat' split
  all_goals simp

@[simp] theorem State.stringHeadReply_quietLinks (s : State) (c : Str) :
    (s.stringHeadReply c).quietLinks = s.quietLinks := by simp [State.stringHeadReply]

@[simp] theorem State.release_quietLinks (s : State) (c : Str) : (s.release c).quietLinks = s.quietLinks := by
  unfold State.release
  repeat' split
  all_goals simp

@[simp] theorem State.checkLocks_quietLinks (s : State) (c : Str) (k : LockCause) :
    (s.checkLocks c k).quietLinks = s.quietLinks := by
  unfold State.checkLocks
  repeat' split
  all_goals simp

@[simp] theorem State.judgeCheck_quietLinks (s : State) (c : Str) : (s.judgeCheck c).quietLinks = s.quietLinks := by
  unfold State.judgeCheck
  repeat' split
  all_goals simp

@[simp] theorem State.prechargeFailed_quietLinks (s : State) (c : Str) :
    (s.prechargeFailed c).quietLinks = s.quietLinks := by simp [State.prechargeFailed]

@[simp] theorem State.join_quietLinks (s : State) (c : Str) : (s.join c).1.quietLinks = s.quietLinks := by
  unfold State.join
  repeat' split
  all_goals simp

@[simp] theorem State.clearLock_quietLinks (s : State) (c : Str) : (s.clearLock c).1.quietLinks = s.quietLinks := by
  unfold State.clearLock
  repeat' split
  all_goals simp

@[simp] theorem State.clearBreaker_quietLinks (s : State) : s.clearBreaker.1.quietLinks = s.quietLinks := by
  unfold State.clearBreaker
  repeat' split
  all_goals simp

@[simp] theorem State.connectAnswer_quietLinks (s : State) (l : Link) :
    (s.connectAnswer l).1.quietLinks = s.quietLinks := by
  unfold State.connectAnswer
  repeat' split
  all_goals simp

/-! ## The chains -/

@[simp] theorem State.cycleComplete_quietLinks (s : State) (c : Str) : (s.cycleComplete c).quietLinks = s.quietLinks :=
  by
  unfold State.cycleComplete
  dsimp only
  split
  · simp
  · rw [State.inAnyOrder_quietLinks (by simp)]
    simp

@[simp] theorem State.judgeLoss_quietLinks (s : State) (c : Str) (u : ChainUnit) (before : UnitStatus) :
    (s.judgeLoss c u before).quietLinks = s.quietLinks := by
  unfold State.judgeLoss
  dsimp only
  repeat' split
  all_goals simp

@[simp] theorem State.headGood_quietLinks (s : State) (c : Str) (current stringVoltage busVoltage : Int) (main precharge : Contact) :
    (s.headGood c current stringVoltage busVoltage main precharge).quietLinks = s.quietLinks := by
  unfold State.headGood
  dsimp only
  rw [State.inAnyOrder_quietLinks (by simp)]
  simp

@[simp] theorem State.applyGood_quietLinks (s : State) (c : Str) (u : ChainUnit) (r : Reply) :
    (s.applyGood c u r).quietLinks = s.quietLinks := by
  unfold State.applyGood
  repeat' split
  all_goals simp

@[simp] theorem State.applyOutcome_quietLinks (s : State) (c : Str) (u : ChainUnit) (r : Option Reply) :
    (s.applyOutcome c u r).quietLinks = s.quietLinks := by
  unfold State.applyOutcome
  repeat' split
  all_goals simp

/-! ## The plant, the fire unit and the reset -/

@[simp] theorem State.inputFault_quietLinks (s : State) (n : InputName) (before after : PlantInput) :
    (s.inputFault n before after).quietLinks = s.quietLinks := by
  unfold State.inputFault
  repeat' split
  all_goals simp

@[simp] theorem State.storeInputs_quietLinks (s : State) (inlet outlet container outside : Int) :
    (s.storeInputs inlet outlet container outside).quietLinks = s.quietLinks := by simp [State.storeInputs]

@[simp] theorem State.deliverCd_quietLinks (s : State) : s.deliverCd.quietLinks = s.quietLinks :=
  State.updateTable_quietLinks ..

@[simp] theorem State.flowExpired_quietLinks (s : State) : s.flowExpired.quietLinks = s.quietLinks := by
  unfold State.flowExpired
  repeat' split
  all_goals simp

@[simp] theorem State.sampleLoops_quietLinks (s : State) (ohms : Vector Nat 8) :
    (s.sampleLoops ohms).quietLinks = s.quietLinks := by
  unfold State.sampleLoops
  exact State.foldl_post_keeps (P := fun t => t.quietLinks = s.quietLinks) (fun _ _ _ ht => ht) _ _ _ _ (by simp)

@[simp] theorem State.gasFault_quietLinks (s : State) (channel : Nat) (before after : GasChannel) :
    (s.gasFault channel before after).quietLinks = s.quietLinks := by
  unfold State.gasFault
  repeat' split
  all_goals simp

@[simp] theorem State.sampleGas_quietLinks (s : State) (g1 g2 : Int) : (s.sampleGas g1 g2).quietLinks = s.quietLinks :=
  by simp [State.sampleGas]

@[simp] theorem State.updateDegraded_quietLinks (s : State) : s.updateDegraded.quietLinks = s.quietLinks := by
  unfold State.updateDegraded
  dsimp only
  repeat' split
  all_goals simp

@[simp] theorem State.postStage_quietLinks (s : State) (old : FireStage) : (s.postStage old).quietLinks = s.quietLinks :=
  rfl

@[simp] theorem State.freeze_quietLinks (s : State) (order : Nat → Snapshot) :
    (s.freeze order).quietLinks = s.quietLinks := rfl

@[simp] theorem State.orderFreeze_quietLinks (s decided : State) (old new : FireStage) :
    (s.orderFreeze decided old new).quietLinks = s.quietLinks := by
  unfold State.orderFreeze
  dsimp only
  repeat' split
  all_goals simp

@[simp] theorem State.enterStage_quietLinks (s : State) (g : FireStage) : (s.enterStage g).quietLinks = s.quietLinks :=
  by
  unfold State.enterStage
  dsimp only
  repeat' split
  all_goals simp

@[simp] theorem State.decidePass_quietLinks (s : State) (v : FireView) (code : Option Code) :
    (s.decidePass v code).1.quietLinks = s.quietLinks := by
  unfold State.decidePass
  dsimp only
  repeat' split
  all_goals simp

@[simp] theorem State.isolationExpired_quietLinks (s : State) : s.isolationExpired.quietLinks = s.quietLinks := by
  unfold State.isolationExpired
  dsimp only
  repeat' split
  all_goals simp

@[simp] theorem State.reportFault_quietLinks (s : State) : s.reportFault.quietLinks = s.quietLinks := by
  unfold State.reportFault
  repeat' split
  all_goals simp

/-- R113: what a change of stage hands on posts notices, and leaves the links else. -/
theorem FireEffect.quietLinks {u : State} {entry : Bool} {e : FireEffect}
    (he : e = u.fsEffect ∨ (∃ c, e = (.string c, fun t => t.forceOpen c)) ∨ e = (.permit, State.forcedTrip)
      ∨ e = (.plant, fun t => t.plantStageChange entry)) (t : State) : (e.2 t).quietLinks = t.quietLinks := by
  rcases he with rfl | ⟨c, rfl⟩ | rfl | rfl <;> simp [State.fsEffect]

@[simp] theorem State.changeStage_quietLinks (s : State) (g : FireStage) :
    (s.changeStage g).quietLinks = s.quietLinks :=
  State.takeAll_keeps (P := fun t => t.quietLinks = s.quietLinks) (fun t n h => h)
    (fun e he t h => by
      obtain ⟨w, entry, he⟩ := State.mem_changeStage_effects he
      exact (FireEffect.quietLinks he t).trans h)
    (by simp)

/-- R97: the passes of an evaluation take the codes of the PNL change buffer, and post notices. -/
theorem State.passes_quietLinks (s : State) :
    s.passes.quietLinks = (s.modLink .pnl LinkState.emptyBuffer).quietLinks := by
  generalize emptied : s.modLink .pnl LinkState.emptyBuffer = u
  have effects (t : State) (v : FireView) (code : Option Code) : ∀ e ∈ (t.decidePass v code).2, ∀ w : State,
      w.quietLinks = u.quietLinks → (e.2 w).quietLinks = u.quietLinks := fun e he w hw => by
    obtain ⟨x, entry, he⟩ := State.mem_decidePass_effects he
    exact (FireEffect.quietLinks he w).trans hw
  have decision (t : State) (v : FireView) (code : Option Code) (ht : t.quietLinks = u.quietLinks) :
      (t.decidePass v code).1.quietLinks = u.quietLinks := by simpa using ht
  have one (v : FireView) (code : Option Code) : (u.onePass v code).quietLinks = u.quietLinks :=
    State.takeAll_keeps (P := fun t => t.quietLinks = u.quietLinks) (fun t n h => h) (effects u v code)
      (decision u v code rfl)
  unfold State.passes
  dsimp only
  rw [emptied]
  split
  case h_4 => exact State.twoPasses_keeps (P :=
  fun t => t.quietLinks = u.quietLinks) (fun t n h => h) decision effects _ _ _ rfl
  all_goals exact one _ _

end Sys2Proof.Machine
end

-- ==== Proofs: the request queues and the probe queues ====
section
namespace Sys2Proof.Machine

/-! ## Request queues that do not grow (R165) -/

/-- From a state to another no request queue grows. -/
def State.QueuesShrink (s t : State) : Prop := ∀ l, (t.link l).queue.length ≤ (s.link l).queue.length

namespace State.QueuesShrink
variable {s t u : State}

theorem refl (s : State) : s.QueuesShrink s := fun _ => le_rfl

theorem trans (h : s.QueuesShrink t) (k : t.QueuesShrink u) : s.QueuesShrink u := fun l => (k l).trans (h l)

/-- Notices are no requests. -/
theorem of_quiet (h : t.quietLinks = s.quietLinks) : s.QueuesShrink t := fun l =>
  le_of_eq (by rw [LinkState.queue_of_quiet (State.quiet_link h l)])

theorem of_links (h : t.links = s.links) : s.QueuesShrink t := of_quiet (State.quietLinks_congr h)

theorem modLink (s : State) (l : Link) {f : LinkState → LinkState} (h : ∀ k, (f k).queue.length ≤ k.queue.length) :
    s.QueuesShrink (s.modLink l f) := fun m => by
  rw [State.modLink_link]
  split
  · exact h _
  · exact le_rfl

theorem answer (s : State) (l : Link) (a : Answer) : s.QueuesShrink (s.answer l a) := modLink s l fun _ => le_rfl

theorem answerWaiters (s : State) (waiters : List Waiter) (code : AnswerCode) (content : List Item) :
    s.QueuesShrink (s.answerWaiters waiters code content) :=
  State.answerWaiters_keeps (P := s.QueuesShrink) (fun t l a h => h.trans (answer t l a)) waiters code content (refl s)

theorem drop (s : State) (l : Link) : s.QueuesShrink (s.modLink l fun k => { k with queue := k.queue.drop 1 }) :=
  modLink s l fun k => by simp

/-- A block that grows no queue, served. -/
theorem serveWith {l : Link} {r : Request} {refused : State → List Item} {block : State → State × Served}
    (h : s.QueuesShrink (block s).1) : s.QueuesShrink (s.serveWith l r refused block) := by
  rcases s.serveWith_cases l r refused block with e | ⟨code, -, -, e⟩ | ⟨-, ⟨code, content, -, e⟩ | ⟨-, e⟩ | ⟨-, e⟩⟩ <;>
    rw [e]
  · exact refl s
  · exact answer s l _
  · exact h.trans (answer _ l _)
  · exact h.trans (modLink _ l fun _ => le_rfl)
  · exact h.trans (drop _ l)

theorem serve {l : Link} {r : Request} {block : State → State × Served} (h : s.QueuesShrink (block s).1) :
    s.QueuesShrink (s.serve l r block) := serveWith h

theorem noPayload {payload : List Byte} {block : State → State × Served} (h : s.QueuesShrink (block s).1) :
    s.QueuesShrink (noPayload payload block s).1 := by
  unfold Machine.noPayload
  split
  · exact h
  · exact refl s

theorem onString {payload : List Byte} {act : State → Str → State × AnswerCode}
    (h : ∀ c, s.QueuesShrink (act s c).1) : s.QueuesShrink (onString payload act s).1 := by
  unfold Machine.onString
  split
  · exact h _
  · exact refl s

end State.QueuesShrink

/-- A command that serves a request grows no request queue. -/
theorem request_shrinks {i : Instr} {l : Link} {r : Request} {s t : State} (hi : requestOf i = some (l, r))
    (h : exec i s = .next t) : s.QueuesShrink t := by
  cases i
  all_goals try cases hi
  all_goals obtain rfl : _ = t := Host.Outcome.next.inj h
  case readCells | readString =>
    refine .serveWith ?_
    split <;> exact .refl s
  case readSnapshot =>
    refine .serveWith ?_
    unfold readSnapshotBlock
    repeat' split
    all_goals exact .refl s
  case readParam =>
    refine .serveWith ?_
    unfold readParamBlock
    repeat' split
    all_goals exact .refl s
  case readEnvelope | readFire | readStats | readAgreement | siteReset => exact .serve (.noPayload (.refl s))
  case probeModule =>
    refine .serveWith ?_
    split
    · exact .of_links (by simp)
    · exact .refl s
  case resetBaseline =>
    refine .serveWith ?_
    unfold resetBaselineBlock
    repeat' split
    all_goals exact .of_links rfl
  case joinString => exact .serve (.onString fun c => .of_quiet (by simp))
  case releaseString => exact .serve (.onString fun c => .of_quiet (by simp))
  case clearLockString =>
    unfold clearLockString
    split
    · exact .refl s
    · exact .serve (.onString fun c => .of_quiet (by simp))
  case clearLockBreaker =>
    unfold clearLockBreaker
    split
    · exact .serveWith (.of_quiet (by simp [reported]))
    · exact .refl s
  case connect | disconnect =>
    refine .serveWith ?_
    unfold reported
    dsimp only
    split
    · exact .of_quiet (by simp)
    · exact .refl s
  case setCap =>
    refine .serveWith ?_
    unfold setCapBlock
    split
    · exact .of_quiet (by simp)
    · exact .refl s
  case resetFire =>
    refine .serveWith (.noPayload ?_)
    rcases resetFireBlock_cases s with e | ⟨-, -, e⟩ <;> rw [e]
    · exact .refl s
    · exact .of_quiet (by simp)
  case clearSnapshots =>
    refine .serveWith (.noPayload ?_)
    unfold clearSnapshotsBlock
    split <;> exact .of_links rfl
  case clearStats => exact .serve (.noPayload (.of_links rfl))
  case offer =>
    refine .serveWith ?_
    unfold offerBlock
    split
    · exact .refl s
    · dsimp only
      split
      · exact .refl s
      · exact .of_quiet (by simp)
  case agreementRestart => exact .serve (.noPayload (.of_quiet (by simp)))
  case unknownKind =>
    unfold unknownKind
    split
    · exact .refl s
    · exact .serve (.refl s)
  case readNotices => exact .serve (.noPayload (.modLink s _ fun _ => le_rfl))
  case setMask =>
    refine .serve ?_
    unfold setMaskBlock
    split
    · exact .modLink s _ fun _ => le_rfl
    · exact .refl s
  case setSiteMode =>
    refine .serveWith ?_
    unfold setSiteModeBlock
    repeat' split
    case isFalse.isFalse.isTrue => exact .of_quiet (by simp)
    all_goals exact .of_links rfl
  case setParam =>
    refine .serveWith ?_
    unfold setParamBlock
    split
    · exact .refl s
    · split
      · exact .refl s
      · exact .of_links (by simp)
  case commit =>
    refine .serveWith (.noPayload ?_)
    unfold commitBlock
    repeat' split
    all_goals exact .of_links rfl

/-- R9, R10: a due moment answers the requests of the probes it removes, and grows no queue. -/
theorem State.dueMoment_shrinks (s : State) (c : Str) : s.QueuesShrink (s.dueMoment c) := by
  have removed (t : State) (picks : Addr → Bool) : t.QueuesShrink (t.removeProbes c picks) :=
    .trans (.of_links rfl) (State.QueuesShrink.answerWaiters (t.modChain c _) _ _ _)
  have cleared (t : State) (picks : Addr → Bool) : t.QueuesShrink ((t.clearModules c picks).removeProbes c picks) :=
    .trans (.of_links rfl) (removed (t.clearModules c picks) picks)
  have compared : s.QueuesShrink (s.compareRange c) := by
    unfold State.compareRange
    split
    · exact (cleared s _).trans (.of_links rfl)
    · exact .refl s
  unfold State.dueMoment
  dsimp only
  split
  · exact (compared.trans (cleared _ _)).trans (.of_links rfl)
  · exact compared.trans (.of_links rfl)

theorem State.firstDue_shrinks (s : State) (c : Str) : s.QueuesShrink (s.firstDue c) :=
  (s.dueMoment_shrinks c).trans (.of_links rfl)

/-- The end of a transaction answers the waiting requests of a probe, and grows no queue. -/
theorem State.endTransaction_shrinks (s : State) (c : Str) (x : Transaction) (r : Option Reply) :
    s.QueuesShrink (s.endTransaction c x r) := by
  have advanced (t : State) (u : ChainUnit) : t.QueuesShrink (t.advance c u) := by
    unfold State.advance State.completeCycle
    split
    · exact .of_links rfl
    · dsimp only
      split
      · exact .trans (.of_quiet (by simp)) (State.dueMoment_shrinks _ c)
      · exact .of_quiet (by simp)
  have answered (t : State) (a : Addr) (o : ChainOutcome) (fitted : Bool) :
      t.QueuesShrink (t.answerProbe c a x.waiters o fitted) := by
    unfold State.answerProbe
    split <;> exact State.QueuesShrink.answerWaiters _ _ _ _
  have applied (t : State) (fitted : Bool) :
      t.QueuesShrink (if fitted then t.applyOutcome c x.addressed r else t) := by
    split
    · exact .of_quiet (by simp)
    · exact .refl t
  have missed : s.QueuesShrink ((s.modChain c fun k => { k with inFlight := none }).countMiss c (classify x.addressed r)) :=
    .of_quiet (by simp)
  unfold State.endTransaction
  refine .trans ?_ (.of_links (s := s.concludeTransaction c x r) rfl)
  unfold State.concludeTransaction
  dsimp only
  split
  · exact (missed.trans (applied _ _)).trans (answered _ _ _ _)
  · exact missed.trans (applied _ _)
  · exact (missed.trans (applied _ _)).trans (advanced _ _)

/-- R162: a status word grows no queue. -/
theorem State.judgeStatus_shrinks (s : State) (l : Link) (code : Byte) : s.QueuesShrink (s.judgeStatus l code) := by
  have placed (t : State) (k : Code) : t.QueuesShrink (t.bufferChange l k) := by
    have stored : t.QueuesShrink (t.modLink l fun j => j.placeChange k) := .modLink t l fun j => by
      unfold LinkState.placeChange
      split <;> exact le_rfl
    unfold State.bufferChange
    dsimp only
    split
    · exact stored.trans (.of_quiet (by simp))
    · exact stored
  have taken (t : State) (k : Code) : t.QueuesShrink (t.takeChange l k) := by
    have noted : t.QueuesShrink (t.modLink l fun j => { j with taken := some k }) := .modLink t l fun _ => le_rfl
    unfold State.takeChange
    cases l
    case cnv | stn => exact noted.trans (placed _ _)
    case pnl => exact (noted.trans (placed _ _)).trans (.of_links rfl)
    case svc =>
      dsimp only
      split
      · exact noted.trans (.of_quiet (by simp))
      · exact noted
  unfold State.judgeStatus State.showCode
  split
  · next k _ =>
    have heard : s.QueuesShrink (s.hear l) := .modLink s l fun _ => le_rfl
    have shown : s.QueuesShrink ((s.hear l).modLink l fun j => { j with candidate := some (namedCode l k) }) :=
      heard.trans (.modLink _ l fun _ => le_rfl)
    dsimp only
    split
    · exact shown.trans (taken _ _)
    · exact shown
  · exact .modLink s l fun _ => le_rfl

/-- R164: a silence grows no queue. -/
theorem State.fallSilent_shrinks (s : State) (l : Link) : s.QueuesShrink (s.fallSilent l) := by
  have fallen : s.QueuesShrink (s.modLink l fun k => { k with silence := none, candidate := none }) :=
    .modLink s l fun _ => le_rfl
  refine fallen.trans ?_
  unfold State.fallSilent
  cases l <;> unfold State.reportSilence
  case cnv => exact .of_quiet (State.inAnyOrder_quietLinks (by simp))
  case stn => exact .of_quiet (by simp)
  case pnl => exact .refl _
  case svc => exact .of_quiet (by simp)

/-- R151: the codes taken by a permit evaluation grow no queue. -/
theorem State.codePasses_shrinks (s : State) : s.QueuesShrink s.codePasses := by
  have emptied : s.QueuesShrink ((s.modLink .cnv LinkState.emptyBuffer).modLink .stn LinkState.emptyBuffer) :=
    .trans (.modLink s .cnv fun _ => by exact le_rfl) (.modLink _ .stn fun _ => by exact le_rfl)
  unfold State.codePasses
  dsimp only
  split
  · exact emptied
  · next order rest weaved =>
    refine State.oneOf_keeps (P := s.QueuesShrink) (fun t n h => h) fun t ht => ?_
    rw [← List.map_cons] at ht
    obtain ⟨w, hw, rfl⟩ := List.mem_map.1 ht
    refine State.through_keeps (P := s.QueuesShrink) (fun f hf u hu => ?_) emptied
    rcases mem_of_mem_weave (weaved ▸ hw) hf with hf | hf <;> obtain ⟨k, -, rfl⟩ := List.mem_map.1 hf <;>
      exact hu.trans (.of_quiet (by simp))

/-- A reset empties the queues. -/
theorem State.startReset_shrinks (s : State) (kind : ResetKind) (phase : Phase) :
    s.QueuesShrink (s.startReset kind phase) := fun l => by
  cases l <;> exact Nat.zero_le _

theorem State.completeReset_shrinks (s : State) : s.QueuesShrink s.completeReset := by
  have ready : s.QueuesShrink s.ready := fun l => by cases l <;> exact le_rfl
  have noted (t : State) : t.QueuesShrink t.noteSiteCode := fun l => by cases l <;> exact le_rfl
  have reported (t : State) : t.QueuesShrink t.reportFault.judgeBreaker := .of_quiet (by simp)
  exact ((((ready.trans (State.firstDue_shrinks _ _)).trans (State.firstDue_shrinks _ _)).trans
    (.of_quiet (State.post_quietLinks _ _ _))).trans (reported _)).trans (noted _)

/-- R174: the COMMIT answered grows no queue. -/
theorem State.completeWrite_shrinks (s : State) (p : Params) : s.QueuesShrink (s.completeWrite p) := by
  have answered (t : State) : t.QueuesShrink t.answerCommit := by
    unfold State.answerCommit
    split
    · exact .trans (.answer t .svc _) (.modLink _ .svc fun _ => le_rfl)
    · exact .refl t
  unfold State.completeWrite
  dsimp only
  split
  · exact .trans (.of_quiet (by simp)) (answered _)
  · exact .trans (.of_links rfl) (answered _)

/-- A command that serves no request and receives no telegram grows no request queue. -/
theorem event_shrinks {i : Instr} {s t : State} (hr : requestOf i = none) (ht : ∀ l raw, i ≠ .telegram l raw)
    (h : exec i s = .next t) : s.QueuesShrink t := by
  cases i
  all_goals try cases hr
  case telegram l raw => exact absurd rfl (ht l raw)
  case readingAgeTick | feedbackInputChange | tripPulseEnd | flowSwitchChange | chillerDwellExpiry | heaterDwellExpiry
      | histogramSample | resetLineRelease =>
    exact .of_links (exec_same h (p := .links) (by simp [changedBy]))
  all_goals obtain rfl : _ = t := Host.Outcome.next.inj h
  case chainReply c r =>
    unfold chainReply
    split
    · split
      · exact s.endTransaction_shrinks c _ _
      · exact .refl s
    · exact .refl s
  case replyTimeout c =>
    unfold replyTimeout
    split
    · split
      · exact State.endTransaction_shrinks (s.atTime _) c _ _
      · exact .refl s
    · exact .refl s
  case cycleDue c =>
    unfold cycleDue
    split
    · split
      · exact State.firstDue_shrinks (s.atTime _) c
      · exact .refl s
    · exact .refl s
  case unfittedCheck c =>
    unfold unfittedCheck State.checkUnfitted
    split
    · split
      · split
        · exact State.firstDue_shrinks (s.atTime _) c
        · exact .of_links rfl
      · exact .refl s
    · exact .refl s
  case prechargeTimerExpiry | openingTimerExpiry | feedbackCheck =>
    simp only [prechargeTimerExpiry, openingTimerExpiry, feedbackCheck]
    repeat' split
    all_goals exact .of_quiet (by simp)
  case clearLockString =>
    unfold clearLockString
    split
    · exact .refl s
    · exact .serve (.onString fun c => .of_quiet (by simp))
  case clearLockBreaker =>
    unfold clearLockBreaker
    split
    · exact .serveWith (.of_quiet (by simp [reported]))
    · exact .refl s
  case envelopeTick =>
    unfold envelopeTick
    split
    · exact .of_quiet (by simp; rfl)
    · exact .refl s
  case analogSample =>
    unfold analogSample
    split
    · exact .of_quiet (by simp; rfl)
    · exact .refl s
  case flowTimerExpiry | isolationTimerExpiry | minuteBoundary =>
    simp only [flowTimerExpiry, isolationTimerExpiry, minuteBoundary]
    split <;> exact .of_quiet (by simp)
  case closePendingTimerExpiry | releaseTimerExpiry | recloseTimerExpiry | breakerFeedbackChange =>
    simp only [closePendingTimerExpiry, releaseTimerExpiry, recloseTimerExpiry, breakerFeedbackChange]
    repeat' split
    all_goals exact .of_quiet (by simp)
  case fireEvaluation =>
    unfold fireEvaluation
    split
    · refine .trans (.of_quiet (t := State.sampleGas _ _ _) (by simp; rfl))
        (.trans (.modLink _ .pnl fun _ => by exact le_rfl) (.of_quiet (State.passes_quietLinks _)))
    · exact .refl s
  case permitEvaluation =>
    unfold permitEvaluation
    split
    · exact State.codePasses_shrinks { s.atTime s.clocks.permit with clocks := _ }
    · exact .refl s
  case statusWord l code =>
    unfold statusWord
    split
    · exact s.judgeStatus_shrinks l code
    · exact .refl s
  case silenceTimeout l =>
    unfold silenceTimeout
    split
    · exact State.fallSilent_shrinks (s.atTime _) l
    · exact .refl s
  case sendStatusWord l =>
    unfold sendStatusWord
    split
    · exact .modLink s l fun _ => le_rfl
    · exact .refl s
  case answerSent l =>
    unfold answerSent
    split
    · refine .modLink _ l fun k => ?_
      unfold LinkState.sentAnswer
      dsimp only
      split
      · simp
      · exact le_rfl
    · exact .refl s
  case unknownKind =>
    unfold unknownKind
    split
    · exact .refl s
    · exact .serve (.refl s)
  case commitComplete =>
    unfold commitComplete
    split
    · exact s.completeWrite_shrinks _
    · exact .refl s
  case siteResetStart =>
    unfold siteResetStart
    split
    · exact (s.startReset_shrinks _ _).trans (State.completeReset_shrinks _)
    · exact .refl s
  case powerOn =>
    unfold powerOn
    split
    · exact s.startReset_shrinks _ _
    · exact .refl s
  case resetLineAssert =>
    unfold resetLineAssert
    repeat' split
    case isTrue | isFalse.isTrue => exact .of_links rfl
    case isFalse.isFalse => exact State.startReset_shrinks { s with resetLine := true } _ _
  case lossOfSupply =>
    unfold lossOfSupply
    split
    · exact .refl s
    · exact s.startReset_shrinks _ _
  case startUpLoadComplete =>
    unfold startUpLoadComplete
    split
    · exact State.completeReset_shrinks (s.modConfig ConfigStore.load)
    · exact .refl s

end Sys2Proof.Machine
end

-- ==== Proofs: the probe queues, and the bounds of both kinds of queue ====
section
namespace Sys2Proof.Machine

/-! ## The probe queue of a chain (R14) -/

section
variable {k : Chain}

/-- A queue from which entries are taken stays within its bounds. -/
theorem Chain.probesSound_sublist {j : Chain} (h : k.probesSound) (sub : j.probes.Sublist k.probes) : j.probesSound := by
  obtain ⟨short, distinct, waiting⟩ := h
  exact ⟨sub.length_le.trans short, distinct.sublist (sub.map _), fun e he => waiting e (sub.subset he)⟩

theorem Chain.probesSound_of_same {j : Chain} (h : k.probesSound) (same : j.probes = k.probes) : j.probesSound :=
  Chain.probesSound_sublist h (same ▸ List.Sublist.refl _)

theorem Chain.startProbe_probes (k : Chain) (now : Nat) : (k.startProbe now).probes = k.probes.tail := by
  unfold Chain.startProbe
  split
  · next e => simp [Chain.start, e]
  · next e => rw [e]; rfl

/-- R16: the arbiter takes the oldest entry of the queue, or none. -/
theorem Chain.arbitrate_sound (h : k.probesSound) (now : Nat) : (k.arbitrate now).probesSound := by
  have taken : (k.startProbe now).probesSound :=
    Chain.probesSound_sublist h (by rw [Chain.startProbe_probes]; exact List.tail_sublist _)
  unfold Chain.arbitrate
  repeat' split
  case isFalse.isTrue => exact h
  all_goals exact taken

theorem ProbeEntry.join_addr (e : ProbeEntry) (a : Addr) (w : Waiter) : (e.join a w).addr = e.addr := by
  unfold ProbeEntry.join
  split <;> rfl

/-- R14: a request joins an entry that has room. -/
theorem Chain.join_sound (h : k.probesSound) {a : Addr} {e : ProbeEntry} (w : Waiter)
    (found : k.probes.find? (fun e => e.addr == a) = some e) (room : e.waiters.length < 4) :
    Chain.probesSound { k with probes := k.probes.map fun y => y.join a w } := by
  obtain ⟨short, distinct, waiting⟩ := h
  have names : (fun y : ProbeEntry => (y.join a w).addr) = ProbeEntry.addr := funext fun y => y.join_addr a w
  refine ⟨by simpa using short, by simpa [Function.comp_def, names] using distinct, fun x hx => ?_⟩
  obtain ⟨y, hy, rfl⟩ := List.mem_map.1 hx
  unfold ProbeEntry.join
  split
  · next same =>
    have only : y = e := by
      have he := List.mem_of_find?_eq_some found
      have ea : e.addr = a := by simpa using List.find?_some found
      exact List.inj_on_of_nodup_map distinct hy he (same.trans ea.symm)
    subst only
    simp only [List.length_append, List.length_singleton]
    omega
  · exact waiting y hy

/-- R14: a new entry in a queue that has room. -/
theorem Chain.addProbe_sound (h : k.probesSound) {a : Addr} (w : Waiter) (now : Nat)
    (fresh : k.probes.find? (fun e => e.addr == a) = none) (room : k.probes.length < 4) :
    (k.addProbe now a w).probesSound := by
  obtain ⟨short, distinct, waiting⟩ := h
  have added : Chain.probesSound { k with probes := k.probes ++ [⟨a, [w]⟩] } := by
    refine ⟨by simpa using room, ?_, fun e he => ?_⟩
    · simp only [List.map_append, List.map_cons, List.map_nil]
      refine List.Nodup.append distinct (List.nodup_singleton _) ?_
      simpa using fresh
    · rcases List.mem_append.1 he with he | he
      · exact waiting e he
      · simp [List.mem_singleton.1 he]
  unfold Chain.addProbe
  dsimp only
  split
  · exact Chain.probesSound_sublist added (by rw [Chain.startProbe_probes]; exact List.tail_sublist _)
  · exact added

theorem Chain.atReset_sound (r : ScanRange) : (Chain.atReset r).probesSound := ⟨Nat.zero_le _, List.nodup_nil, nofun⟩
end

/-! ## The probe queues of both chains -/

/-- R14: what the probe queues keep. -/
def State.probesKept (s : State) : Prop := ∀ c, (s.chain c).probesSound

section
variable {s t : State}

theorem State.probesKept_of_chains (h : t.chains = s.chains) (hs : s.probesKept) : t.probesKept := by
  unfold State.probesKept State.chain
  rw [h]
  exact hs

theorem State.modChain_probesKept (hs : s.probesKept) (c : Str) {f : Chain → Chain}
    (h : ∀ k, k.probesSound → (f k).probesSound) : (s.modChain c f).probesKept := fun d => by
  rw [State.modChain_chain]
  split
  · exact h _ (hs d)
  · exact hs d

/-- A change of a chain that takes nothing into its queue. -/
theorem State.modChain_probesKept' (hs : s.probesKept) (c : Str) {f : Chain → Chain}
    (h : ∀ k, (f k).probes.Sublist k.probes) : (s.modChain c f).probesKept :=
  State.modChain_probesKept hs c fun k hk => Chain.probesSound_sublist hk (h k)

/-- A change of a chain that leaves its queue. -/
theorem State.modChain_probesKept_same (hs : s.probesKept) (c : Str) {f : Chain → Chain}
    (h : ∀ k, (f k).probes = k.probes) : (s.modChain c f).probesKept :=
  State.modChain_probesKept hs c fun k hk => Chain.probesSound_of_same hk (h k)

theorem State.removeProbes_probesKept (hs : s.probesKept) (c : Str) (picks : Addr → Bool) :
    (s.removeProbes c picks).probesKept := by
  have removed : (s.modChain c fun k => { k with probes := k.probes.filter fun e => !picks e.addr }).probesKept :=
    State.modChain_probesKept' hs c fun k => List.filter_sublist
  exact State.probesKept_of_chains (by simp [State.removeProbes]) removed

theorem State.clearModules_probesKept (hs : s.probesKept) (c : Str) (picks : Addr → Bool) :
    (s.clearModules c picks).probesKept :=
  State.modChain_probesKept_same hs c fun _ => rfl

theorem State.dueMoment_probesKept (hs : s.probesKept) (c : Str) : (s.dueMoment c).probesKept := by
  have compared : (s.compareRange c).probesKept := by
    unfold State.compareRange
    split
    · exact State.modChain_probesKept_same (State.removeProbes_probesKept (State.clearModules_probesKept hs c _) c _) c
        fun _ => rfl
    · exact hs
  unfold State.dueMoment
  dsimp only
  split
  · exact State.modChain_probesKept_same
      (State.removeProbes_probesKept (State.clearModules_probesKept compared c _) c _) c fun _ => rfl
  · exact State.modChain_probesKept_same compared c fun _ => rfl

theorem State.firstDue_probesKept (hs : s.probesKept) (c : Str) : (s.firstDue c).probesKept := by
  unfold State.firstDue State.startIfIdle
  refine State.modChain_probesKept_same (State.dueMoment_probesKept hs c) c fun k => ?_
  split <;> rfl

theorem State.applyOutcome_probesKept (hs : s.probesKept) (c : Str) (u : ChainUnit) (r : Option Reply) :
    (s.applyOutcome c u r).probesKept := by
  have head (i v b : Int) (m p : Contact) : (s.headGood c i v b m p).probesKept := by
    unfold State.headGood
    dsimp only
    refine State.inAnyOrder_keeps (P := State.probesKept) (fun t n h => h) (fun f hf t ht => ?_)
      (State.modChain_probesKept_same hs c fun _ => rfl)
    rcases List.mem_pair.1 hf with rfl | rfl <;> exact State.probesKept_of_chains (by simp) ht
  have module (a : Addr) (cells : Vector Nat 16) (sensors : Vector Int 4) (set : List Nat) :
      ((s.modModule c a fun m => m.reply cells sensors set).moduleReply c a).probesKept := by
    refine State.modChain_probesKept_same ?_ c fun _ => rfl
    have evaluated : ((s.modModule c a fun m => m.reply cells sensors set).evaluateSensors c a).probesKept :=
      State.modChain_probesKept_same hs c fun _ => rfl
    unfold State.judgeInvalid
    split
    · exact State.modChain_probesKept_same evaluated c fun _ => rfl
    · exact evaluated
  have good (reply : Reply) : (s.applyGood c u reply).probesKept := by
    unfold State.applyGood
    split
    · exact head _ _ _ _ _
    · exact module _ _ _ _
    · exact hs
  unfold State.applyOutcome
  split
  · exact good _
  · next r _ _ _ =>
    have lost (o : ChainOutcome) : (s.modChain c fun k => k.lose u o).probesKept :=
      State.modChain_probesKept_same hs c fun k => by cases u <;> rfl
    exact State.probesKept_of_chains (by simp) (lost (classify u r))

theorem State.endTransaction_probesKept (hs : s.probesKept) (c : Str) (x : Transaction) (r : Option Reply) :
    (s.endTransaction c x r).probesKept := by
  have ended : (s.modChain c fun k => { k with inFlight := none }).probesKept :=
    State.modChain_probesKept_same hs c fun _ => rfl
  have missed : ((s.modChain c fun k => { k with inFlight := none }).countMiss c (classify x.addressed r)).probesKept :=
    State.probesKept_of_chains (by simp) ended
  have advanced (t : State) (ht : t.probesKept) (u : ChainUnit) : (t.advance c u).probesKept := by
    unfold State.advance State.completeCycle
    split
    · exact State.modChain_probesKept_same ht c fun _ => rfl
    · have waiting : (t.modChain c fun k =>
          { k with cycle := .waiting, nextUnit := .head, firstDone := true }).probesKept :=
        State.modChain_probesKept_same ht c fun _ => rfl
      have completed : ((t.modChain c fun k =>
          { k with cycle := .waiting, nextUnit := .head, firstDone := true }).cycleComplete c).probesKept :=
        State.probesKept_of_chains (by simp) waiting
      dsimp only
      split
      · exact State.dueMoment_probesKept completed c
      · exact completed
  unfold State.endTransaction
  refine State.modChain_probesKept ?_ c fun k hk => Chain.arbitrate_sound hk _
  unfold State.concludeTransaction
  dsimp only
  generalize State.countMiss _ c _ = t at missed
  have applied : (if (s.chain c).stillFitted x.addressed then t.applyOutcome c x.addressed r else t).probesKept := by
    split
    · exact State.applyOutcome_probesKept missed c _ r
    · exact missed
  split
  · exact State.probesKept_of_chains (by simp) applied
  · exact applied
  · exact advanced _ applied _

/-- R14: PROBE-MODULE keeps the queues within their bounds. -/
theorem State.probe_probesKept (hs : s.probesKept) (c : Str) (a : Addr) (w : Waiter) : (s.probe c a w).1.probesKept := by
  have set (f : Chain → Chain) (h : (f (s.chain c)).probesSound) : (s.modChain c f).probesKept := fun d => by
    rw [State.modChain_chain]
    split
    · next same => exact same ▸ h
    · exact hs d
  unfold State.probe
  dsimp only
  split
  · exact hs
  · split
    · next e found =>
      split
      · next room => exact set _ (Chain.join_sound (hs c) w found room)
      · exact hs
    · next fresh =>
      split
      · next room => exact set _ (Chain.addProbe_sound (hs c) w _ fresh room)
      · exact hs

theorem State.emptyAllSets_probesKept (hs : s.probesKept) : s.emptyAllSets.probesKept := by
  have empties (k : Chain) : k.emptySets.probes = k.probes := rfl
  unfold State.emptyAllSets
  exact State.modChain_probesKept_same (State.modChain_probesKept_same hs .one empties) .two empties

theorem State.enterStage_probesKept (hs : s.probesKept) (g : FireStage) : (s.enterStage g).probesKept := by
  have ordered : ((((s.modFire fun f => f.enter g s.uptime).postStage s.fire.stage).orderFreeze s s.fire.stage g)).probesKept :=
    State.probesKept_of_chains (by simp) hs
  unfold State.enterStage
  dsimp only
  split
  · exact State.emptyAllSets_probesKept ordered
  · exact ordered

theorem State.passes_probesKept (hs : s.probesKept) : s.passes.probesKept := by
  refine State.passes_keeps (P := State.probesKept) (fun _ n h => h) (fun t v code ht => ?_)
    (fun t v code e he u hu => State.probesKept_of_chains (Part.same_fireEffect (p := .chains) (by decide) he u) hu)
    (fun t h => h) hs
  obtain ⟨u, rfl, ⟨g, -, -, e⟩ | ⟨e, -⟩⟩ := t.decidePass_cases v code <;> rw [e]
  · exact State.enterStage_probesKept (State.probesKept_of_chains (by simp) ht) g
  · exact State.probesKept_of_chains (by simp) ht

theorem State.changeStage_probesKept (hs : s.probesKept) (g : FireStage) : (s.changeStage g).probesKept := by
  refine State.takeAll_keeps (P := State.probesKept) (fun _ n h => h) (fun e he u hu => ?_)
    (State.enterStage_probesKept hs g)
  obtain ⟨w, entry, rfl | ⟨c, rfl⟩ | rfl | rfl⟩ := State.mem_changeStage_effects he <;>
    exact State.probesKept_of_chains (by simp [State.fsEffect]) hu

theorem State.startReset_probesKept (s : State) (kind : ResetKind) (phase : Phase) :
    (s.startReset kind phase).probesKept := fun c => by cases c <;> exact Chain.atReset_sound _

theorem State.completeReset_probesKept (hs : s.probesKept) : s.completeReset.probesKept := by
  have ready : s.ready.probesKept := fun c => by
    cases c
    · exact Chain.probesSound_of_same (hs .one) rfl
    · exact Chain.probesSound_of_same (hs .two) rfl
  have first : (s.ready.firstDue .one).probesKept := State.firstDue_probesKept ready .one
  have second : ((s.ready.firstDue .one).firstDue .two).probesKept := State.firstDue_probesKept first .two
  exact State.probesKept_of_chains (by simp [State.completeReset]) second

end

/-! ## The obligation -/

/-- R14: every command keeps the probe queues. -/
theorem exec_probesKept (i : Instr) (s t : State) (hs : s.probesKept) (h : exec i s = .next t) : t.probesKept := by
  by_cases touched : Part.chains ∈ changedBy i
  case neg => exact State.probesKept_of_chains (exec_same h touched) hs
  have links (t : State) (l : Link) (f : LinkState → LinkState) (ht : t.probesKept) : (t.modLink l f).probesKept := ht
  cases i
  case chainReply c r =>
    obtain rfl : _ = t := Host.Outcome.next.inj h
    unfold chainReply
    split
    · split
      · exact State.endTransaction_probesKept hs c _ _
      · exact hs
    · exact hs
  case replyTimeout c =>
    obtain rfl : _ = t := Host.Outcome.next.inj h
    unfold replyTimeout
    split
    · split
      · exact State.endTransaction_probesKept (s := s.atTime _) hs c _ _
      · exact hs
    · exact hs
  case readingAgeTick =>
    obtain rfl : _ = t := Host.Outcome.next.inj h
    unfold readingAgeTick
    split
    · have ages (k : Chain) : k.ageSecond.probes = k.probes := rfl
      exact State.modChain_probesKept_same (State.modChain_probesKept_same (s := { s.atTime _ with clocks := _ }) hs .one
        ages) .two ages
    · exact hs
  case cycleDue c =>
    obtain rfl : _ = t := Host.Outcome.next.inj h
    unfold cycleDue
    split
    · split
      · exact State.firstDue_probesKept (s := s.atTime _) hs c
      · exact hs
    · exact hs
  case unfittedCheck c =>
    obtain rfl : _ = t := Host.Outcome.next.inj h
    unfold unfittedCheck State.checkUnfitted
    split
    · split
      · split
        · exact State.firstDue_probesKept (s := s.atTime _) hs c
        · exact State.modChain_probesKept_same (s := s.atTime _) hs c fun _ => rfl
      · exact hs
    · exact hs
  case probeModule l q payload =>
    obtain rfl : _ = t := Host.Outcome.next.inj h
    refine State.serve_keeps links hs ?_
    split
    · exact State.probe_probesKept hs _ _ _
    · exact hs
  case fireEvaluation loops gas1 gas2 =>
    obtain rfl : _ = t := Host.Outcome.next.inj h
    unfold fireEvaluation
    split
    · exact State.passes_probesKept (State.probesKept_of_chains (by simp) hs)
    · exact hs
  case resetFire l q payload =>
    obtain rfl : _ = t := Host.Outcome.next.inj h
    refine State.serve_keeps links hs ?_
    unfold noPayload
    split
    · rcases resetFireBlock_cases s with e | ⟨-, -, e⟩ <;> rw [e]
      · exact hs
      · exact State.changeStage_probesKept hs .normal
    · exact hs
  case setParam l q payload =>
    obtain rfl : _ = t := Host.Outcome.next.inj h
    refine State.serve_keeps links hs ?_
    unfold setParamBlock State.storeParam State.ceilingWritten
    have applies (p : Params) (k : Chain) : (k.applyCeiling p.balCeiling).probes = k.probes := rfl
    split
    · exact hs
    · split
      · exact hs
      · dsimp only
        repeat' split
        · exact hs
        · exact State.modChain_probesKept_same (State.modChain_probesKept_same (s := s.modConfig _) hs .one (applies _))
            .two (applies _)
        · exact hs
  case siteResetStart =>
    obtain rfl : _ = t := Host.Outcome.next.inj h
    unfold siteResetStart
    split
    · exact State.completeReset_probesKept (s.startReset_probesKept _ _)
    · exact hs
  case powerOn =>
    obtain rfl : _ = t := Host.Outcome.next.inj h
    unfold powerOn
    split
    · exact s.startReset_probesKept _ _
    · exact hs
  case resetLineAssert =>
    obtain rfl : _ = t := Host.Outcome.next.inj h
    unfold resetLineAssert
    repeat' split
    case isTrue | isFalse.isTrue => exact hs
    case isFalse.isFalse => exact State.startReset_probesKept { s with resetLine := true } _ _
  case startUpLoadComplete =>
    obtain rfl : _ = t := Host.Outcome.next.inj h
    unfold startUpLoadComplete
    split
    · exact State.completeReset_probesKept (s := s.modConfig ConfigStore.load) hs
    · exact hs
  case lossOfSupply =>
    obtain rfl : _ = t := Host.Outcome.next.inj h
    unfold lossOfSupply
    split
    · exact hs
    · exact s.startReset_probesKept _ _
  all_goals exact absurd touched (by simp [changedBy])

/-- R165: a telegram puts a request in a queue that has room alone. -/
theorem telegram_queues {l : Link} {raw : List Byte} {s : State} (hs : ∀ m, (s.link m).queue.length ≤ 4) (m : Link) :
    ((telegram l raw s).link m).queue.length ≤ 4 := by
  have one {t : State} (ht : ∀ m, (t.link m).queue.length ≤ 4) (r : Received) (m : Link) :
      ((t.receiveOne l r).link m).queue.length ≤ 4 := by
    have shrinks {u : State} (h : t.QueuesShrink u) : (u.link m).queue.length ≤ 4 := (h m).trans (ht m)
    cases r with
    | bad => exact ht m
    | status code => exact shrinks (t.judgeStatus_shrinks l code)
    | good kind q payload =>
      have heard : t.QueuesShrink (t.hear l) := .modLink t l fun _ => le_rfl
      unfold State.receiveOne
      dsimp only
      unfold State.offerRequest
      split
      · next room =>
        rw [State.modLink_link]
        split
        · next same =>
          subst same
          simp only [List.length_append, List.length_singleton]
          omega
        · exact shrinks heard
      · exact shrinks (heard.trans (.of_quiet (State.post_quietLinks _ _ _)))
  unfold telegram
  split
  · next running =>
    clear running
    generalize receive raw = found
    induction found generalizing s with
    | nil => exact hs m
    | cons r rest ih => exact ih (one hs r)
  · exact hs m

/-- R165: every command keeps the request queues. -/
theorem exec_requests (i : Instr) (s t : State) (hs : ∀ m, (s.link m).queue.length ≤ 4) (h : exec i s = .next t)
    (m : Link) : (t.link m).queue.length ≤ 4 := by
  cases hr : requestOf i with
  | some x => exact (request_shrinks hr h m).trans (hs m)
  | none =>
    by_cases ht : ∃ l raw, i = .telegram l raw
    · obtain ⟨l, raw, rfl⟩ := ht
      obtain rfl : _ = t := Host.Outcome.next.inj h
      exact telegram_queues hs m
    · exact (event_shrinks hr (fun l raw e => ht ⟨l, raw, e⟩) h m).trans (hs m)

/-- Settles O14: a telegram fills a request queue up to its bound and PROBE-MODULE a probe queue; every other command
takes from them alone. -/
theorem stepKeepsQueues : Obligations.StepKeepsQueues := fun _ _ hs h =>
  step_keeps (P := State.queuesKept) (fun _ _ h => h) (fun _ _ h => h)
    (fun i s t hs h => ⟨exec_requests i s t hs.1 h, exec_probesKept i s t hs.2 h⟩) hs h

end Sys2Proof.Machine
end

-- ==== Proofs: the requested balance sets ====
section
namespace Sys2Proof.Machine

/-! ## The sets of a record (R35, R36) -/

/-- Section 1.3: a balance set of few cells. -/
theorem cellSet_length_le (cells : List Nat) : (cellSet cells).length ≤ cells.length :=
  (List.subperm_of_subset ((List.nodup_range' (s := 1) (n := 16)).filter _)
    fun n hn => by simpa using (List.mem_filter.1 hn).2).length_le

/-- R35: at most four cells are chosen. -/
theorem chooseFour_length_le (candidates : List (Nat × Nat)) : (chooseFour candidates).length ≤ 4 :=
  (cellSet_length_le _).trans (by simp)

section
variable {m : ModuleRecord} {ceiling : Int} {stage : FireStage}

theorem ModuleRecord.balanceSound_of_empty (h : m.requested = []) : m.balanceSound ceiling stage := by
  refine ⟨by simp [h], fun some => absurd h some⟩

theorem ModuleRecord.lose_requested (o : ChainOutcome) (h : m.balanceSound ceiling stage) :
    (m.lose o).balanceSound ceiling stage := by
  by_cases lost : (afterLoss o m.status m.miss).1.lost = true
  · exact ModuleRecord.balanceSound_of_empty (by simp [ModuleRecord.lose, lost])
  · have same : (afterLoss o m.status m.miss).1 = m.status := by
      revert lost
      unfold afterLoss
      split
      · simp [UnitStatus.lost]
      · split
        · simp
        · simp [UnitStatus.lost]
    have standing : m.status.lost = false := by rw [← same]; exact Bool.eq_false_iff.2 lost
    simp only [ModuleRecord.lose, same, standing]
    exact h
end

/-- R35: a selection is sound for the record it was made from. -/
theorem State.selection_sound (s : State) (c : Str) (m : ModuleRecord) :
    ModuleRecord.balanceSound { m with requested := s.selection c m } s.params.balCeiling s.fire.stage := by
  refine ⟨?_, fun chosen => ?_⟩
  · unfold State.selection
    dsimp only
    repeat' split
    · exact Nat.zero_le _
    · exact chooseFour_length_le _
    · exact Nat.zero_le _
  · have allowed : s.noBalancing c m = false := by
      cases none : s.noBalancing c m with
      | false => rfl
      | true => exact absurd (by simp [State.selection, none]) chosen
    simp only [State.noBalancing, Bool.or_eq_false_iff, bne_eq_false_iff_eq] at allowed
    obtain ⟨⟨⟨⟨current, -⟩, cool⟩, below⟩, -⟩ := allowed
    exact ⟨current, cool, below⟩

/-! ## The sets of both chains -/

/-- R36: the requested sets of a chain under a ceiling and a stage. -/
def Chain.balanced (k : Chain) (ceiling : Int) (stage : FireStage) : Prop :=
  ∀ a : Addr, (k.modules[a]).balanceSound ceiling stage

/-- R36: the requested sets of both chains. -/
def State.balanced (s : State) : Prop := ∀ c, (s.chain c).balanced s.params.balCeiling s.fire.stage

/-- No set is requested. -/
def Chain.unbalanced (k : Chain) : Prop := ∀ a : Addr, (k.modules[a]).requested = []

theorem Chain.balanced_of_unbalanced {k : Chain} (h : k.unbalanced) (ceiling : Int) (stage : FireStage) :
    k.balanced ceiling stage := fun a => ModuleRecord.balanceSound_of_empty (h a)

theorem Chain.emptySets_unbalanced (k : Chain) : k.emptySets.unbalanced := fun a => by
  rw [Chain.emptySets]
  simp only [vmap_get]
  rfl

theorem Chain.atReset_unbalanced (r : ScanRange) : (Chain.atReset r).unbalanced := fun a => by
  simp [Chain.atReset, ModuleRecord.cleared]

/-- R36: the new ceiling acted on. -/
theorem Chain.applyCeiling_balanced {k : Chain} {old : Int} {stage : FireStage} (h : k.balanced old stage)
    (ceiling : Int) : (k.applyCeiling ceiling).balanced ceiling stage := fun a => by
  simp only [Chain.applyCeiling, vmap_get]
  split
  · exact ModuleRecord.balanceSound_of_empty rfl
  · next cool =>
    obtain ⟨few, chosen⟩ := h a
    exact ⟨few, fun some => ⟨(chosen some).1, Bool.eq_false_iff.2 cool, (chosen some).2.2⟩⟩

theorem Chain.applyCeiling_unbalanced {k : Chain} (h : k.unbalanced) (ceiling : Int) :
    (k.applyCeiling ceiling).unbalanced := fun a => by
  simp only [Chain.applyCeiling, vmap_get]
  split
  · rfl
  · exact h a

section
variable {s t : State}

theorem State.balanced_of_same (chains : t.chains = s.chains) (ceiling : t.params.balCeiling = s.params.balCeiling)
    (stage : t.fire.stage = s.fire.stage) (h : s.balanced) : t.balanced := fun c => by
  rw [State.chain, chains, ceiling, stage]
  exact h c

theorem State.modChain_balanced (h : s.balanced) (c : Str) {f : Chain → Chain}
    (hf : ∀ k, k.balanced s.params.balCeiling s.fire.stage → (f k).balanced s.params.balCeiling s.fire.stage) :
    (s.modChain c f).balanced := fun d => by
  rw [State.modChain_chain]
  split
  · exact hf _ (h d)
  · exact h d

theorem State.modChain_other {c d : Str} (f : Chain → Chain) (h : d ≠ c) : (s.modChain c f).chain d = s.chain d := by
  rw [State.modChain_chain, if_neg h]

/-- A change of a chain that leaves its module records. -/
theorem State.modChain_balanced_same (h : s.balanced) (c : Str) {f : Chain → Chain}
    (hf : ∀ k, (f k).modules = k.modules) : (s.modChain c f).balanced :=
  State.modChain_balanced h c fun k hk a => by
    rw [hf k]
    exact hk a

theorem State.clearModules_balanced (h : s.balanced) (c : Str) (picks : Addr → Bool) :
    (s.clearModules c picks).balanced := by
  have cleared := State.modChain_balanced h c
    (f := fun k => { k with modules := vmapIdx (fun a m => if picks a then .cleared else m) k.modules }) fun k hk a => by
      simp only [vmapIdx_get]
      split
      · exact ModuleRecord.balanceSound_of_empty rfl
      · exact hk a
  exact State.balanced_of_same rfl rfl rfl cleared

theorem State.removeProbes_balanced (h : s.balanced) (c : Str) (picks : Addr → Bool) :
    (s.removeProbes c picks).balanced := by
  have removed : (s.modChain c fun k => { k with probes := k.probes.filter fun e => !picks e.addr }).balanced :=
    State.modChain_balanced_same h c fun _ => rfl
  exact State.balanced_of_same (by simp [State.removeProbes]) (by simp [State.removeProbes, State.params])
    (by simp [State.removeProbes]) removed

theorem State.dueMoment_balanced (h : s.balanced) (c : Str) : (s.dueMoment c).balanced := by
  have compared : (s.compareRange c).balanced := by
    unfold State.compareRange
    split
    · exact State.modChain_balanced_same (State.removeProbes_balanced (State.clearModules_balanced h c _) c _) c fun _ => rfl
    · exact h
  unfold State.dueMoment
  dsimp only
  split
  · exact State.modChain_balanced_same (State.removeProbes_balanced (State.clearModules_balanced compared c _) c _) c
      fun _ => rfl
  · exact State.modChain_balanced_same compared c fun _ => rfl

theorem State.firstDue_balanced (h : s.balanced) (c : Str) : (s.firstDue c).balanced := by
  unfold State.firstDue State.startIfIdle
  refine State.modChain_balanced_same (State.dueMoment_balanced h c) c fun k => ?_
  split <;> rfl

/-- R20, R37: the records of a reply before its selection is made: an INVALID cell empties sets, and the others stand. -/
theorem State.judgeInvalid_record (s : State) (c : Str) (a b : Addr) :
    ((s.judgeInvalid c a).chain c).modules[b] = (s.chain c).modules[b]
      ∨ (((s.judgeInvalid c a).chain c).modules[b]).requested = [] := by
  unfold State.judgeInvalid
  split
  · simp only [State.modChain_same, Chain.emptyFittedSets, vmapIdx_get]
    split
    · exact .inr rfl
    · exact .inl rfl
  · exact .inl rfl

/-- R20: the reply of a module: its new record has the selection made from it. -/
theorem State.moduleReply_balanced (h : s.balanced) (c : Str) (a : Addr) (f : ModuleRecord → ModuleRecord) :
    ((s.modModule c a f).moduleReply c a).balanced := by
  unfold State.moduleReply State.balance
  generalize eu : (s.modModule c a f).evaluateSensors c a = e
  have chains (d : Str) : e.chain d = (s.modModule c a f).chain d := by rw [← eu]; rfl
  have params : e.params = s.params := by rw [← eu]; rfl
  have stage : e.fire.stage = s.fire.stage := by rw [← eu]; rfl
  generalize ju : e.judgeInvalid c a = u
  have params' : u.params = s.params := by rw [← ju, State.params, ← params]; simp [State.params]
  have stage' : u.fire.stage = s.fire.stage := by rw [← ju, ← stage]; simp
  intro d b
  show (((u.modModule c a _).chain d).modules[b]).balanceSound u.params.balCeiling u.fire.stage
  by_cases same : d = c
  · subst same
    rw [State.modModule_chain]
    simp only [vmod_get]
    split
    · next this => subst this; exact u.selection_sound d _
    · next other =>
      have record := e.judgeInvalid_record d a b
      rw [ju, chains, State.modModule_chain] at record
      simp only [vmod_get, if_neg other] at record
      rw [params', stage']
      rcases record with e | e
      · rw [e]; exact h d b
      · exact ModuleRecord.balanceSound_of_empty e
  · have record : (u.modModule c a fun x => { x with requested := u.selection c (u.chain c).modules[a] }).chain d
        = s.chain d := by
      have judged : u.chain d = e.chain d := by
        rw [← ju, State.judgeInvalid]
        split
        · exact State.modChain_other _ same
        · rfl
      rw [State.modModule, State.modChain_other _ same, judged, chains, State.modModule, State.modChain_other _ same]
    rw [record, params', stage']
    exact h d b

theorem State.applyOutcome_balanced (h : s.balanced) (c : Str) (u : ChainUnit) (r : Option Reply) :
    (s.applyOutcome c u r).balanced := by
  have head (i v b : Int) (m p : Contact) : (s.headGood c i v b m p).balanced := by
    unfold State.headGood
    dsimp only
    refine State.inAnyOrder_keeps (P := State.balanced) (fun t n ht => ht) (fun f hf t ht => ?_)
      (State.modChain_balanced_same h c fun _ => rfl)
    rcases List.mem_pair.1 hf with rfl | rfl <;>
      exact State.balanced_of_same (by simp) (by simp [State.params]) (by simp) ht
  have good (reply : Reply) : (s.applyGood c u reply).balanced := by
    unfold State.applyGood
    split
    · exact head _ _ _ _ _
    · exact State.moduleReply_balanced h c _ _
    · exact h
  have lost (o : ChainOutcome) : (s.modChain c fun k => k.lose u o).balanced :=
    State.modChain_balanced h c fun k hk => by
      cases u with
      | head => exact hk
      | module a =>
        intro b
        simp only [Chain.lose, vmod_get]
        split
        · exact ModuleRecord.lose_requested o (hk b)
        · exact hk b
  unfold State.applyOutcome
  split
  · exact good _
  · next r _ _ _ =>
    exact State.balanced_of_same (by simp) (by simp [State.params]) (by simp) (lost (classify u r))

theorem State.endTransaction_balanced (h : s.balanced) (c : Str) (x : Transaction) (r : Option Reply) :
    (s.endTransaction c x r).balanced := by
  have ended : (s.modChain c fun k => { k with inFlight := none }).balanced :=
    State.modChain_balanced_same h c fun _ => rfl
  have missed : ((s.modChain c fun k => { k with inFlight := none }).countMiss c (classify x.addressed r)).balanced :=
    State.balanced_of_same (by simp) (by simp [State.params]) (by simp) ended
  have advanced (t : State) (ht : t.balanced) (u : ChainUnit) : (t.advance c u).balanced := by
    unfold State.advance State.completeCycle
    split
    · exact State.modChain_balanced_same ht c fun _ => rfl
    · have waiting : (t.modChain c fun k =>
          { k with cycle := .waiting, nextUnit := .head, firstDone := true }).balanced :=
        State.modChain_balanced_same ht c fun _ => rfl
      have completed : ((t.modChain c fun k =>
          { k with cycle := .waiting, nextUnit := .head, firstDone := true }).cycleComplete c).balanced :=
        State.balanced_of_same (by simp) (by simp [State.params]) (by simp) waiting
      dsimp only
      split
      · exact State.dueMoment_balanced completed c
      · exact completed
  unfold State.endTransaction
  refine State.modChain_balanced_same ?_ c fun k => ?arbitrated
  case arbitrated =>
    unfold Chain.arbitrate Chain.startProbe
    repeat' split
    all_goals rfl
  unfold State.concludeTransaction
  dsimp only
  generalize State.countMiss _ c _ = t at missed
  have applied : (if (s.chain c).stillFitted x.addressed then t.applyOutcome c x.addressed r else t).balanced := by
    split
    · exact State.applyOutcome_balanced missed c _ r
    · exact missed
  split
  · exact State.balanced_of_same (by simp) (by simp [State.params]) (by simp) applied
  · exact applied
  · exact advanced _ applied _

/-- R6: the ages are no part of a set. -/
theorem Chain.ageSecond_balanced {k : Chain} {ceiling : Int} {stage : FireStage} (h : k.balanced ceiling stage) :
    k.ageSecond.balanced ceiling stage := fun a => by
  simp only [Chain.ageSecond, vmapIdx_get]
  split <;> exact h a

/-- R15: a probe request changes no record. -/
theorem State.probe_balanced (h : s.balanced) (c : Str) (a : Addr) (w : Waiter) : (s.probe c a w).1.balanced := by
  have added (k : Chain) : (k.addProbe s.uptime a w).modules = k.modules := by
    unfold Chain.addProbe Chain.startProbe
    dsimp only
    repeat' split
    all_goals rfl
  unfold State.probe
  dsimp only
  repeat' split
  · exact h
  · exact State.modChain_balanced_same h c fun _ => rfl
  · exact h
  · exact State.modChain_balanced_same h c added
  · exact h

/-! ## The fire stage (R36) -/

theorem State.balanced_of_unbalanced (h : ∀ c, (s.chain c).unbalanced) : s.balanced := fun c =>
  Chain.balanced_of_unbalanced (h c) _ _

theorem State.emptyAllSets_unbalanced (s : State) (c : Str) : (s.emptyAllSets.chain c).unbalanced := by
  have chain : s.emptyAllSets.chain c = (s.chain c).emptySets := by
    unfold State.emptyAllSets
    cases c <;> simp [State.modChain_chain]
  rw [chain]
  exact Chain.emptySets_unbalanced _

/-- R36: an entry into ALERT or higher empties the sets; any other change of stage leaves them allowed or leaves none. -/
theorem State.enterStage_balanced (h : s.balanced) (g : FireStage) : (s.enterStage g).balanced := by
  unfold State.enterStage
  dsimp only
  split
  · exact State.balanced_of_unbalanced (State.emptyAllSets_unbalanced _)
  · next quiet =>
    generalize ent : ((s.modFire fun f => f.enter g s.uptime).postStage s.fire.stage).orderFreeze s s.fire.stage g = t
    have chains : t.chains = s.chains := by rw [← ent]; simp
    have params : t.params = s.params := by rw [← ent, State.params]; simp [State.params]
    have stage : t.fire.stage = g := by
      rw [← ent]
      simp [State.modFire, FireUnit.enter]
    intro c a
    obtain ⟨few, chosen⟩ := h c a
    rw [State.chain, chains, params, stage]
    refine ⟨few, fun some => ?_⟩
    obtain ⟨current, cool, below⟩ := chosen some
    refine ⟨current, cool, Bool.eq_false_iff.2 fun high => quiet ?_⟩
    simp [raised, high, below]

theorem State.passes_balanced (h : s.balanced) : s.passes.balanced := by
  refine State.passes_keeps (P := State.balanced) (fun _ n h => h) (fun t v code ht => ?_) (fun t v code e he u hu => ?_)
    (fun t h => h) h
  · obtain ⟨u, e', ⟨g, -, -, e⟩ | ⟨e, -⟩⟩ := t.decidePass_cases v code <;> rw [e]
    all_goals
      have judged : u.balanced :=
        State.balanced_of_same (by rw [e']; simp) (by rw [e', State.params]; simp [State.params])
          (by rw [e']; exact t.judged_stage v code) ht
    · exact State.enterStage_balanced judged g
    · exact judged
  · obtain ⟨w, entry, rfl | ⟨c, rfl⟩ | rfl | rfl⟩ := State.mem_decidePass_effects he <;>
      exact State.balanced_of_same (by simp [State.fsEffect]) (by simp [State.fsEffect, State.params])
        (by simp [State.fsEffect]) hu

theorem State.changeStage_balanced (h : s.balanced) (g : FireStage) : (s.changeStage g).balanced := by
  refine State.takeAll_keeps (P := State.balanced) (fun _ n h => h) (fun e he u hu => ?_) (State.enterStage_balanced h g)
  obtain ⟨w, entry, rfl | ⟨c, rfl⟩ | rfl | rfl⟩ := State.mem_changeStage_effects he <;>
    exact State.balanced_of_same (by simp [State.fsEffect]) (by simp [State.fsEffect, State.params])
      (by simp [State.fsEffect]) hu

end

/-! ## Parameters and resets -/

/-- R172: a number above 57 is no parameter's. -/
theorem Params.set_unknown (p : Params) (n : Nat) (v : ParamValue) : p.set (n + 58) v = p := by
  cases v <;> rfl

/-- R172: a parameter other than the ceiling leaves the ceiling. -/
theorem Params.set_balCeiling (p : Params) {n : Nat} (h : n ≠ 12) (v : ParamValue) :
    (p.set n v).balCeiling = p.balCeiling := by
  rcases Nat.lt_or_ge 57 n with unknown | known
  · obtain ⟨m, rfl⟩ := Nat.exists_eq_add_of_le' unknown
    rw [Params.set_unknown]
  · rcases Nat.lt_or_gt_of_ne h with below | above
    · interval_cases n <;> cases v <;> rfl
    · interval_cases n <;> cases v <;> rfl

section
variable {s : State}

/-- R36: what the acting on a new ceiling makes of sets that were sound under the old one. -/
theorem State.ceilingWritten_balanced {old : Int} (h : ∀ c, (s.chain c).balanced old s.fire.stage) :
    s.ceilingWritten.balanced := fun c => by
  have chain : s.ceilingWritten.chain c = (s.chain c).applyCeiling s.params.balCeiling := by
    unfold State.ceilingWritten
    cases c <;> simp [State.modChain_chain]
  have stage : s.ceilingWritten.fire.stage = s.fire.stage := by simp
  have params : s.ceilingWritten.params = s.params := by simp [State.params]
  rw [chain, params, stage]
  exact Chain.applyCeiling_balanced (h c) _

/-- R36: a new ceiling is acted on at once. -/
theorem State.storeParam_balanced (h : s.balanced) (n : Nat) (v : ParamValue) : (s.storeParam n v).balanced := by
  unfold State.storeParam
  split
  · exact h
  · dsimp only
    split
    · exact State.ceilingWritten_balanced fun c => h c
    · next other => exact State.balanced_of_same (s := s) rfl (Params.set_balCeiling s.params other v) rfl h

theorem State.startReset_unbalanced (s : State) (kind : ResetKind) (phase : Phase) (c : Str) :
    ((s.startReset kind phase).chain c).unbalanced := by
  cases c <;> exact Chain.atReset_unbalanced _

/-- R36: what the completion of a reset makes of a part without balance sets. -/
theorem State.completeReset_balanced (h : ∀ c, (s.chain c).unbalanced) : s.completeReset.balanced := by
  have ready : s.ready.balanced := State.balanced_of_unbalanced fun c => by
    cases c
    · exact h .one
    · exact h .two
  have first : (s.ready.firstDue .one).balanced := State.firstDue_balanced ready .one
  have second : ((s.ready.firstDue .one).firstDue .two).balanced := State.firstDue_balanced first .two
  exact State.balanced_of_same (by simp [State.completeReset]) (by simp [State.completeReset, State.params])
    (by simp [State.completeReset]) second

/-- R176: the completion of a reset leaves the part running. -/
theorem State.completeReset_phase (s : State) : s.completeReset.phase = .running := by
  simp [State.completeReset, State.ready]

/-- A part that is not running serves no request. -/
theorem State.serve_stopped (h : s.phase ≠ .running) (l : Link) (r : Request) (block : State → State × Served) :
    s.serve l r block = s :=
  State.serve_unservable (by simp [State.canServe, h]) block

end

/-! ## The obligation -/

/-- R36: every command keeps the requested sets sound. -/
theorem exec_balanced (i : Instr) (s t : State) (hs : s.balanceKept) (h : exec i s = .next t) : t.balanced := by
  obtain ⟨sound, stopped⟩ := hs
  have links (t : State) (l : Link) (f : LinkState → LinkState) (ht : t.balanced) : (t.modLink l f).balanced := ht
  by_cases apart : Part.chains ∉ changedBy i ∧ Part.config ∉ changedBy i ∧ Part.fire ∉ changedBy i
  case pos =>
    have chains : t.chains = s.chains := exec_same h (p := .chains) apart.1
    have config : t.config = s.config := exec_same h (p := .config) apart.2.1
    have fire : t.fire = s.fire := exec_same h (p := .fire) apart.2.2
    exact State.balanced_of_same chains (congrArg (·.working.balCeiling) config) (congrArg (·.stage) fire) sound
  cases i
  case isolationTimerExpiry =>
    obtain rfl : _ = t := Host.Outcome.next.inj h
    unfold isolationTimerExpiry State.isolationExpired
    repeat' split
    all_goals exact State.balanced_of_same (s := s) (by simp) (by simp [State.params]) (by simp [State.modFire]) sound
  case commit l q payload =>
    obtain rfl : _ = t := Host.Outcome.next.inj h
    refine State.serve_keeps links sound ?_
    unfold noPayload commitBlock
    repeat' split
    all_goals exact sound
  case commitComplete =>
    obtain rfl : _ = t := Host.Outcome.next.inj h
    have answered (t : State) (ht : t.balanced) : t.answerCommit.balanced := by
      unfold State.answerCommit
      split
      · exact State.balanced_of_same (by simp) (by simp [State.params]) (by simp) ht
      · exact ht
    unfold commitComplete State.completeWrite
    split
    · next p _ =>
      have written : (s.modConfig fun k => k.written p).balanced := State.balanced_of_same (s := s) rfl rfl rfl sound
      refine answered _ ?_
      split
      · exact State.balanced_of_same (by simp) (by simp [State.params]) (by simp) written
      · exact written
    · exact sound
  case chainReply c r =>
    obtain rfl : _ = t := Host.Outcome.next.inj h
    unfold chainReply
    split
    · split
      · exact State.endTransaction_balanced sound c _ _
      · exact sound
    · exact sound
  case replyTimeout c =>
    obtain rfl : _ = t := Host.Outcome.next.inj h
    unfold replyTimeout
    split
    · split
      · exact State.endTransaction_balanced (s := s.atTime _) sound c _ _
      · exact sound
    · exact sound
  case readingAgeTick =>
    obtain rfl : _ = t := Host.Outcome.next.inj h
    unfold readingAgeTick
    have aged (t : State) (c : Str) (ht : t.balanced) : (t.modChain c Chain.ageSecond).balanced :=
      State.modChain_balanced ht c fun _ hk => Chain.ageSecond_balanced hk
    split
    · exact aged _ .two (aged _ .one (State.balanced_of_same (s := s) rfl rfl rfl sound))
    · exact sound
  case cycleDue c =>
    obtain rfl : _ = t := Host.Outcome.next.inj h
    unfold cycleDue
    split
    · split
      · exact State.firstDue_balanced (s := s.atTime _) sound c
      · exact sound
    · exact sound
  case unfittedCheck c =>
    obtain rfl : _ = t := Host.Outcome.next.inj h
    unfold unfittedCheck State.checkUnfitted
    split
    · split
      · split
        · exact State.firstDue_balanced (s := s.atTime _) sound c
        · exact State.modChain_balanced_same (s := s.atTime _) sound c fun _ => rfl
      · exact sound
    · exact sound
  case probeModule l q payload =>
    obtain rfl : _ = t := Host.Outcome.next.inj h
    refine State.serve_keeps links sound ?_
    split
    · exact State.probe_balanced sound _ _ _
    · exact sound
  case fireEvaluation loops gas1 gas2 =>
    obtain rfl : _ = t := Host.Outcome.next.inj h
    unfold fireEvaluation
    split
    · exact State.passes_balanced (State.balanced_of_same (by simp) (by simp [State.params]) (by simp) sound)
    · exact sound
  case resetFire l q payload =>
    obtain rfl : _ = t := Host.Outcome.next.inj h
    refine State.serve_keeps links sound ?_
    unfold noPayload
    split
    · rcases resetFireBlock_cases s with e | ⟨-, -, e⟩ <;> rw [e]
      · exact sound
      · exact State.changeStage_balanced sound .normal
    · exact sound
  case setParam l q payload =>
    obtain rfl : _ = t := Host.Outcome.next.inj h
    refine State.serve_keeps links sound ?_
    unfold setParamBlock
    split
    · exact sound
    · split
      · exact sound
      · exact State.storeParam_balanced sound _ _
  case siteResetStart =>
    obtain rfl : _ = t := Host.Outcome.next.inj h
    unfold siteResetStart
    split
    · exact State.completeReset_balanced (s.startReset_unbalanced _ _)
    · exact sound
  case powerOn =>
    obtain rfl : _ = t := Host.Outcome.next.inj h
    unfold powerOn
    split
    · exact State.balanced_of_unbalanced (s.startReset_unbalanced _ _)
    · exact sound
  case resetLineAssert =>
    obtain rfl : _ = t := Host.Outcome.next.inj h
    unfold resetLineAssert
    repeat' split
    case isTrue | isFalse.isTrue => exact sound
    case isFalse.isFalse =>
      exact State.balanced_of_unbalanced (State.startReset_unbalanced { s with resetLine := true } _ _)
  case startUpLoadComplete =>
    obtain rfl : _ = t := Host.Outcome.next.inj h
    unfold startUpLoadComplete
    split
    · next loading =>
      exact State.completeReset_balanced (s := s.modConfig ConfigStore.load) (stopped (by rw [loading]; decide))
    · exact sound
  case lossOfSupply =>
    obtain rfl : _ = t := Host.Outcome.next.inj h
    unfold lossOfSupply
    split
    · exact sound
    · exact State.balanced_of_unbalanced (s.startReset_unbalanced _ _)
  all_goals exact absurd (by simp [changedBy]) apart

/-- A part that is not running has no balance set, and no command gives it one. -/
theorem exec_unbalanced (i : Instr) (s t : State) (hs : s.balanceKept) (h : exec i s = .next t)
    (stopped : t.phase ≠ .running) (c : Str) : (t.chain c).unbalanced := by
  obtain ⟨-, unset⟩ := hs
  by_cases stays : Part.phase ∉ changedBy i
  case pos =>
    have before : s.phase ≠ .running := by rwa [← exec_same h (p := .phase) stays]
    have same : t.chains = s.chains := by
      by_cases apart : Part.chains ∉ changedBy i
      · exact exec_same h (p := .chains) apart
      · cases i
        case chainReply | replyTimeout | readingAgeTick | cycleDue | unfittedCheck | fireEvaluation =>
          obtain rfl : _ = t := Host.Outcome.next.inj h
          simp [chainReply, replyTimeout, readingAgeTick, cycleDue, unfittedCheck, fireEvaluation, before]
        case probeModule | resetFire | setParam =>
          obtain rfl : _ = t := Host.Outcome.next.inj h
          exact congrArg State.chains (State.serve_stopped before _ _ _)
        case siteResetStart | powerOn | resetLineAssert | startUpLoadComplete | lossOfSupply =>
          exact absurd (by simp [changedBy]) stays
        all_goals exact absurd (by simp [changedBy]) apart
    rw [State.chain, same]
    exact unset before c
  cases i
  case siteResetStart =>
    obtain rfl : _ = t := Host.Outcome.next.inj h
    unfold siteResetStart at stopped ⊢
    split
    · next due => exact absurd (State.completeReset_phase _) (by rwa [if_pos due] at stopped)
    · next idle =>
      rw [if_neg idle] at stopped
      exact unset stopped c
  case powerOn =>
    obtain rfl : _ = t := Host.Outcome.next.inj h
    unfold powerOn at stopped ⊢
    split
    · exact s.startReset_unbalanced _ _ c
    · next on => exact unset (by rwa [if_neg on] at stopped) c
  case resetLineAssert =>
    obtain rfl : _ = t := Host.Outcome.next.inj h
    unfold resetLineAssert at stopped ⊢
    repeat' split
    case isTrue => exact unset (by simp_all) c
    case isFalse.isTrue => exact unset (by simp_all) c
    case isFalse.isFalse => exact State.startReset_unbalanced { s with resetLine := true } _ _ c
  case startUpLoadComplete =>
    obtain rfl : _ = t := Host.Outcome.next.inj h
    unfold startUpLoadComplete at stopped ⊢
    split
    · next loading => exact absurd (State.completeReset_phase _) (by rwa [if_pos loading] at stopped)
    · next idle => exact unset (by rwa [if_neg idle] at stopped) c
  case lossOfSupply =>
    obtain rfl : _ = t := Host.Outcome.next.inj h
    unfold lossOfSupply
    split
    · next off => exact unset (by rw [off]; decide) c
    · exact s.startReset_unbalanced _ _ c
  case resetLineRelease =>
    obtain rfl : _ = t := Host.Outcome.next.inj h
    refine unset (fun running => stopped ?_) c
    simp [resetLineRelease, running]
  all_goals exact absurd (by simp [changedBy]) stays

/-- Settles O19: what every command keeps, a step keeps. -/
theorem stepKeepsBalanceSets : Obligations.StepKeepsBalanceSets := by
  unfold Obligations.StepKeepsBalanceSets
  intro s t hs h
  refine step_keeps (P := State.balanceKept) (fun _ _ h => h) (fun _ _ h => h) (fun i s t hs h => ?_) hs h
  exact ⟨exec_balanced i s t hs h, fun stopped => exec_unbalanced i s t hs h stopped⟩

end Sys2Proof.Machine
end

-- ==== Proofs: only JOIN-STRING engages a string ====
section
namespace Sys2Proof.Machine

/-! ## How far a string is engaged (R44) -/

/-- R44: OPEN and LOCKED are apart, OPENING on the way there, PRECHARGE and JOINED fully engaged. -/
def StringState.engagement : StringState → Nat
  | .opened => 0
  | .locked _ => 0
  | .opening _ _ => 1
  | .precharge _ => 2
  | .joined => 2

theorem StringState.engagement_apart (g : StringState) : g.engagement = 0 ↔ g.apart = true := by
  cases g <;> simp [StringState.engagement, StringState.apart]

theorem StringState.engagement_full (g : StringState) :
    g.engagement = 2 ↔ g.name = .precharge ∨ g.name = .joined := by
  cases g <;> simp [StringState.engagement, StringState.name]

theorem StringState.engagement_le (g : StringState) : g.engagement ≤ 2 := by
  cases g <;> simp [StringState.engagement]

/-- No string is more engaged than it was. -/
structure State.Loosens (s t : State) : Prop where
  le : ∀ c, (t.string c).state.engagement ≤ (s.string c).state.engagement

/-- R61: at the start of a reset every string is apart. -/
theorem State.startReset_engagement (s : State) (kind : ResetKind) (phase : Phase) (c : Str) :
    ((s.startReset kind phase).string c).state.engagement = 0 := by
  have apart (k : StringController) : (k.atReset kind).state.engagement = 0 := by
    rw [StringState.engagement_apart]
    show (k.state.afterReset kind).apart = true
    unfold StringState.afterReset
    split
    · rfl
    · split <;> rfl
  cases c <;> exact apart _

namespace State.Loosens
variable {s t u : State}

theorem refl (s : State) : s.Loosens s := ⟨fun _ => le_rfl⟩

theorem trans (h : s.Loosens t) (h' : t.Loosens u) : s.Loosens u := ⟨fun c => (h'.le c).trans (h.le c)⟩

theorem of_strings (h : t.strings = s.strings) : s.Loosens t := ⟨fun c => by rw [State.string, State.string, h]⟩

theorem setString (s : State) (c : Str) {new : StringState} (h : new.engagement ≤ (s.string c).state.engagement) :
    s.Loosens (s.setString c new) := ⟨fun d => by
  rw [State.setString_state]
  split
  · next e => exact e ▸ h
  · exact le_rfl⟩

theorem setString_apart (s : State) (c : Str) {new : StringState} (h : new.apart = true) :
    s.Loosens (s.setString c new) :=
  setString s c (by rw [(StringState.engagement_apart new).2 h]; exact Nat.zero_le _)

theorem modString (s : State) (c : Str) {f : StringController → StringController} (h : ∀ k, (f k).state = k.state) :
    s.Loosens (s.modString c f) := ⟨fun d => by
  rw [State.modString_string]
  split
  · rw [h]
  · exact le_rfl⟩

theorem modChain (s : State) (c : Str) (f : Chain → Chain) : s.Loosens (s.modChain c f) := of_strings rfl

theorem atTime (s : State) (n : Nat) : s.Loosens (s.atTime n) := of_strings rfl

theorem countTrip (s : State) (c : Str) (k : LockCause) : s.Loosens (s.countTrip c k) := of_strings (by simp)

theorem protect (s : State) (c : Str) (k : LockCause) : s.Loosens (s.protect c k) := by
  unfold State.protect
  split
  · next joined =>
    split
    · refine (countTrip s c .excursion).trans (setString _ c ?_)
      simp [State.string, StringState.engagement] at joined ⊢
      rw [joined]
      exact Nat.le_succ 1
    · exact setString s c (by rw [joined]; exact Nat.le_succ 1)
  · next opening => exact setString s c (by rw [opening]; exact le_rfl)
  · exact refl s
  · exact setString_apart s c rfl
  · next handover => exact setString s c (by rw [handover]; exact Nat.le_succ 1)
  · exact setString_apart s c rfl
  · exact refl s

theorem unitLost (s : State) (c : Str) : s.Loosens (s.unitLost c) := by
  unfold State.unitLost
  split
  · next joined => exact setString s c (by rw [joined]; exact Nat.le_succ 1)
  · exact setString_apart s c rfl
  · next handover => exact setString s c (by rw [handover]; exact Nat.le_succ 1)
  · exact refl s

theorem finishOpening (s : State) (c : Str) : s.Loosens (s.finishOpening c) := by
  unfold State.finishOpening
  split
  · next finish _ _ => exact setString_apart s c (by cases finish <;> rfl)
  · exact refl s

theorem checkExcursion (s : State) (c : Str) : s.Loosens (s.checkExcursion c) := by
  unfold State.checkExcursion
  dsimp only
  have counted : s.Loosens (s.modStats c fun x => { x with excursions := countUp x.excursions }) := of_strings rfl
  split
  · split
    · exact (counted.trans (protect _ c _)).trans (modString _ c fun _ => rfl)
    · exact counted.trans (modString _ c fun _ => rfl)
  · exact modString s c fun _ => rfl

theorem compareFeedback (s : State) (c : Str) : s.Loosens (s.compareFeedback c) := by
  unfold State.compareFeedback
  dsimp only
  repeat' split
  · exact modString s c fun _ => rfl
  · exact refl s
  · have noted : s.Loosens (s.modString c fun k => { k with disagreement := true }) := modString s c fun _ => rfl
    exact noted.trans (of_strings (by simp))

theorem stringHeadReply (s : State) (c : Str) : s.Loosens (s.stringHeadReply c) := by
  refine (compareFeedback s c).trans ?_
  unfold State.stringHeadReply
  generalize s.compareFeedback c = t
  unfold State.stateHeadReply
  split
  · next matching =>
    split
    · exact setString t c (by rw [matching]; exact le_rfl)
    · exact refl t
  · split
    · exact finishOpening t c
    · exact refl t
  · exact checkExcursion t c
  · exact refl t

theorem release (s : State) (c : Str) : s.Loosens (s.release c) := by
  unfold State.release
  split
  · exact setString_apart s c rfl
  · next joined => exact setString s c (by rw [joined]; exact Nat.le_succ 1)
  · exact refl s

theorem clearLock (s : State) (c : Str) : s.Loosens (s.clearLock c).1 := by
  unfold State.clearLock
  repeat' split
  · exact refl s
  · exact setString_apart s c rfl
  · exact refl s
  · exact refl s

theorem checkLocks (s : State) (c : Str) (k : LockCause) : s.Loosens (s.checkLocks c k) := by
  unfold State.checkLocks
  repeat' split
  · exact (countTrip s c _).trans (setString_apart _ c rfl)
  · exact refl s
  · exact (countTrip s c _).trans (setString_apart _ c rfl)

theorem judgeCheck (s : State) (c : Str) : s.Loosens (s.judgeCheck c) := by
  unfold State.judgeCheck
  split
  · split
    · next handover => exact setString s c (by rw [handover]; exact le_rfl)
    · exact refl s
  · exact checkLocks s c _
  · exact checkLocks s c _

theorem inAnyOrder {effects : List (State → State)} (h : ∀ f ∈ effects, ∀ t : State, t.Loosens (f t)) (s : State) :
    s.Loosens (s.inAnyOrder effects) :=
  State.inAnyOrder_keeps (P := s.Loosens) (fun _ _ ht => ⟨ht.le⟩) (fun f hf t ht => ht.trans (h f hf t)) (refl s)

theorem cycleComplete (s : State) (c : Str) : s.Loosens (s.cycleComplete c) := by
  unfold State.cycleComplete
  dsimp only
  split
  · exact of_strings (by simp)
  · next cause _ =>
    refine State.Loosens.trans (t := State.countTrip _ c cause) (of_strings (by simp)) (inAnyOrder (fun f hf t => ?_) _)
    rcases List.mem_pair.1 hf with rfl | rfl
    · exact protect t c cause
    · exact of_strings (by simp)

theorem forceOpen (s : State) (c : Str) : s.Loosens (s.forceOpen c) := by
  unfold State.forceOpen
  split
  · exact refl s
  · exact setString_apart s c rfl

/-- R112: what is handed on of a fire stage loosens at most. -/
theorem fireEffect {e : FireEffect}
    (h : ∃ (t : State) (entry : Bool), e = t.fsEffect ∨ (∃ c, e = (.string c, fun t => t.forceOpen c))
      ∨ e = (.permit, State.forcedTrip) ∨ e = (.plant, fun t => t.plantStageChange entry)) (s : State) :
    s.Loosens (e.2 s) := by
  obtain ⟨t, entry, rfl | ⟨c, rfl⟩ | rfl | rfl⟩ := h
  · exact of_strings (by simp [State.fsEffect])
  · exact forceOpen s c
  · exact of_strings (by simp)
  · exact of_strings (by simp)

theorem passes (s : State) : s.Loosens s.passes :=
  State.passes_keeps (P := s.Loosens) (fun _ _ h => ⟨h.le⟩)
    (fun t v code ht => by
      obtain ⟨u, e', ⟨g, -, -, e⟩ | ⟨e, -⟩⟩ := t.decidePass_cases v code <;> rw [e, e'] <;>
        exact ht.trans (of_strings (by simp)))
    (fun t v code e he u hu => hu.trans (fireEffect (State.mem_decidePass_effects he) u)) (fun t h => ⟨h.le⟩) (refl s)

theorem changeStage (s : State) (g : FireStage) : s.Loosens (s.changeStage g) :=
  State.takeAll_keeps (P := s.Loosens) (fun _ _ h => ⟨h.le⟩)
    (fun e he u hu => hu.trans (fireEffect (State.mem_changeStage_effects he) u)) (of_strings (by simp))

theorem startReset (s : State) (kind : ResetKind) (phase : Phase) : s.Loosens (s.startReset kind phase) := ⟨fun c => by
  rw [State.startReset_engagement]
  exact Nat.zero_le _⟩

theorem completeReset (s : State) : s.Loosens s.completeReset := by
  refine ⟨fun c => le_of_eq ?_⟩
  rw [State.completeReset]
  simp only [State.string, State.noteSiteCode_frame, State.judgeBreaker_frame, State.reportFault_frame, State.post_frame, State.firstDue_frame]
  cases c <;> rfl

theorem judgeLoss (s : State) (c : Str) (u : ChainUnit) (before : UnitStatus) : s.Loosens (s.judgeLoss c u before) := by
  unfold State.judgeLoss
  dsimp only
  split
  · exact (unitLost s c).trans (of_strings (by simp))
  · exact refl s

theorem applyOutcome (s : State) (c : Str) (u : ChainUnit) (r : Option Reply) : s.Loosens (s.applyOutcome c u r) := by
  have head (i v b : Int) (m p : Contact) : s.Loosens (s.headGood c i v b m p) := by
    unfold State.headGood
    dsimp only
    refine State.Loosens.trans (t := State.modStats _ c _) (of_strings (by simp)) (inAnyOrder (fun f hf t => ?_) _)
    rcases List.mem_pair.1 hf with rfl | rfl
    · exact stringHeadReply t c
    · exact of_strings (by simp)
  unfold State.applyOutcome State.applyGood
  split
  · split
    · exact head _ _ _ _ _
    · exact of_strings (by simp)
    · exact refl s
  · exact (modChain s c fun k => k.lose u _).trans (judgeLoss _ c u _)

theorem endTransaction (s : State) (c : Str) (x : Transaction) (r : Option Reply) :
    s.Loosens (s.endTransaction c x r) := by
  have advanced (t : State) (u : ChainUnit) : t.Loosens (t.advance c u) := by
    unfold State.advance State.completeCycle
    dsimp only
    split
    · exact of_strings rfl
    · have completed := (modChain t c fun k => { k with cycle := .waiting, nextUnit := .head, firstDone := true }).trans
        (cycleComplete _ c)
      split
      · exact completed.trans (of_strings (by simp))
      · exact completed
  have applied (t : State) (ht : s.Loosens t) (b : Bool) :
      s.Loosens (if b then t.applyOutcome c x.addressed r else t) := by
    split
    · exact ht.trans (applyOutcome t c _ r)
    · exact ht
  unfold State.endTransaction
  refine State.Loosens.trans (t := s.concludeTransaction c x r) ?_ (of_strings rfl)
  unfold State.concludeTransaction
  dsimp only
  have ended := applied ((s.modChain c fun k => { k with inFlight := none }).countMiss c (classify x.addressed r))
    (of_strings (by simp)) ((s.chain c).stillFitted x.addressed)
  split
  · exact ended.trans (of_strings (by simp))
  · exact ended
  · exact ended.trans (advanced _ _)

end State.Loosens

/-! ## Every command but JOIN-STRING -/

theorem State.Loosens.modLink (s : State) (l : Link) (f : LinkState → LinkState) : s.Loosens (s.modLink l f) :=
  .of_strings rfl

/-- R46: no command but JOIN-STRING engages a string further. -/
theorem exec_loosens {i : Instr} {s t : State} (h : exec i s = .next t) (hi : ∀ l n payload, i ≠ .joinString l n payload) :
    s.Loosens t := by
  by_cases same : Part.strings ∉ changedBy i
  case pos => exact .of_strings (exec_same h (p := .strings) same)
  have links (t : State) (l : Link) (f : LinkState → LinkState) (ht : s.Loosens t) : s.Loosens (t.modLink l f) :=
    ht.trans (.of_strings rfl)
  cases i
  all_goals try obtain rfl : _ = t := Host.Outcome.next.inj h
  case joinString => exact absurd rfl (hi _ _ _)
  case chainReply c r =>
    unfold chainReply
    split
    · split
      · exact .endTransaction ..
      · exact .refl s
    · exact .refl s
  case replyTimeout c =>
    unfold replyTimeout
    split
    · split
      · exact (State.Loosens.atTime s _).trans (.endTransaction ..)
      · exact .refl s
    · exact .refl s
  case releaseString l n payload =>
    refine State.serve_keeps links (.refl s) ?_
    unfold onString
    split
    · exact .release ..
    · exact .refl s
  case clearLockString l n payload =>
    unfold clearLockString
    split
    · exact .refl s
    · refine State.serve_keeps links (.refl s) ?_
      unfold onString
      split
      · exact .clearLock ..
      · exact .refl s
  case openingTimerExpiry c =>
    unfold openingTimerExpiry
    split
    · exact (State.Loosens.atTime s _).trans (.finishOpening ..)
    · exact .refl s
  case prechargeTimerExpiry c =>
    unfold prechargeTimerExpiry
    split
    · exact State.Loosens.trans (t := State.countTrip (s.atTime _) c _) (.of_strings (by simp)) (.setString_apart _ c rfl)
    · exact .refl s
  case feedbackInputChange c w level =>
    unfold feedbackInputChange
    split
    · exact .refl s
    · exact .modString s c fun k => by cases w <;> rfl
  case feedbackCheck c =>
    unfold feedbackCheck
    have unchecked (t : State) : t.Loosens (t.modString c fun k => { k with check := none }) := .modString t c fun _ => rfl
    split
    · split
      · exact ((State.Loosens.atTime s _).trans (unchecked _)).trans (.judgeCheck ..)
      · exact .refl s
    · exact .refl s
  case fireEvaluation loops gas1 gas2 =>
    unfold fireEvaluation
    split
    · exact State.Loosens.trans (t := State.sampleGas _ gas1 gas2) (.of_strings (by simp)) (.passes _)
    · exact .refl s
  case resetFire l n payload =>
    refine State.serve_keeps links (.refl s) ?_
    unfold noPayload
    split
    · rcases resetFireBlock_cases s with e | ⟨-, -, e⟩ <;> rw [e]
      · exact .refl s
      · exact .changeStage s .normal
    · exact .refl s
  case siteResetStart =>
    unfold siteResetStart
    split
    · exact (State.Loosens.startReset s _ _).trans (.completeReset _)
    · exact .refl s
  case powerOn =>
    unfold powerOn
    split
    · exact .startReset s _ _
    · exact .refl s
  case resetLineAssert =>
    have asserted : s.Loosens { s with resetLine := true } := .of_strings rfl
    unfold resetLineAssert
    repeat' split
    case isTrue => exact .refl s
    case isFalse.isTrue => exact asserted
    case isFalse.isFalse => exact asserted.trans (.startReset _ _ _)
  case startUpLoadComplete =>
    unfold startUpLoadComplete
    split
    · exact State.Loosens.trans (t := s.modConfig ConfigStore.load) (.of_strings rfl) (.completeReset _)
    · exact .refl s
  case lossOfSupply =>
    unfold lossOfSupply
    split
    · exact .refl s
    · exact .startReset s _ _
  all_goals exact absurd (by simp [changedBy]) same

end Sys2Proof.Machine
end

-- ==== Proofs: an engaged string has every unit CURRENT ====
section
namespace Sys2Proof.Machine

/-! ## The records and the course of a chain -/

theorem Chain.fitted_congr {k j : Chain} (range : j.range = k.range) (cycle : j.cycle = k.cycle) (a : Addr) :
    j.fitted a = k.fitted a := by
  rw [Chain.fitted, Chain.fitted, range, cycle]

theorem Chain.mem_fittedModules {k : Chain} {a : Addr} {m : ModuleRecord} :
    (a, m) ∈ k.fittedModules ↔ k.fitted a = true ∧ m = k.modules[a] := by
  simp only [Chain.fittedModules, List.mem_filterMap, List.mem_finRange, true_and]
  constructor
  · rintro ⟨b, found⟩
    split at found
    · next fitted =>
      cases found
      exact ⟨fitted, rfl⟩
    · cases found
  · rintro ⟨fitted, rfl⟩
    exact ⟨a, by rw [if_pos fitted]⟩

/-- R46: the head record and every fitted module record are CURRENT. -/
theorem Chain.allCurrent_iff {k : Chain} :
    k.allCurrent = true ↔ k.head.status = .current ∧ ∀ a, k.fitted a = true → (k.modules[a]).status = .current := by
  simp only [Chain.allCurrent, Bool.and_eq_true, beq_iff_eq, List.all_eq_true, Prod.forall, Chain.mem_fittedModules]
  refine and_congr_right fun _ => ⟨fun all a fitted => all a _ ⟨fitted, rfl⟩, ?_⟩
  rintro all a m ⟨fitted, rfl⟩
  exact all a fitted

/-- The range, the cycle state and the transaction in flight stand. -/
structure Chain.SameCourse (k j : Chain) : Prop where
  range : j.range = k.range
  cycle : j.cycle = k.cycle
  inFlight : j.inFlight = k.inFlight

/-- The course stands, and no unit loses its CURRENT status; the head becomes CURRENT only on a fitted chain. -/
structure Chain.Mends (k j : Chain) : Prop extends k.SameCourse j where
  head : j.head.status = k.head.status ∨ (j.head.status = .current ∧ k.cycle ≠ .unfitted)
  modules : ∀ a : Addr, (j.modules[a]).status = (k.modules[a]).status ∨ (j.modules[a]).status = .current

theorem Chain.Mends.allCurrent {k j : Chain} (h : k.Mends j) (all : k.allCurrent = true) : j.allCurrent = true := by
  rw [Chain.allCurrent_iff] at all ⊢
  obtain ⟨head, modules⟩ := all
  refine ⟨h.head.elim (fun e => e.trans head) And.left, fun a fitted => ?_⟩
  rw [Chain.fitted_congr h.range h.cycle] at fitted
  exact (h.modules a).elim (fun e => e.trans (modules a fitted)) id

theorem Chain.Mends.refl (k : Chain) : k.Mends k := ⟨⟨rfl, rfl, rfl⟩, .inl rfl, fun _ => .inl rfl⟩

theorem Chain.Mends.trans {i k j : Chain} (h : i.Mends k) (h' : k.Mends j) : i.Mends j := by
  refine ⟨⟨h'.range.trans h.range, h'.cycle.trans h.cycle, h'.inFlight.trans h.inFlight⟩, ?_, fun a => ?_⟩
  · rcases h'.head with e | ⟨e, fitted⟩
    · exact h.head.imp e.trans (And.imp_left e.trans)
    · exact .inr ⟨e, h.cycle ▸ fitted⟩
  · rcases h'.modules a with e | e
    · exact (h.modules a).imp e.trans e.trans
    · exact .inr e

/-- A change of the records that leaves the statuses. -/
theorem Chain.Mends.of_modules {k : Chain} {modules : Vector ModuleRecord 12}
    (h : ∀ a : Addr, (modules[a]).status = (k.modules[a]).status) : k.Mends { k with modules := modules } :=
  ⟨⟨rfl, rfl, rfl⟩, .inl rfl, fun a => .inl (h a)⟩

theorem Chain.emptySets_mends (k : Chain) : k.Mends k.emptySets :=
  .of_modules fun a => by
    simp only [vmap_get]
    rfl

theorem Chain.emptyFittedSets_mends (k : Chain) : k.Mends k.emptyFittedSets :=
  .of_modules fun a => by
    simp only [vmapIdx_get]
    split <;> rfl

theorem Chain.applyCeiling_mends (k : Chain) (ceiling : Int) : k.Mends (k.applyCeiling ceiling) :=
  .of_modules fun a => by
    simp only [vmap_get]
    split <;> rfl

theorem Chain.ageSecond_mends (k : Chain) : k.Mends k.ageSecond := by
  refine ⟨⟨rfl, rfl, rfl⟩, .inl ?_, fun a => .inl ?_⟩
  · simp only [Chain.ageSecond]
    split <;> rfl
  · simp only [Chain.ageSecond, vmapIdx_get]
    split <;> rfl

/-! ## What keeps R45 -/

section
variable {s t : State} {c : Str}

theorem State.unitsCurrent_iff : s.unitsCurrent c ↔
    ((s.string c).state.engagement = 2 → (s.chain c).allCurrent = true) := by
  rw [State.unitsCurrent, StringState.engagement_full]

/-- A change that leaves the course of the chain, and no string more engaged. -/
theorem State.UnitsKept.of_course (h : s.UnitsKept c) (course : (s.chain c).SameCourse (t.chain c)) (loose : s.Loosens t)
    (phase : t.phase = s.phase) (current : t.unitsCurrent c)
    (head : (t.chain c).head.status = .current → (s.chain c).head.status = .current ∨ (s.chain c).cycle ≠ .unfitted) :
    t.UnitsKept c := by
  have apart (apart : (s.string c).state.apart = true) : (t.string c).state.apart = true := by
    rw [← StringState.engagement_apart] at apart ⊢
    exact Nat.le_zero.1 (apart ▸ loose.le c)
  refine ⟨current, fun x flying scan => ?_, fun x flying => ?_, fun unfitted => ?_, fun stopped => ?_⟩
  · rw [course.inFlight] at flying
    rw [course.cycle]
    exact h.scan x flying scan
  · rw [course.inFlight] at flying
    exact h.probe x flying
  · rw [course.cycle] at unfitted
    obtain ⟨was, dark⟩ := h.unfitted unfitted
    exact ⟨apart was, fun lit => (head lit).elim dark (absurd unfitted)⟩
  · rw [phase] at stopped
    obtain ⟨was, idle⟩ := h.stopped stopped
    exact ⟨apart was, by rw [course.inFlight, idle]⟩

/-- A change by which no unit loses its CURRENT status, and no string is more engaged. -/
theorem State.UnitsKept.of_mends (h : s.UnitsKept c) (mends : (s.chain c).Mends (t.chain c)) (loose : s.Loosens t)
    (phase : t.phase = s.phase) : t.UnitsKept c := by
  refine h.of_course mends.toSameCourse loose phase ?_ fun lit => ?_
  · rw [State.unitsCurrent_iff]
    intro engaged
    have before : (s.string c).state.engagement = 2 :=
      le_antisymm (StringState.engagement_le _) (engaged ▸ loose.le c)
    exact mends.allCurrent (State.unitsCurrent_iff.1 h.current before)
  · exact mends.head.imp (fun e => e.symm.trans lit) And.right

theorem State.UnitsKept.of_same (h : s.UnitsKept c) (chain : t.chain c = s.chain c) (loose : s.Loosens t)
    (phase : t.phase = s.phase) : t.UnitsKept c := h.of_mends (chain ▸ .refl _) loose phase

/-- A string that is apart. -/
theorem State.UnitsKept.of_apart (apart : (t.string c).state.apart = true)
    (scan : ∀ x, (t.chain c).inFlight = some x → x.kind = .scan → (t.chain c).cycle = .running)
    (probe : ∀ x, (t.chain c).inFlight = some x → x.kind = .probe → x.addressed ≠ .head)
    (unfitted : (t.chain c).cycle = .unfitted → (t.chain c).head.status ≠ .current)
    (stopped : t.phase ≠ .running → (t.chain c).inFlight = none) : t.UnitsKept c := by
  refine ⟨State.unitsCurrent_iff.2 fun engaged => ?_, scan, probe, fun u => ⟨apart, unfitted u⟩, fun p => ⟨apart, stopped p⟩⟩
  rw [(StringState.engagement_apart _).2 apart] at engaged
  omega

/-- A transaction started: a scan in a running cycle, or the probe of a module. -/
theorem State.UnitsKept.start (h : s.UnitsKept c) (running : s.phase = .running) {f : Chain → Chain}
    (head : (f (s.chain c)).head = (s.chain c).head) (modules : (f (s.chain c)).modules = (s.chain c).modules)
    (range : (f (s.chain c)).range = (s.chain c).range) (cycle : (f (s.chain c)).cycle = (s.chain c).cycle)
    (started : ∀ x, (f (s.chain c)).inFlight = some x → (s.chain c).inFlight = some x
      ∨ (x.kind = .scan ∧ (s.chain c).cycle = .running) ∨ (x.kind = .probe ∧ x.addressed ≠ .head)) :
    (s.modChain c f).UnitsKept c := by
  have chain : (s.modChain c f).chain c = f (s.chain c) := State.modChain_same s c f
  refine ⟨fun engaged => ?_, fun x flying scan => ?_, fun x flying probe => ?_, fun unfitted => ?_, fun stopped => ?_⟩
  · have all := Chain.allCurrent_iff.1 (h.current engaged)
    rw [chain, Chain.allCurrent_iff, head, modules]
    exact ⟨all.1, fun a fitted => all.2 a (by rwa [Chain.fitted_congr range cycle] at fitted)⟩
  · rw [chain] at flying ⊢
    rw [cycle]
    rcases started x flying with old | ⟨-, run⟩ | ⟨other, -⟩
    · exact h.scan x old scan
    · exact run
    · rw [scan] at other
      cases other
  · rw [chain] at flying
    rcases started x flying with old | ⟨other, -⟩ | ⟨-, module⟩
    · exact h.probe x old probe
    · rw [probe] at other
      cases other
    · exact module
  · rw [chain] at unfitted ⊢
    rw [cycle] at unfitted
    rw [head]
    exact h.unfitted unfitted
  · exact absurd running stopped

end

/-! ## The other chain -/

section
variable {s : State} {c d : Str}

theorem State.modModule_other (h : d ≠ c) (a : Addr) (f : ModuleRecord → ModuleRecord) :
    (s.modModule c a f).chain d = s.chain d := State.modChain_other _ h

/-- What leaves every chain leaves each. -/
theorem State.chain_congr {t : State} (h : t.chains = s.chains) (d : Str) : t.chain d = s.chain d := by
  rw [State.chain, State.chain, h]

theorem State.clearModules_other (h : d ≠ c) (picks : Addr → Bool) : (s.clearModules c picks).chain d = s.chain d :=
  State.modChain_other _ h

theorem State.removeProbes_other (h : d ≠ c) (picks : Addr → Bool) : (s.removeProbes c picks).chain d = s.chain d := by
  simp [State.removeProbes, State.chain, State.modChain, PerString.get_mod_other _ _ h]

theorem State.compareRange_other (h : d ≠ c) : (s.compareRange c).chain d = s.chain d := by
  unfold State.compareRange State.takeRange
  split
  · dsimp only
    rw [State.modChain_other _ h, State.removeProbes_other h, State.clearModules_other h]
  · rfl

theorem State.dueMoment_other (h : d ≠ c) : (s.dueMoment c).chain d = s.chain d := by
  unfold State.dueMoment State.enterUnfitted
  dsimp only
  split
  · rw [State.modChain_other _ h, State.removeProbes_other h, State.clearModules_other h, State.compareRange_other h]
  · rw [State.modChain_other _ h, State.compareRange_other h]

theorem State.firstDue_other (h : d ≠ c) : (s.firstDue c).chain d = s.chain d := by
  rw [State.firstDue, State.startIfIdle, State.modChain_other _ h, State.dueMoment_other h]

theorem State.moduleReply_other (h : d ≠ c) (a : Addr) : (s.moduleReply c a).chain d = s.chain d := by
  unfold State.moduleReply State.balance State.judgeInvalid
  dsimp only
  rw [State.modModule_other h]
  split
  · rw [State.modChain_other _ h]
    rfl
  · rfl

theorem State.applyOutcome_other (h : d ≠ c) (u : ChainUnit) (r : Option Reply) :
    (s.applyOutcome c u r).chain d = s.chain d := by
  unfold State.applyOutcome State.applyGood
  split
  · split
    · have effects (f : State → State) (hf : f ∈ [fun t => t.stringHeadReply c, State.agreementHeadReply])
          (t : State) : (f t).chains = t.chains := by
        rcases List.mem_pair.1 hf with rfl | rfl <;> simp
      rw [State.headGood]
      refine State.inAnyOrder_keeps (P := fun t => t.chain d = s.chain d) (fun t n ht => ht) (fun f hf t ht => ?_)
        (State.modChain_other _ h)
      exact (State.chain_congr (effects f hf t) d).trans ht
    · rw [State.moduleReply_other h, State.modModule_other h]
    · rfl
  · simp [State.chain, State.modChain, PerString.get_mod_other _ _ h]

theorem State.completeCycle_other (h : d ≠ c) : (s.completeCycle c).chain d = s.chain d := by
  unfold State.completeCycle
  have complete (f : Chain → Chain) : ((s.modChain c f).cycleComplete c).chain d = s.chain d := by
    rw [State.chain_congr (s := s.modChain c f) (by simp), State.modChain_other _ h]
  dsimp only
  split
  · rw [State.dueMoment_other h, complete]
  · rw [complete]

theorem State.advance_other (h : d ≠ c) (u : ChainUnit) : (s.advance c u).chain d = s.chain d := by
  unfold State.advance
  split
  · exact State.modChain_other _ h
  · exact State.completeCycle_other h

theorem State.answerProbe_chains (s : State) (c : Str) (a : Addr) (waiters : List Waiter) (o : ChainOutcome)
    (fitted : Bool) : (s.answerProbe c a waiters o fitted).chains = s.chains := by simp

theorem State.endTransaction_other (h : d ≠ c) (x : Transaction) (r : Option Reply) :
    (s.endTransaction c x r).chain d = s.chain d := by
  unfold State.endTransaction State.concludeTransaction
  dsimp only
  rw [State.modChain_other _ h]
  generalize ended : State.countMiss _ c _ = t
  have start : t.chain d = s.chain d := by
    rw [← ended]
    simp [State.chain, State.modChain, PerString.get_mod_other _ _ h]
  have applied : (if (s.chain c).stillFitted x.addressed then t.applyOutcome c x.addressed r else t).chain d
      = s.chain d := by
    split
    · rw [State.applyOutcome_other h, start]
    · exact start
  split
  · rw [State.chain_congr (State.answerProbe_chains ..), applied]
  · exact applied
  · rw [State.advance_other h, applied]

end

end Sys2Proof.Machine
end

-- ==== Proofs: a step keeps the units of an engaged string CURRENT ====
section
namespace Sys2Proof.Machine

section
variable {s : State} {c d : Str}

/-! ## Due moments -/

theorem State.enterUnfitted_inFlight (s : State) (c : Str) :
    ((s.enterUnfitted c).chain c).inFlight = (s.chain c).inFlight := by
  simp [State.enterUnfitted, State.clearModules, State.removeProbes, State.chain, State.modChain]

theorem State.compareRange_inFlight (s : State) (c : Str) :
    ((s.compareRange c).chain c).inFlight = (s.chain c).inFlight := by
  unfold State.compareRange
  split
  · simp [State.takeRange, State.clearModules, State.removeProbes, State.chain, State.modChain]
  · rfl

/-- R13: a due moment starts no transaction. -/
theorem State.dueMoment_inFlight (s : State) (c : Str) : ((s.dueMoment c).chain c).inFlight = (s.chain c).inFlight := by
  unfold State.dueMoment
  dsimp only
  split
  · rw [State.enterUnfitted_inFlight, State.compareRange_inFlight]
  · rw [State.modChain_same]
    exact State.compareRange_inFlight s c

/-- R10: an apart string's chain enters UNFITTED, with no scan transaction in flight. -/
theorem State.enterUnfitted_units (h : s.UnitsKept c) (apart : (s.string c).state.apart = true)
    (noScan : ∀ x, (s.chain c).inFlight = some x → x.kind ≠ .scan) : (s.enterUnfitted c).UnitsKept c := by
  have chain : (s.enterUnfitted c).chain c = { ((s.clearModules c fun _ => true).removeProbes c fun _ => true).chain c with
      head := .cleared, cycle := .unfitted, nextUnit := .head, nextDue := none,
      unfittedCheck := some (s.uptime + unfittedPeriod) } := by
    simp [State.enterUnfitted, State.clearModules]
  have flying := State.enterUnfitted_inFlight s c
  refine .of_apart (by simpa [State.string] using apart) (fun x hx scan => ?_) (fun x hx => ?_) (fun _ => ?_) (fun stopped => ?_)
  · rw [flying] at hx
    exact absurd scan (noScan x hx)
  · rw [flying] at hx
    exact h.probe x hx
  · rw [chain]
    simp [HeadRecord.cleared]
  · rw [flying]
    exact (h.stopped (by simpa using stopped)).2

/-- R9: a new range is compared of an apart string alone. -/
theorem State.compareRange_units (h : s.UnitsKept c) : (s.compareRange c).UnitsKept c := by
  unfold State.compareRange
  split
  · next new =>
    have chain : ∃ modules probes, (s.takeRange c s.params.range).chain c
        = { s.chain c with modules := modules, probes := probes, range := s.params.range } := by
      simp only [State.takeRange, State.clearModules, State.removeProbes, State.chain, State.modChain,
        State.answerWaiters_frame, State.modCells_frame, PerString.get_mod]
      exact ⟨_, _, rfl⟩
    obtain ⟨modules, probes, chain⟩ := chain
    refine .of_apart (by simpa [State.string] using new.2) (fun x hx scan => ?_) (fun x hx => ?_) (fun u => ?_) (fun stopped => ?_)
    all_goals rw [chain] at *
    · exact h.scan x hx scan
    · exact h.probe x hx
    · exact (h.unfitted u).2
    · exact (h.stopped (by simpa using stopped)).2
  · exact h

/-- R9 to R13: a due moment, with no scan transaction in flight. -/
theorem State.dueMoment_units (h : s.UnitsKept c) (noScan : ∀ x, (s.chain c).inFlight = some x → x.kind ≠ .scan) :
    (s.dueMoment c).UnitsKept c := by
  have compared := State.compareRange_units h
  have flying := State.compareRange_inFlight s c
  unfold State.dueMoment
  dsimp only
  split
  · next leaves =>
    rw [Bool.and_eq_true] at leaves
    exact State.enterUnfitted_units compared leaves.2 fun x hx => noScan x (flying ▸ hx)
  · generalize s.compareRange c = t at compared
    have chain (f : Chain → Chain) : (t.modChain c f).chain c = f (t.chain c) := State.modChain_same t c f
    have range (k : Chain) (n : Nat) (d : Cadence) : (k.becomeDue n d).head = k.head ∧ (k.becomeDue n d).modules = k.modules
        ∧ (k.becomeDue n d).range = k.range ∧ (k.becomeDue n d).inFlight = k.inFlight := ⟨rfl, rfl, rfl, rfl⟩
    refine ⟨?_, fun _ _ _ => ?_, fun x hx => ?_, fun unfitted => ?_, fun stopped => ?_⟩
    · rw [State.unitsCurrent_iff, chain, Chain.allCurrent_iff]
      intro engaged
      have all := State.unitsCurrent_iff.1 compared.current engaged
      have fitted : (t.chain c).cycle ≠ .unfitted := fun unfitted => by
        have apart := (StringState.engagement_apart _).2 (compared.unfitted unfitted).1
        exact absurd (apart.symm.trans engaged) (by decide)
      obtain ⟨head, modules⟩ := Chain.allCurrent_iff.1 all
      refine ⟨head, fun a in_ => modules a ?_⟩
      simp only [Chain.fitted, Chain.becomeDue, Bool.and_eq_true, bne_iff_ne] at in_ ⊢
      exact ⟨⟨fitted, in_.1.2⟩, in_.2⟩
    · rw [chain]
      rfl
    · rw [chain] at hx
      exact compared.probe x hx
    · rw [chain] at unfitted
      cases unfitted
    · rw [chain]
      exact compared.stopped stopped

/-- R17: the head transaction of a cycle just due. -/
theorem State.startIfIdle_units (h : s.UnitsKept c) (running : s.phase = .running) : (s.startIfIdle c).UnitsKept c := by
  unfold State.startIfIdle
  by_cases idle : (s.chain c).inFlight = none ∧ (s.chain c).cycle = .running
  · refine h.start running ?_ ?_ ?_ ?_ fun x hx => .inr (.inl ?_)
    all_goals simp only [if_pos idle] at *
    case refine_5 =>
      obtain rfl := Option.some.inj hx
      exact ⟨rfl, idle.2⟩
    all_goals rfl
  · refine h.start running ?_ ?_ ?_ ?_ fun x hx => .inl ?_
    all_goals simp only [if_neg idle] at *
    exact hx

theorem State.firstDue_units (h : s.UnitsKept c) (running : s.phase = .running)
    (noScan : d = c → ∀ x, (s.chain c).inFlight = some x → x.kind ≠ .scan) : (s.firstDue d).UnitsKept c := by
  by_cases same : d = c
  · subst same
    exact State.startIfIdle_units (State.dueMoment_units h (noScan rfl)) (by simpa using running)
  · exact h.of_same (State.firstDue_other (Ne.symm same)) (.of_strings (by simp)) (by simp)

/-! ## The end of a transaction -/

/-- R15: the transaction that a probe start puts in flight. -/
theorem Chain.startProbe_started {k : Chain} {now : Nat} {x : Transaction} (h : (k.startProbe now).inFlight = some x) :
    k.inFlight = some x ∨ (x.kind = .probe ∧ x.addressed ≠ .head) := by
  unfold Chain.startProbe at h
  split at h
  · obtain rfl := Option.some.inj h
    exact .inr ⟨rfl, nofun⟩
  · exact .inl h

theorem Chain.startProbe_records (k : Chain) (now : Nat) :
    (k.startProbe now).head = k.head ∧ (k.startProbe now).modules = k.modules ∧ (k.startProbe now).range = k.range
      ∧ (k.startProbe now).cycle = k.cycle := by
  unfold Chain.startProbe
  split <;> exact ⟨rfl, rfl, rfl, rfl⟩

/-- R16: the transaction that the arbiter starts on an idle chain. -/
theorem Chain.arbitrate_started {k : Chain} (idle : k.inFlight = none) {now : Nat} {x : Transaction}
    (h : (k.arbitrate now).inFlight = some x) :
    (x.kind = .scan ∧ k.cycle = .running) ∨ (x.kind = .probe ∧ x.addressed ≠ .head) := by
  have probe (h : (k.startProbe now).inFlight = some x) : x.kind = .probe ∧ x.addressed ≠ .head :=
    (Chain.startProbe_started h).resolve_left (by simp [idle])
  unfold Chain.arbitrate at h
  split at h
  · exact .inr (probe h)
  · split at h
    · next run =>
      obtain rfl := Option.some.inj h
      exact .inl ⟨rfl, run⟩
    · exact .inr (probe h)

theorem Chain.arbitrate_records (k : Chain) (now : Nat) :
    (k.arbitrate now).head = k.head ∧ (k.arbitrate now).modules = k.modules ∧ (k.arbitrate now).range = k.range
      ∧ (k.arbitrate now).cycle = k.cycle := by
  unfold Chain.arbitrate
  repeat' split
  · exact k.startProbe_records now
  · exact ⟨rfl, rfl, rfl, rfl⟩
  · exact k.startProbe_records now

theorem State.arbitrate_units (h : s.UnitsKept c) (running : s.phase = .running) (idle : (s.chain c).inFlight = none) :
    (s.modChain c fun k => k.arbitrate s.uptime).UnitsKept c := by
  obtain ⟨head, modules, range, cycle⟩ := (s.chain c).arbitrate_records s.uptime
  exact h.start running head modules range cycle fun x hx => .inr (Chain.arbitrate_started idle hx)

/-- R5, R8: a loss of CURRENT is a unit loss. -/
theorem afterLoss_status (o : ChainOutcome) (g : UnitStatus) (miss : Nat) :
    (afterLoss o g miss).1 = g ∨ (afterLoss o g miss).1.lost = true := by
  unfold afterLoss
  split
  · exact .inr rfl
  · split
    · exact .inl rfl
    · exact .inr rfl

/-- R5: the statuses after an outcome that is not GOOD. -/
theorem Chain.lose_status (k : Chain) (u v : ChainUnit) (o : ChainOutcome) :
    (k.lose u o).status v = k.status v ∨ (v = u ∧ ((k.lose u o).status v).lost = true) := by
  cases u with
  | head =>
    cases v with
    | head => exact (afterLoss_status o k.head.status k.head.miss).imp id fun lost => ⟨rfl, lost⟩
    | module b => exact .inl rfl
  | module a =>
    cases v with
    | head => exact .inl rfl
    | module b =>
      simp only [Chain.status, Chain.lose, vmod_get]
      split
      · next same =>
        subst same
        exact (afterLoss_status o _ _).imp id fun lost => ⟨rfl, lost⟩
      · exact .inl rfl

theorem State.judgeLoss_chains (s : State) (c : Str) (u : ChainUnit) (before : UnitStatus) :
    (s.judgeLoss c u before).chains = s.chains := by simp

theorem State.countMiss_chains (s : State) (c : Str) (o : ChainOutcome) : (s.countMiss c o).chains = s.chains := by simp

theorem Chain.lose_course (k : Chain) (u : ChainUnit) (o : ChainOutcome) : k.SameCourse (k.lose u o) := by
  cases u <;> exact ⟨rfl, rfl, rfl⟩

/-- R53: after a unit loss the string is no more engaged than OPENING. -/
theorem State.unitLost_engagement (s : State) (c : Str) : ((s.unitLost c).string c).state.engagement ≤ 1 := by
  unfold State.unitLost
  split
  · simp [StringState.engagement]
  · simp [StringState.engagement]
  · simp [StringState.engagement]
  · next a b e =>
    cases g : (s.string c).state with
    | opened => simp [StringState.engagement]
    | locked k => simp [StringState.engagement]
    | opening f t => simp [StringState.engagement]
    | joined => exact absurd g a
    | precharge p =>
      cases p with
      | matching t => exact absurd g (b t)
      | handover => exact absurd g e

/-- R3: a GOOD head reply on a fitted chain. -/
theorem Chain.headCurrent_mends {k : Chain} (fitted : k.cycle ≠ .unfitted) {h : HeadRecord} (current : h.status = .current) :
    k.Mends { k with head := h } := ⟨⟨rfl, rfl, rfl⟩, .inr ⟨current, fitted⟩, fun _ => .inl rfl⟩

/-- R4, R20: a GOOD module reply. -/
theorem State.moduleReply_mends (s : State) (c : Str) (a : Addr) : (s.chain c).Mends ((s.moduleReply c a).chain c) := by
  unfold State.moduleReply State.balance State.judgeInvalid
  dsimp only
  have selected (t : State) (f : ModuleRecord → ModuleRecord) (hf : ∀ m, (f m).status = m.status) :
      (t.chain c).Mends ((t.modModule c a f).chain c) := by
    rw [State.modModule_chain]
    refine .of_modules fun b => ?_
    simp only [vmod_get]
    split
    · next same =>
      subst same
      exact hf _
    · rfl
  refine .trans ?_ (selected _ _ fun m => by rfl)
  split
  · rw [State.modChain_same]
    exact Chain.emptyFittedSets_mends _
  · exact .refl _

theorem ModuleRecord.reply_status (m : ModuleRecord) (cells : Vector Nat 16) (sensors : Vector Int 4) (applied : List Nat) :
    (m.reply cells sensors applied).status = .current := rfl

/-- R2 to R5, R8: the outcome of a transaction of a chain whose head answers in a running cycle alone. -/
theorem State.applyOutcome_units (h : s.UnitsKept c) {u : ChainUnit} (fitted : u = .head → (s.chain c).cycle ≠ .unfitted)
    (r : Option Reply) :
    (s.applyOutcome c u r).UnitsKept c ∧ (s.chain c).SameCourse ((s.applyOutcome c u r).chain c) := by
  have loose : s.Loosens (s.applyOutcome c u r) := .applyOutcome s c u r
  have phase : (s.applyOutcome c u r).phase = s.phase := by simp
  have mended (mends : (s.chain c).Mends ((s.applyOutcome c u r).chain c)) :
      (s.applyOutcome c u r).UnitsKept c ∧ (s.chain c).SameCourse ((s.applyOutcome c u r).chain c) :=
    ⟨h.of_mends mends loose phase, mends.toSameCourse⟩
  by_cases good : ∃ reply, classify u r = .good ∧ r = some reply
  · obtain ⟨reply, good, rfl⟩ := good
    refine mended ?_
    simp only [State.applyOutcome, good]
    unfold State.applyGood
    split
    · next i v b m p =>
      have chain : (s.headGood c i v b m p).chain c = { s.chain c with head := .reply s.uptime i v b m p } := by
        refine State.inAnyOrder_keeps (P := fun t => t.chain c = _) (fun t n ht => ht) (fun f hf t ht => ?_)
          (State.modChain_same s c _)
        have chains : (f t).chains = t.chains := by rcases List.mem_pair.1 hf with rfl | rfl <;> simp
        exact (State.chain_congr chains c).trans ht
      rw [chain]
      exact Chain.headCurrent_mends (fitted rfl) rfl
    · next a _ _ _ cells sensors applied =>
      refine .trans ?_ (State.moduleReply_mends _ c a)
      rw [State.modModule_chain]
      refine ⟨⟨rfl, rfl, rfl⟩, .inl rfl, fun b => ?_⟩
      simp only [vmod_get]
      split
      · exact .inr rfl
      · exact .inl rfl
    · exact .refl _
  · have lost : s.applyOutcome c u r
        = (s.modChain c fun k => k.lose u (classify u r)).judgeLoss c u ((s.chain c).status u) := by
      unfold State.applyOutcome
      split
      · next reply good' => exact absurd ⟨reply, good', rfl⟩ good
      · rfl
    have chain : (s.applyOutcome c u r).chain c = (s.chain c).lose u (classify u r) := by
      rw [lost, State.chain_congr (State.judgeLoss_chains ..), State.modChain_same]
    by_cases same : ((s.chain c).lose u (classify u r)).status u = (s.chain c).status u
    · have all (v : ChainUnit) : ((s.chain c).lose u (classify u r)).status v = (s.chain c).status v := by
        rcases (s.chain c).lose_status u v (classify u r) with e | ⟨rfl, -⟩
        · exact e
        · exact same
      refine mended ?_
      rw [chain]
      exact ⟨Chain.lose_course _ _ _, .inl (all .head), fun a => .inl (all (.module a))⟩
    · have course := (s.chain c).lose_course u (classify u r)
      rw [← chain] at course
      refine ⟨h.of_course course loose phase ?_ fun lit => .inl ?_, course⟩
      · have out : ((s.chain c).lose u (classify u r)).status u ≠ (s.chain c).status u
            ∧ (((s.chain c).lose u (classify u r)).status u).lost = true :=
          ⟨same, (((s.chain c).lose_status u u (classify u r)).resolve_left same).2⟩
        have left : s.applyOutcome c u r = ((s.modChain c fun k => k.lose u (classify u r)).unitLost c).post .fault
            (.unitLoss c u (((s.chain c).lose u (classify u r)).status u)) := by
          rw [lost, State.judgeLoss, State.modChain_same, if_pos out]
        have released : ((s.applyOutcome c u r).string c).state.engagement ≤ 1 := by
          rw [left]
          simpa [State.string] using State.unitLost_engagement (s.modChain c fun k => k.lose u (classify u r)) c
        rw [State.unitsCurrent_iff]
        intro engaged
        omega
      · rw [chain] at lit
        rcases (s.chain c).lose_status u .head (classify u r) with e | ⟨-, lost⟩
        · exact e.symm.trans lit
        · rw [Chain.status, lit] at lost
          cases lost

/-- R11: the cycle of a fitted chain leaves RUNNING. -/
theorem State.cycleEnded_units (h : s.UnitsKept c) (fitted : (s.chain c).cycle ≠ .unfitted)
    (idle : (s.chain c).inFlight = none) :
    (s.modChain c fun k => { k with cycle := .waiting, nextUnit := .head, firstDone := true }).UnitsKept c := by
  have chain : (s.modChain c fun k => { k with cycle := .waiting, nextUnit := .head, firstDone := true }).chain c
      = { s.chain c with cycle := .waiting, nextUnit := .head, firstDone := true } := State.modChain_same s c _
  refine ⟨fun engaged => ?_, fun x hx => ?_, fun x hx => ?_, fun unfitted => ?_, fun stopped => ?_⟩
  · obtain ⟨head, modules⟩ := Chain.allCurrent_iff.1 (h.current engaged)
    rw [chain, Chain.allCurrent_iff]
    refine ⟨head, fun a in_ => modules a ?_⟩
    simp only [Chain.fitted, Bool.and_eq_true, bne_iff_ne] at in_ ⊢
    exact ⟨⟨fitted, in_.1.2⟩, in_.2⟩
  · rw [chain, idle] at hx
    cases hx
  · rw [chain, idle] at hx
    cases hx
  · rw [chain] at unfitted
    cases unfitted
  · rw [chain]
    exact h.stopped stopped

/-- R11: the cycle moved on, with no transaction in flight. -/
theorem State.advance_units (h : s.UnitsKept c) (fitted : (s.chain c).cycle ≠ .unfitted)
    (idle : (s.chain c).inFlight = none) (u : ChainUnit) :
    (s.advance c u).UnitsKept c ∧ ((s.advance c u).chain c).inFlight = none := by
  unfold State.advance
  split
  · next v _ =>
    have chain : (s.modChain c fun k => { k with nextUnit := v }).chain c = { s.chain c with nextUnit := v } :=
      State.modChain_same s c _
    refine ⟨h.of_mends ?_ (.modChain s c _) rfl, by rw [chain]; exact idle⟩
    rw [chain]
    exact ⟨⟨rfl, rfl, rfl⟩, .inl rfl, fun _ => .inl rfl⟩
  · unfold State.completeCycle
    have ended := State.cycleEnded_units h fitted idle
    have still : ((s.modChain c fun k => { k with cycle := .waiting, nextUnit := .head, firstDone := true }).chain c).inFlight
        = none := by rw [State.modChain_same]; exact idle
    generalize s.modChain c _ = t at ended still
    have chain : (t.cycleComplete c).chain c = t.chain c := by simp [State.chain]
    have complete : (t.cycleComplete c).UnitsKept c := ended.of_same chain (.cycleComplete t c) (by simp)
    dsimp only
    split
    · refine ⟨State.dueMoment_units complete fun x hx => ?_, by rw [State.dueMoment_inFlight, chain, still]⟩
      rw [chain, still] at hx
      cases hx
    · exact ⟨complete, by rw [chain, still]⟩

/-- R1: the end of a transaction. -/
theorem State.endTransaction_units (h : s.UnitsKept c) (running : s.phase = .running) {x : Transaction}
    (flying : (s.chain c).inFlight = some x) (r : Option Reply) : (s.endTransaction c x r).UnitsKept c := by
  have scanning : x.kind = .scan → (s.chain c).cycle = .running := h.scan x flying
  have probing : x.kind = .probe → x.addressed ≠ .head := h.probe x flying
  have landed : ((s.modChain c fun k => { k with inFlight := none }).countMiss c (classify x.addressed r)).UnitsKept c := by
    have chain : (s.modChain c fun k => { k with inFlight := none }).chain c = { s.chain c with inFlight := none } :=
      State.modChain_same s c _
    have landed : (s.modChain c fun k => { k with inFlight := none }).UnitsKept c :=
      h.start running rfl rfl rfl rfl nofun
    exact landed.of_same (by simp [State.chain]) (.of_strings (by simp)) (by simp)
  have course : ((s.modChain c fun k => { k with inFlight := none }).countMiss c (classify x.addressed r)).chain c
      = { s.chain c with inFlight := none } := by
    rw [State.chain_congr (State.countMiss_chains ..), State.modChain_same]
  have concluded : (s.concludeTransaction c x r).UnitsKept c
      ∧ ((s.concludeTransaction c x r).chain c).inFlight = none := by
    unfold State.concludeTransaction
    dsimp only
    generalize State.countMiss _ c _ = t at landed course
    have applied : (if (s.chain c).stillFitted x.addressed then t.applyOutcome c x.addressed r else t).UnitsKept c
        ∧ (t.chain c).SameCourse
          ((if (s.chain c).stillFitted x.addressed then t.applyOutcome c x.addressed r else t).chain c) := by
      split
      · refine State.applyOutcome_units landed (fun head => ?_) r
        rw [course]
        cases kind : x.kind with
        | scan => simp [scanning kind]
        | probe => exact absurd head (probing kind)
      · exact ⟨landed, rfl, rfl, rfl⟩
    generalize (if (s.chain c).stillFitted x.addressed then t.applyOutcome c x.addressed r else t) = u at applied
    obtain ⟨kept, same⟩ := applied
    have idle : (u.chain c).inFlight = none := by rw [same.inFlight, course]
    split
    · have chain (a : Addr) (ws : List Waiter) (o : ChainOutcome) (b : Bool) : (u.answerProbe c a ws o b).chain c = u.chain c :=
        State.chain_congr (State.answerProbe_chains ..) c
      exact ⟨kept.of_same (chain ..) (.of_strings (by simp)) (by simp), by rw [chain, idle]⟩
    · exact ⟨kept, idle⟩
    · next kind =>
      refine State.advance_units kept ?_ idle _
      rw [same.cycle, course]
      simp [scanning kind]
  exact State.arbitrate_units concluded.1 (by simpa using running) concluded.2

/-- R1: the end of a transaction of either chain. -/
theorem State.endTransaction_unitsKept (h : s.UnitsKept c) (running : s.phase = .running) {x : Transaction}
    (flying : (s.chain d).inFlight = some x) (r : Option Reply) : (s.endTransaction d x r).UnitsKept c := by
  by_cases same : d = c
  · subst same
    exact State.endTransaction_units h running flying r
  · exact h.of_same (State.endTransaction_other (Ne.symm same) x r) (.endTransaction ..) (by simp)

/-! ## JOIN-STRING, the records and the resets -/

/-- R46: the join conditions hold of every unit. -/
theorem State.join_units (h : s.UnitsKept c) (running : s.phase = .running) (d : Str) : (s.join d).1.UnitsKept c := by
  unfold State.join
  split
  · exact h
  · exact h
  · exact h
  · exact h
  split
  case isFalse => exact h
  case isTrue conditions =>
    have all : (s.chain d).allCurrent = true := by
      simp only [State.joinConditions, Bool.and_eq_true] at conditions
      exact conditions.1.1.1.1.1.1
    generalize into : State.setString _ d _ = t
    have chain : t.chain c = s.chain c := State.chain_congr (by rw [← into]; simp) c
    have phase : t.phase = s.phase := by rw [← into]; simp
    by_cases same : d = c
    · subst same
      have head := (Chain.allCurrent_iff.1 all).1
      refine ⟨fun _ => by rw [chain]; exact all, ?_, ?_, fun unfitted => ?_, fun stopped => ?_⟩
      · rw [chain]
        exact h.scan
      · rw [chain]
        exact h.probe
      · rw [chain] at unfitted
        exact absurd head (h.unfitted unfitted).2
      · exact absurd running (phase ▸ stopped)
    · have loose : (t.string c).state = (s.string c).state := by
        rw [← into, State.setString_state, if_neg (Ne.symm same), State.modString_string, if_neg (Ne.symm same)]
      refine ⟨fun engaged => ?_, ?_, ?_, ?_, fun stopped => absurd running (phase ▸ stopped)⟩
      · rw [loose] at engaged
        rw [chain]
        exact h.current engaged
      · rw [chain]
        exact h.scan
      · rw [chain]
        exact h.probe
      · rw [chain, loose]
        exact h.unfitted

/-- R14, R17: the transaction that a new probe entry puts in flight. -/
theorem Chain.addProbe_started {k : Chain} {now : Nat} {a : Addr} {w : Waiter} {x : Transaction}
    (h : (k.addProbe now a w).inFlight = some x) : k.inFlight = some x ∨ (x.kind = .probe ∧ x.addressed ≠ .head) := by
  unfold Chain.addProbe at h
  dsimp only at h
  split at h
  · exact (Chain.startProbe_started h).imp id id
  · exact .inl h

theorem Chain.addProbe_records (k : Chain) (now : Nat) (a : Addr) (w : Waiter) :
    (k.addProbe now a w).head = k.head ∧ (k.addProbe now a w).modules = k.modules ∧ (k.addProbe now a w).range = k.range
      ∧ (k.addProbe now a w).cycle = k.cycle := by
  unfold Chain.addProbe
  dsimp only
  split
  · exact Chain.startProbe_records _ now
  · exact ⟨rfl, rfl, rfl, rfl⟩

/-- R14: a probe request. -/
theorem State.probe_units (h : s.UnitsKept c) (running : s.phase = .running) (d : Str) (a : Addr) (w : Waiter) :
    (s.probe d a w).1.UnitsKept c := by
  have set (f : Chain → Chain) (hf : d = c → (s.modChain d f).UnitsKept c) : (s.modChain d f).UnitsKept c := by
    by_cases same : d = c
    · exact hf same
    · exact h.of_same (State.modChain_other _ (Ne.symm same)) (.modChain s d f) rfl
  unfold State.probe
  dsimp only
  split
  · exact h
  split
  · split
    · refine set _ fun same => ?_
      subst same
      exact h.start running rfl rfl rfl rfl fun x hx => .inl hx
    · exact h
  · split
    · refine set _ fun same => ?_
      subst same
      obtain ⟨head, modules, range, cycle⟩ := (s.chain d).addProbe_records s.uptime a w
      exact h.start running head modules range cycle fun x hx => (Chain.addProbe_started hx).imp id .inr
    · exact h

/-- R36: the entry into a stage. -/
theorem State.enterStage_mends (s : State) (g : FireStage) (c : Str) : (s.chain c).Mends ((s.enterStage g).chain c) := by
  unfold State.enterStage
  dsimp only
  generalize ent : ((s.modFire fun f => f.enter g s.uptime).postStage s.fire.stage).orderFreeze s s.fire.stage g = t
  have chain : t.chain c = s.chain c := State.chain_congr (by rw [← ent]; simp) c
  split
  · have emptied : t.emptyAllSets.chain c = (t.chain c).emptySets := by
      unfold State.emptyAllSets
      cases c <;> simp [State.modChain_chain]
    rw [emptied, chain]
    exact Chain.emptySets_mends _
  · rw [chain]
    exact .refl _

/-- R112: what is handed on of a fire stage changes no chain. -/
theorem State.fireEffect_chains {e : FireEffect}
    (h : ∃ (t : State) (entry : Bool), e = t.fsEffect ∨ (∃ c, e = (.string c, fun t => t.forceOpen c))
      ∨ e = (.permit, State.forcedTrip) ∨ e = (.plant, fun t => t.plantStageChange entry)) (s : State) :
    (e.2 s).chains = s.chains := by
  obtain ⟨t, entry, rfl | ⟨c, rfl⟩ | rfl | rfl⟩ := h <;> simp [State.fsEffect]

/-- R36, R112: the passes of a fire evaluation empty sets at most. -/
theorem State.passes_mends (s : State) (c : Str) : (s.chain c).Mends (s.passes.chain c) :=
  State.passes_keeps (P := fun t => (s.chain c).Mends (t.chain c)) (fun _ _ h => h)
    (fun t v code ht => by
      obtain ⟨u, e', ⟨g, -, -, e⟩ | ⟨e, -⟩⟩ := t.decidePass_cases v code <;> rw [e]
      · have judged : u.chain c = t.chain c := State.chain_congr (by rw [e']; simp) c
        exact ht.trans (judged ▸ u.enterStage_mends g c)
      · have judged : u.chain c = t.chain c := State.chain_congr (by rw [e']; simp) c
        exact judged ▸ ht)
    (fun t v code e he u hu => by
      rw [State.chain_congr (s := u) (State.fireEffect_chains (State.mem_decidePass_effects he) u) c]
      exact hu)
    (fun t h => h) (.refl _)

theorem State.changeStage_mends (s : State) (g : FireStage) (c : Str) : (s.chain c).Mends ((s.changeStage g).chain c) :=
  State.takeAll_keeps (P := fun t => (s.chain c).Mends (t.chain c)) (fun _ _ h => h)
    (fun e he u hu => by
      rw [State.chain_congr (s := u) (State.fireEffect_chains (State.mem_changeStage_effects he) u) c]
      exact hu)
    (s.enterStage_mends g c)

theorem State.ceilingWritten_mends (s : State) (c : Str) : (s.chain c).Mends (s.ceilingWritten.chain c) := by
  have chain : s.ceilingWritten.chain c = (s.chain c).applyCeiling s.params.balCeiling := by
    unfold State.ceilingWritten
    cases c <;> simp [State.modChain_chain]
  rw [chain]
  exact Chain.applyCeiling_mends _ _

theorem State.startReset_units (s : State) (kind : ResetKind) {phase : Phase} (c : Str) :
    (s.startReset kind phase).UnitsKept c := by
  have chain : (s.startReset kind phase).chain c = .atReset s.params.range := by cases c <;> rfl
  have apart : ((s.startReset kind phase).string c).state.apart = true := by
    rw [← StringState.engagement_apart]
    exact State.startReset_engagement s kind phase c
  refine .of_apart apart ?_ ?_ ?_ ?_ <;> rw [chain]
  · nofun
  · nofun
  · nofun
  · exact fun _ => rfl

/-- R156, R176: the completion of a reset of a part that is stopped. -/
theorem State.completeReset_units (h : s.UnitsKept c) (stopped : s.phase ≠ .running) : s.completeReset.UnitsKept c := by
  obtain ⟨apart, idle⟩ := h.stopped stopped
  have chain : s.ready.chain c = { s.chain c with range := s.params.range } := by cases c <;> rfl
  have ready : s.ready.UnitsKept c := by
    have string : (s.ready.string c).state = (s.string c).state := by cases c <;> rfl
    refine .of_apart (string ▸ apart) ?_ ?_ ?_ ?_ <;> rw [chain]
    · exact h.scan
    · exact h.probe
    · exact fun u => (h.unfitted u).2
    · exact fun _ => idle
  have first : (s.ready.firstDue .one).UnitsKept c :=
    State.firstDue_units ready rfl fun _ x hx => by
      rw [chain, idle] at hx
      cases hx
  have second : ((s.ready.firstDue .one).firstDue .two).UnitsKept c :=
    State.firstDue_units first (by simp; rfl) fun two x hx => by
      subst two
      rw [State.firstDue_other (by decide), chain, idle] at hx
      cases hx
  exact second.of_same (State.chain_congr (by simp [State.completeReset]) c) (.of_strings (by simp [State.completeReset])) (by simp [State.completeReset])

end

/-! ## The obligation -/

/-- R45: every command keeps the units of an engaged string CURRENT. -/
theorem exec_unitsKept (c : Str) (i : Instr) (s t : State) (hs : s.UnitsKept c) (h : exec i s = .next t) : t.UnitsKept c := by
  have links (t : State) (l : Link) (f : LinkState → LinkState) (ht : t.UnitsKept c) : (t.modLink l f).UnitsKept c :=
    ht.of_same rfl (.modLink t l f) rfl
  by_cases apart : Part.chains ∉ changedBy i ∧ Part.phase ∉ changedBy i
  case pos =>
    have chains : t.chains = s.chains := exec_same h (p := .chains) apart.1
    have phase : t.phase = s.phase := exec_same h (p := .phase) apart.2
    by_cases join : ∃ l n payload, i = .joinString l n payload
    · obtain ⟨l, n, payload, rfl⟩ := join
      obtain rfl : _ = t := Host.Outcome.next.inj h
      by_cases running : s.phase = .running
      · refine State.serve_keeps links hs ?_
        unfold onString
        split
        · exact State.join_units hs running _
        · exact hs
      · rw [joinString, State.serve_stopped running]
        exact hs
    · exact hs.of_same (State.chain_congr chains c) (exec_loosens h fun l n payload e => join ⟨l, n, payload, e⟩) phase
  have timed (n : Nat) : (s.atTime n).UnitsKept c := hs.of_same rfl (.atTime s n) rfl
  cases i
  case chainReply d r =>
    obtain rfl : _ = t := Host.Outcome.next.inj h
    unfold chainReply
    split
    · next running =>
      split
      · next x flying => exact State.endTransaction_unitsKept hs running flying _
      · exact hs
    · exact hs
  case replyTimeout d =>
    obtain rfl : _ = t := Host.Outcome.next.inj h
    unfold replyTimeout
    split
    · next running =>
      split
      · next x flying => exact State.endTransaction_unitsKept (timed _) running flying _
      · exact hs
    · exact hs
  case readingAgeTick =>
    obtain rfl : _ = t := Host.Outcome.next.inj h
    have aged (u : State) (d : Str) (hu : u.UnitsKept c) : (u.modChain d Chain.ageSecond).UnitsKept c := by
      refine hu.of_mends ?_ (.modChain u d _) rfl
      rw [State.modChain_chain]
      split
      · exact Chain.ageSecond_mends _
      · exact .refl _
    unfold readingAgeTick
    split
    · exact aged _ .two (aged _ .one (hs.of_same rfl (.of_strings rfl) rfl))
    · exact hs
  case cycleDue d =>
    obtain rfl : _ = t := Host.Outcome.next.inj h
    unfold cycleDue
    split
    · next due =>
      split
      · refine State.firstDue_units (timed _) due.1 fun same x hx scan => ?_
        subst same
        have run := hs.scan x hx scan
        rw [due.2] at run
        cases run
      · exact hs
    · exact hs
  case unfittedCheck d =>
    obtain rfl : _ = t := Host.Outcome.next.inj h
    unfold unfittedCheck State.checkUnfitted
    split
    · next due =>
      split
      · split
        · refine State.firstDue_units (timed _) due.1 fun same x hx scan => ?_
          subst same
          have run := hs.scan x hx scan
          rw [due.2] at run
          cases run
        · next time _ _ =>
          refine (timed time).of_mends ?_ (.modChain _ d _) rfl
          rw [State.modChain_chain]
          split
          · exact ⟨⟨rfl, rfl, rfl⟩, .inl rfl, fun _ => .inl rfl⟩
          · exact .refl _
      · exact hs
    · exact hs
  case probeModule l q payload =>
    obtain rfl : _ = t := Host.Outcome.next.inj h
    by_cases running : s.phase = .running
    · refine State.serve_keeps links hs ?_
      split
      · exact State.probe_units hs running _ _ _
      · exact hs
    · rw [probeModule, State.serve_stopped running]
      exact hs
  case fireEvaluation loops gas1 gas2 =>
    obtain rfl : _ = t := Host.Outcome.next.inj h
    have loose := exec_loosens h (by simp)
    have phase : (fireEvaluation loops gas1 gas2 s).phase = s.phase := exec_same h (p := .phase) (by simp [changedBy])
    unfold fireEvaluation at loose phase ⊢
    split
    · next running =>
      rw [if_pos running] at loose phase
      refine hs.of_mends ?_ loose phase
      have mends := State.passes_mends (((({ s.atTime s.clocks.fire with clocks := { s.clocks with fire := s.clocks.fire + 100 } }).sampleLoops loops).sampleGas gas1 gas2)) c
      rwa [State.chain_congr (s := s) (by simp) c] at mends
    · exact hs
  case resetFire l q payload =>
    obtain rfl : _ = t := Host.Outcome.next.inj h
    refine State.serve_keeps links hs ?_
    unfold noPayload
    split
    · rcases resetFireBlock_cases s with e | ⟨-, -, e⟩ <;> rw [e]
      · exact hs
      · exact hs.of_mends (s.changeStage_mends .normal c) (.changeStage s .normal)
          (Part.same_changeStage (p := .phase) (by decide) (by decide) s .normal)
    · exact hs
  case setParam l q payload =>
    obtain rfl : _ = t := Host.Outcome.next.inj h
    refine State.serve_keeps links hs ?_
    have stored (n : Nat) (v : ParamValue) : (s.storeParam n v).UnitsKept c := by
      have written (k : ConfigStore → ConfigStore) : (s.modConfig k).UnitsKept c := hs.of_same rfl (.of_strings rfl) rfl
      unfold State.storeParam
      split
      · exact hs
      · dsimp only
        split
        · exact (written _).of_mends (State.ceilingWritten_mends _ c) (.of_strings (by simp)) (by simp)
        · exact written _
    unfold setParamBlock
    split
    · exact hs
    · split
      · exact hs
      · exact stored _ _
  case siteResetStart =>
    obtain rfl : _ = t := Host.Outcome.next.inj h
    unfold siteResetStart
    split
    · exact State.completeReset_units (s.startReset_units _ c) (show Phase.loading ≠ .running by decide)
    · exact hs
  case powerOn =>
    obtain rfl : _ = t := Host.Outcome.next.inj h
    unfold powerOn
    split
    · exact s.startReset_units _ c
    · exact hs
  case resetLineAssert =>
    obtain rfl : _ = t := Host.Outcome.next.inj h
    unfold resetLineAssert
    repeat' split
    case isTrue => exact hs
    case isFalse.isTrue => exact hs.of_same rfl (.of_strings rfl) rfl
    case isFalse.isFalse => exact State.startReset_units _ _ c
  case resetLineRelease =>
    obtain rfl : _ = t := Host.Outcome.next.inj h
    refine ⟨hs.current, hs.scan, hs.probe, hs.unfitted, fun stopped => hs.stopped fun running => stopped ?_⟩
    simp [resetLineRelease, running]
  case startUpLoadComplete =>
    obtain rfl : _ = t := Host.Outcome.next.inj h
    unfold startUpLoadComplete
    split
    · next loading =>
      have stopped : s.phase ≠ .running := by rw [loading]; decide
      exact State.completeReset_units (hs.of_same rfl (.of_strings rfl) rfl) stopped
    · exact hs
  case lossOfSupply =>
    obtain rfl : _ = t := Host.Outcome.next.inj h
    unfold lossOfSupply
    split
    · exact hs
    · exact s.startReset_units _ c
  all_goals exact absurd (by simp [changedBy]) apart

/-- Settles O15: what every command keeps, a step keeps. -/
theorem stepKeepsUnitsCurrent : Obligations.StepKeepsUnitsCurrent := by
  unfold Obligations.StepKeepsUnitsCurrent
  intro c s t hs h
  exact step_keeps (P := fun u => u.UnitsKept c) (fun u _ hu => hu.of_same rfl (.of_strings rfl) rfl)
    (fun u _ hu => hu.of_same rfl (.of_strings rfl) rfl) (exec_unitsKept c) hs h

end Sys2Proof.Machine
end

-- ==== Proofs: steps and requests in general ====
section
namespace Sys2Proof.Machine

/-! ## Steps -/

/-- Settles O1. -/
theorem stepTakesFrontCommand : Obligations.StepTakesFrontCommand := by
  unfold Obligations.StepTakesFrontCommand
  intro s c rest
  refine ⟨rfl, fun running => ?_, fun stopped => ?_⟩
  · simp [step, State.idle, running]
  · simp [step, State.idle, stopped]

/-- Every command answers a next state. -/
theorem exec_next (i : Instr) (s : State) : ∃ t, exec i s = .next t := by
  cases i <;> exact ⟨_, rfl⟩

/-- No command touches the queue of waiting commands. -/
theorem pending_unchanged (i : Instr) : Part.pending ∉ changedBy i := by
  cases i <;> simp [changedBy]

/-- Settles O2. -/
theorem everyCommandAnswersNext : Obligations.EveryCommandAnswersNext := by
  unfold Obligations.EveryCommandAnswersNext
  intro c s
  obtain ⟨t, h⟩ := exec_next c s
  exact ⟨t, h, exec_same h (p := .pending) (pending_unchanged c)⟩

/-! ## The reset state -/

/-- The chain right after a reset: its head transaction runs, and no module has a record. -/
theorem reset_chain (c : Str) : State.reset.chain c = (Chain.atReset ⟨1, 12⟩).firstCycle := by
  cases c <;> rfl

theorem reset_modules (a : Addr) : ((Chain.atReset ⟨1, 12⟩).firstCycle).modules[a] = .cleared := by
  show (Vector.replicate 12 ModuleRecord.cleared)[a] = .cleared
  exact Vector.getElem_replicate _

theorem reset_string (c : Str) : (State.reset.string c).state = .opened := by
  cases c <;> rfl

theorem reset_bounded : State.reset.envelopeBounded := by
  intro c
  cases c <;> decide

theorem reset_quiet : State.reset.fire.stage.fire = false := rfl

theorem reset_fireKept : State.reset.FireKept where
  bounded := reset_bounded
  isolates fire := absurd fire (by simp [reset_quiet])
  row fire := absurd fire (by simp [reset_quiet])
  permit _ := rfl

theorem reset_permitKept : State.reset.permitKept :=
  ⟨fun connected => absurd connected (by decide), fun line => absurd line (by decide)⟩

theorem reset_plantKept : State.reset.plantKept :=
  ⟨fun on => absurd on (by decide), fun fire => absurd fire (by simp [reset_quiet])⟩

theorem reset_recordsKept : State.reset.recordsKept := by
  refine ⟨⟨nofun, nofun, nofun⟩, fun c => ?_⟩
  cases c <;> exact ⟨rfl, fun i => by fin_cases i <;> decide⟩

theorem reset_queuesKept : State.reset.queuesKept := by
  refine ⟨fun l => ?_, fun c => ?_⟩
  · cases l <;> exact Nat.zero_le _
  · rw [reset_chain]
    exact ⟨Nat.zero_le _, List.nodup_nil, nofun⟩

theorem reset_balanceKept : State.reset.balanceKept := by
  refine ⟨fun c a => ?_, fun stopped => absurd rfl stopped⟩
  rw [reset_chain, reset_modules]
  exact ModuleRecord.balanceSound_of_empty rfl

theorem reset_agreementKept : State.reset.agreementKept :=
  ⟨fun _ => rfl, fun resolved => absurd resolved (by decide), fun resolved => absurd resolved (by decide)⟩

theorem reset_unitsKept (c : Str) : State.reset.UnitsKept c := by
  have apart : (State.reset.string c).state.apart = true := by
    rw [reset_string]
    rfl
  refine .of_apart apart ?_ ?_ ?_ (fun stopped => absurd rfl stopped) <;> rw [reset_chain]
  · exact fun _ _ _ => rfl
  · intro x flying probe
    cases flying
    cases probe
  · exact nofun

/-- Settles O3. -/
theorem resetMeetsInvariants : Obligations.ResetMeetsInvariants :=
  ⟨reset_bounded, reset_fireKept, reset_permitKept, reset_plantKept, reset_recordsKept, reset_queuesKept,
    reset_balanceKept, reset_agreementKept, reset_unitsKept⟩

/-! ## What a payload of the wrong length is -/

section
variable {payload : List Byte} {s : State}

theorem noPayload_of_payload (h : payload.length ≠ 0) (block : State → State × Served) :
    noPayload payload block s = (s, .now .badFormat []) := by
  rw [noPayload, if_neg fun e => h (List.length_eq_zero_iff.2 e)]

theorem parseModule_of_length (h : payload.length ≠ 2) : parseModule payload = none := by
  unfold parseModule
  split
  · exact absurd rfl h
  · rfl

theorem parseString_of_length (h : payload.length ≠ 1) : parseString payload = none := by
  unfold parseString
  split
  · exact absurd rfl h
  · rfl

theorem onString_of_length (h : payload.length ≠ 1) (act : State → Str → State × AnswerCode) :
    onString payload act s = (s, .now .badFormat []) := by
  rw [onString, parseString_of_length h]

theorem resetBaselineBlock_of_length (h : payload.length ≠ 3) :
    resetBaselineBlock payload s = (s, .now .badFormat []) := by
  have none : parseSensors payload = none := by
    unfold parseSensors
    split
    · exact absurd rfl h
    · rfl
  rw [resetBaselineBlock, none]

theorem setCapBlock_of_length (h : payload.length ≠ 2) (l : Link) : setCapBlock l payload s = (s, .now .badFormat []) := by
  unfold setCapBlock
  split
  · exact absurd rfl h
  · rfl

theorem setMaskBlock_of_length (h : payload.length ≠ 2) (l : Link) : setMaskBlock l payload s = (s, .now .badFormat []) := by
  unfold setMaskBlock
  split
  · exact absurd rfl h
  · rfl

theorem readSnapshotBlock_of_length (h : payload.length ≠ 1) :
    readSnapshotBlock payload s = (s, .now .badFormat []) := by
  unfold readSnapshotBlock
  split
  · exact absurd rfl h
  · rfl

theorem readParamBlock_of_length (h : payload.length ≠ 1) : readParamBlock payload s = (s, .now .badFormat []) := by
  unfold readParamBlock
  split
  · exact absurd rfl h
  · rfl

theorem setSiteModeBlock_of_length (h : payload.length ≠ 1) :
    setSiteModeBlock payload s = (s, .now .badFormat []) := by
  rw [setSiteModeBlock, if_pos]
  constructor <;> rintro rfl <;> exact h rfl

/-- R159: the segments of an extension list are six bytes each. -/
theorem parseSegments_length {payload : List Byte} {segments : List Segment} (h : parseSegments payload = some segments) :
    payload.length = 6 * segments.length := by
  induction payload using parseSegments.induct generalizing segments with
  | case1 =>
    cases h
    rfl
  | case2 a b c d e f rest ih =>
    simp only [parseSegments, Option.map_eq_some_iff] at h
    obtain ⟨tail, found, rfl⟩ := h
    have := ih found
    simp only [List.length_cons]
    omega
  | case3 payload empty six =>
    rw [parseSegments.eq_3 payload empty six] at h
    cases h

/-- R159: the breakpoints of a table are four bytes each. -/
theorem parsePoints_length {payload : List Byte} {points : List Breakpoint} (h : parsePoints payload = some points) :
    payload.length = 4 * points.length := by
  induction payload using parsePoints.induct generalizing points with
  | case1 =>
    cases h
    rfl
  | case2 a b c d rest ih =>
    simp only [parsePoints, Option.map_eq_some_iff] at h
    obtain ⟨tail, found, rfl⟩ := h
    have := ih found
    simp only [List.length_cons]
    omega
  | case3 payload empty four =>
    rw [parsePoints.eq_3 payload empty four] at h
    cases h

/-- R159: an offer has the length of its link's form. -/
theorem offerBlock_of_length {l : Link} (h : offerLength l payload ≠ some payload.length) :
    offerBlock l payload s = (s, .now .badFormat []) := by
  have none : parseOffer l payload = none := by
    unfold parseOffer
    split
    · unfold parseCnvOffer
      split
      · exact absurd rfl h
      · rfl
    · unfold parseStnOffer
      split
      · next t k i1 i2 e1 e2 r1 r2 n1 n2 mf m1 m2 count rest =>
        split
        · next found =>
          refine if_neg fun form => h ?_
          have := parseSegments_length found
          simp only [offerLength, List.length_cons, List.getElem?_cons_succ, List.getElem?_cons_zero, Option.map_some,
            Option.some.injEq]
          omega
        · rfl
      · rfl
    · rfl
  rw [offerBlock, none]

/-- R159, R172: a value has the length of its parameter's form. -/
theorem setParamBlock_of_length (h : setParamLength payload ≠ some payload.length) :
    setParamBlock payload s = (s, .now .badFormat []) := by
  unfold setParamBlock
  split
  · rfl
  · next b value =>
    have none : judgeParam s.params b.toNat value = none := by
      unfold judgeParam
      split
      · rfl
      · next f form =>
        have none : parseValue f value = none := by
          unfold parseValue
          split
          · exact absurd (by simp [setParamLength, form]) h
          · exact absurd (by simp [setParamLength, form]) h
          · exact absurd (by simp [setParamLength, form]) h
          · next count rest =>
            split
            · next points found =>
              have := parsePoints_length found
              split
              · next whole =>
                refine absurd ?_ h
                simp only [setParamLength, form, List.length_cons, Option.some.injEq]
                omega
              · rfl
            · rfl
          · rfl
        rw [none]
    rw [none]

end

/-! ## Every request -/

/-- R155, R166: what a refusal of a request by its link carries. -/
def Request.refusalItems (r : Request) (s : State) : List Item :=
  if r.kind = 10 ∨ r.kind = 11 ∨ (r.kind = 20 ∧ r.payload = [0]) then s.permitItems else []

/-- R155, R159: what the answer BAD-FORMAT to a request of the wrong length carries. -/
def Request.wrongItems (r : Request) (s : State) : List Item :=
  if r.kind = 10 ∨ r.kind = 11 then s.permitItems else []

/-- R159, R166: how a command serves its request: a refusal carries the request's items, and a payload of the wrong length
is BAD-FORMAT. -/
structure Request.ServedBy (r : Request) (l : Link) (act : State → State) (refused : State → List Item)
    (block : State → State × Served) : Prop where
  serves : ∀ s, act s = s.serveWith l r refused block
  refusal : ∀ s, refused s = r.refusalItems s
  wrong : knownKind r.kind = true → payloadLength r.kind.toNat l r.payload ≠ some r.payload.length →
    ∀ s, block s = (s, .now .badFormat (r.wrongItems s))

section
variable {l : Link} {q : Byte} {payload : List Byte} {kind : Byte} {block : State → State × Served}

/-- A request whose refusal carries nothing. -/
theorem Request.ServedBy.plain {act : State → State} (serves : ∀ s, act s = s.serve l ⟨kind, q, payload⟩ block)
    (other : ¬(kind = 10 ∨ kind = 11 ∨ (kind = 20 ∧ payload = [0])))
    (bad : payloadLength kind.toNat l payload ≠ some payload.length → ∀ s, block s = (s, .now .badFormat [])) :
    Request.ServedBy ⟨kind, q, payload⟩ l act (fun _ => []) block where
  serves := serves
  refusal s := (if_neg other).symm
  wrong _ h s := by
    rw [bad h s, Request.wrongItems, if_neg fun either => other (either.imp id .inl)]

/-- A request of no payload whose refusal carries nothing. -/
theorem Request.ServedBy.empty {act : State → State}
    (serves : ∀ s, act s = s.serve l ⟨kind, q, payload⟩ (noPayload payload block))
    (other : ¬(kind = 10 ∨ kind = 11 ∨ (kind = 20 ∧ payload = [0]))) (length : payloadLength kind.toNat l payload = some 0) :
    Request.ServedBy ⟨kind, q, payload⟩ l act (fun _ => []) (noPayload payload block) :=
  .plain serves other fun h _ => noPayload_of_payload (fun e => h (by rw [length, e])) block

/-- A request that names a string and whose refusal carries nothing. -/
theorem Request.ServedBy.named {act : State → State} {f : State → Str → State × AnswerCode}
    (serves : ∀ s, act s = s.serve l ⟨kind, q, payload⟩ (onString payload f))
    (other : ¬(kind = 10 ∨ kind = 11 ∨ (kind = 20 ∧ payload = [0]))) (length : payloadLength kind.toNat l payload = some 1) :
    Request.ServedBy ⟨kind, q, payload⟩ l act (fun _ => []) (onString payload f) :=
  .plain serves other fun h _ => onString_of_length (fun e => h (by rw [length, e])) f

end

/-- R166: every command that serves a request. -/
theorem request_served {i : Instr} {l : Link} {r : Request} (h : requestOf i = some (l, r)) :
    ∃ act refused block, (∀ s, exec i s = .next (act s)) ∧ r.ServedBy l act refused block := by
  cases i
  case clearLockString l q payload =>
    simp only [requestOf] at h
    split at h
    · cases h
    · next other =>
      cases h
      exact ⟨_, _, _, fun _ => rfl, .named (fun _ => by rw [clearLockString, if_neg other]) (fun either => by
        rcases either with e | e | ⟨-, e⟩
        · cases e
        · cases e
        · exact other e) rfl⟩
  case clearLockBreaker l q payload =>
    simp only [requestOf] at h
    split at h
    · next breaker =>
      cases h
      refine ⟨_, _, _, fun _ => rfl, fun s => by rw [clearLockBreaker, if_pos breaker]; rfl, fun s => ?_, fun _ wrong => ?_⟩
      · rw [Request.refusalItems, if_pos (.inr (.inr ⟨rfl, breaker⟩))]
      · exact absurd (by rw [breaker]; rfl) wrong
    · cases h
  case unknownKind l kind q payload =>
    simp only [requestOf] at h
    split at h
    · cases h
    · next unknown =>
      cases h
      refine ⟨_, fun _ => [], _, fun _ => rfl, fun s => by rw [unknownKind, if_neg unknown]; rfl, fun s => ?_,
        fun known => absurd known unknown⟩
      refine (if_neg fun known => unknown ?_).symm
      dsimp only at known
      rcases known with rfl | rfl | ⟨rfl, -⟩ <;> rfl
  all_goals cases h
  case connect q payload =>
    refine ⟨_, _, fun t => reported (if payload = [] then t.connectAnswer l else (t, .badFormat)), fun _ => rfl,
      fun _ => rfl, fun _ => rfl, fun _ wrong s => ?_⟩
    rw [if_neg fun e => wrong (by rw [e]; rfl)]
    rfl
  case disconnect q payload =>
    refine ⟨_, _, fun t => reported (if payload = [] then (t.disconnect, .done) else (t, .badFormat)), fun _ => rfl,
      fun _ => rfl, fun _ => rfl, fun _ wrong s => ?_⟩
    rw [if_neg fun e => wrong (by rw [e]; rfl)]
    rfl
  case joinString | releaseString => exact ⟨_, _, _, fun _ => rfl, .named (fun _ => rfl) (by simp) rfl⟩
  case readEnvelope | resetFire | readFire | clearSnapshots | readStats | clearStats | agreementRestart | readAgreement
      | readNotices | commit | siteReset =>
    exact ⟨_, _, _, fun _ => rfl, .empty (fun _ => rfl) (by simp) rfl⟩
  case probeModule | readCells =>
    exact ⟨_, _, _, fun _ => rfl, .plain (fun _ => rfl) (by simp) fun wrong s => by
      rw [parseModule_of_length fun e => wrong (by rw [e]; rfl)]⟩
  case readString =>
    exact ⟨_, _, _, fun _ => rfl, .plain (fun _ => rfl) (by simp) fun wrong s => by
      rw [parseString_of_length fun e => wrong (by rw [e]; rfl)]⟩
  case resetBaseline =>
    exact ⟨_, _, _, fun _ => rfl, .plain (fun _ => rfl) (by simp) fun wrong s =>
      resetBaselineBlock_of_length fun e => wrong (by rw [e]; rfl)⟩
  case setCap =>
    exact ⟨_, _, _, fun _ => rfl, .plain (fun _ => rfl) (by simp) fun wrong s =>
      setCapBlock_of_length (fun e => wrong (by rw [e]; rfl)) _⟩
  case setMask =>
    exact ⟨_, _, _, fun _ => rfl, .plain (fun _ => rfl) (by simp) fun wrong s =>
      setMaskBlock_of_length (fun e => wrong (by rw [e]; rfl)) _⟩
  case readSnapshot =>
    exact ⟨_, _, _, fun _ => rfl, .plain (fun _ => rfl) (by simp) fun wrong s =>
      readSnapshotBlock_of_length fun e => wrong (by rw [e]; rfl)⟩
  case readParam =>
    exact ⟨_, _, _, fun _ => rfl, .plain (fun _ => rfl) (by simp) fun wrong s =>
      readParamBlock_of_length fun e => wrong (by rw [e]; rfl)⟩
  case setSiteMode =>
    exact ⟨_, _, _, fun _ => rfl, .plain (fun _ => rfl) (by simp) fun wrong s =>
      setSiteModeBlock_of_length fun e => wrong (by rw [e]; rfl)⟩
  case offer => exact ⟨_, _, _, fun _ => rfl, .plain (fun _ => rfl) (by simp) fun wrong s => offerBlock_of_length wrong⟩
  case setParam => exact ⟨_, _, _, fun _ => rfl, .plain (fun _ => rfl) (by simp) fun wrong s => setParamBlock_of_length wrong⟩

/-- R166: a kind that is none of the 27 is refused by the link. -/
theorem portRefusal_unknown {kind : Byte} (h : knownKind kind = false) (l : Link) (mode : SiteMode) :
    portRefusal kind l mode = some .unknownKind := by
  simp [portRefusal, h]

/-- R166: a request that reaches its block is of a known kind. -/
theorem State.delivers.known {s : State} {l : Link} {r : Request} (h : s.delivers l r) : knownKind r.kind = true := by
  cases known : knownKind r.kind with
  | true => rfl
  | false =>
    rw [State.delivers, portRefusal_unknown known] at h
    cases h.2

/-- Settles O4, by what serves every request. -/
theorem refusedRequestsChangeNothing : Obligations.RefusedRequestsChangeNothing := by
  unfold Obligations.RefusedRequestsChangeNothing
  intro i l r s request
  obtain ⟨act, refused, block, runs, served⟩ := request_served request
  rw [runs s, served.serves]
  have refuses (code : AnswerCode) (ready : s.canServe l r = true) (refusal : portRefusal r.kind l s.siteMode = some code) :
      s.serveWith l r refused block = s.answerHead l r code (r.refusalItems s) := by
    rw [State.serveWith_refused ready refusal, served.refusal]
  refine ⟨fun busy => ?_, fun code ready refusal => ?_, fun kind seq payload unknown ready => ?_⟩
  · rw [State.serveWith_unservable busy]
  · rw [refuses code ready refusal]
    rfl
  · subst unknown
    simp only [requestOf] at request
    split at request
    · cases request
    · next new =>
      cases request
      rw [refuses _ ready (portRefusal_unknown (Bool.eq_false_iff.2 new) l _), Request.refusalItems, if_neg]
      dsimp only
      rintro (rfl | rfl | ⟨rfl, -⟩) <;> exact new rfl

/-- Settles O5, by what serves every request. -/
theorem wrongLengthIsBadFormat : Obligations.WrongLengthIsBadFormat := by
  unfold Obligations.WrongLengthIsBadFormat
  intro i l r s request delivered wrong
  obtain ⟨act, refused, block, runs, served⟩ := request_served request
  refine ⟨r.wrongItems s, ?_, fun permit => if_pos permit, fun other other' => if_neg (not_or.2 ⟨other, other'⟩)⟩
  rw [runs s, served.serves, State.serveWith_delivers delivered, served.wrong delivered.known wrong]

/-! ## Reads -/

theorem noPayload_nil (block : State → State × Served) (s : State) : noPayload [] block s = block s := rfl

theorem strOf_none {b : Byte} (one : b ≠ 1) (two : b ≠ 2) : strOf b = none := by
  rw [strOf, if_neg one, if_neg two]

theorem addrOf_none {b : Byte} (h : b = 0 ∨ 12 < b.toNat) : addrOf b = none := by
  refine dif_neg fun e => ?_
  rcases h with rfl | far
  · exact e.2 rfl
  · omega

theorem parseModule_none {m n : Byte} (h : (m ≠ 1 ∧ m ≠ 2) ∨ n = 0 ∨ 12 < n.toNat) : parseModule [m, n] = none := by
  rcases h with ⟨one, two⟩ | far
  · simp only [parseModule, strOf_none one two]
  · simp only [parseModule, addrOf_none far]
    cases strOf m <;> rfl

/-- R120: what READ-SNAPSHOT of a slot answers. -/
theorem readSnapshotBlock_slot (s : State) {b : Byte} (i : Fin 4) (h : b.toNat = i.val + 1) :
    readSnapshotBlock [b] s = (s, .now .done (slotItems (i.val + 1) (s.store.snapshots.slots.getD i.val none))) := by
  unfold readSnapshotBlock
  dsimp only
  rw [h]
  fin_cases i <;> rfl

theorem readSnapshotBlock_far (s : State) {b : Byte} (h : 4 < b.toNat) :
    readSnapshotBlock [b] s = (s, .now .badFormat []) := by
  unfold readSnapshotBlock
  dsimp only
  obtain ⟨n, e⟩ := Nat.exists_eq_add_of_le' h
  rw [e]
  rfl

/-- R173: no form belongs to a number above 57. -/
theorem paramForm_none {n : Nat} (h : 57 < n) : paramForm n = none := by
  obtain ⟨m, rfl⟩ := Nat.exists_eq_add_of_le' h
  rfl

/-- Settles O6. -/
theorem readsAreAnsweredAtOnce : Obligations.ReadsAreAnsweredAtOnce := by
  unfold Obligations.ReadsAreAnsweredAtOnce
  intro l q b payload s
  refine ⟨fun m n d wrong => ?_, fun d one two => ?_, fun d far => ?_, fun d far => ?_, fun c a d named => ?_,
    fun c d named => ?_, fun d => ?_, fun d => ?_, fun d => ?_, fun i slot d => ?_, fun d => ?_, fun d => ?_, fun d => ?_,
    fun f form d => ?_⟩
  · exact congrArg Host.Outcome.next (State.serve_now d (by rw [parseModule_none wrong]))
  · exact congrArg Host.Outcome.next (State.serve_now d (by rw [parseString, strOf_none one two]))
  · exact congrArg Host.Outcome.next (State.serve_now d (readSnapshotBlock_far s far))
  · refine congrArg Host.Outcome.next (State.serve_now d ?_)
    have nonzero : b ≠ 0 := by
      rintro rfl
      exact absurd far (by decide)
    rw [readParamBlock, if_neg nonzero, paramForm_none far]
  · exact congrArg Host.Outcome.next (State.serve_now d (by rw [named]))
  · exact congrArg Host.Outcome.next (State.serve_now d (by rw [named]))
  · exact congrArg Host.Outcome.next (State.serve_now d (noPayload_nil _ s))
  · exact congrArg Host.Outcome.next (State.serve_now d (noPayload_nil _ s))
  · exact congrArg Host.Outcome.next (State.serve_now d rfl)
  · exact congrArg Host.Outcome.next (State.serve_now d (readSnapshotBlock_slot s i slot))
  · exact congrArg Host.Outcome.next (State.serve_now d (noPayload_nil _ s))
  · exact congrArg Host.Outcome.next (State.serve_now d (noPayload_nil _ s))
  · exact congrArg Host.Outcome.next (State.serve_now d rfl)
  · refine congrArg Host.Outcome.next (State.serve_now d ?_)
    have nonzero : b ≠ 0 := by
      rintro rfl
      cases form
    rw [readParamBlock, if_neg nonzero, form]

end Sys2Proof.Machine
end

-- ==== Proofs: notices, and what a reported string state leaves ====
section
namespace Sys2Proof.Machine

/-! ## A state field by field -/

/-- Two states are one where every field is. -/
theorem State.eq_iff {s t : State} : t = s ↔
    t.phase = s.phase ∧ t.resetLine = s.resetLine ∧ t.resetKind = s.resetKind ∧ t.siteResetDue = s.siteResetDue
      ∧ t.uptime = s.uptime ∧ t.clocks = s.clocks ∧ t.chains = s.chains ∧ t.supervision = s.supervision
      ∧ t.strings = s.strings ∧ t.envelope = s.envelope ∧ t.plant = s.plant ∧ t.fire = s.fire ∧ t.store = s.store
      ∧ t.agreement = s.agreement ∧ t.permit = s.permit ∧ t.links = s.links ∧ t.siteMode = s.siteMode
      ∧ t.stationCap = s.stationCap ∧ t.serviceCap = s.serviceCap ∧ t.config = s.config ∧ t.choices = s.choices
      ∧ t.pending = s.pending := by
  cases s
  cases t
  simp only [State.mk.injEq]

/-! ## Notices of one kind (R167) -/

theorem NoticeKind.place_injective : Function.Injective NoticeKind.place := by
  intro m n h
  cases m <;> cases n <;> first | rfl | cases h

/-- R167: a posting changes the pending notice of its kind alone. -/
theorem LinkState.post_notice_other {m n : NoticeKind} (h : m ≠ n) (k : LinkState) (d : NoticeDetail) :
    (k.post n d).notice m = k.notice m := by
  rw [LinkState.notice, LinkState.post, vmod_get, if_neg fun e => h (NoticeKind.place_injective e)]
  rfl

/-- The pending notices of a kind are the same on every link. -/
def State.SameNotice (m : NoticeKind) (s t : State) : Prop := ∀ l, (t.link l).notice m = (s.link l).notice m

section
variable {m : NoticeKind} {s t u : State}

theorem State.SameNotice.trans (h : s.SameNotice m t) (h' : t.SameNotice m u) : s.SameNotice m u :=
  fun l => (h' l).trans (h l)

theorem State.SameNotice.of_links (h : t.links = s.links) : s.SameNotice m t := fun l => by
  rw [State.link, State.link, h]

theorem State.SameNotice.post (s : State) {n : NoticeKind} (h : m ≠ n) (d : NoticeDetail) : s.SameNotice m (s.post n d) :=
  fun l => by rw [State.post_link, LinkState.post_notice_other h]

/-- R167: a kind posted before and after stands alone. -/
theorem State.posts_of_same {n : NoticeKind} {d : NoticeDetail} (h : (s.post n d).SameNotice n t) : s.posts t n d :=
  fun l => (h l).trans (by rw [State.post_link])

theorem State.posts_of_before {n : NoticeKind} {d : NoticeDetail} (before : s.SameNotice n t) (h : t.posts u n d) :
    s.posts u n d := fun l => by
  have same : ((t.link l).post n d).notice n = ((s.link l).post n d).notice n := by
    have := before l
    simp only [LinkState.notice, LinkState.post, vmod_same] at this ⊢
    rw [this]
  exact (h l).trans same

theorem State.SameNotice.publish (h : m ≠ .envelopeChanged) (s : State) (limits : Row) : s.SameNotice m (s.publish limits) := by
  unfold State.publish
  split
  · exact .of_links rfl
  · exact .trans (.of_links rfl) (.post _ h _)

theorem State.SameNotice.downward (h : m ≠ .envelopeChanged) (s : State) : s.SameNotice m s.downward := .publish h s _

theorem State.SameNotice.updateTable (h : m ≠ .envelopeChanged) (s : State) (f : LimitTable → LimitTable) :
    s.SameNotice m (s.updateTable f) := .trans (.of_links rfl) (.downward h _)

theorem State.SameNotice.computeGa (h : m ≠ .envelopeChanged) (s : State) : s.SameNotice m s.computeGa :=
  .trans (.of_links rfl) (.updateTable h _ _)

theorem State.SameNotice.trip (h : m ≠ .breaker) (s : State) (k : TripCause) : s.SameNotice m (s.trip k) := by
  unfold State.trip State.postBreaker
  split
  · exact .trans (.of_links rfl) (.post _ h _)
  · exact .of_links rfl

theorem State.SameNotice.noStringTrip (h : m ≠ .breaker) (s : State) : s.SameNotice m s.noStringTrip := by
  unfold State.noStringTrip
  split
  · exact .trip h s _
  · exact .of_links rfl

/-- R44: what a report of a string state posts is neither STRING-STATE nor FAULT. -/
theorem State.SameNotice.reportString (h : m ≠ .envelopeChanged) (h' : m ≠ .breaker) (s : State) (before : Nat) :
    s.SameNotice m (s.reportString before) := by
  obtain ⟨order, n, e, -, members, -⟩ := s.reportString_course before
  rw [e]
  refine State.SameNotice.trans (t := s.through order) ?_ (.of_links rfl)
  refine State.through_keeps (P := fun t => s.SameNotice m t) (fun f hf t ht => ht.trans ?_) (.of_links rfl)
  rcases members f hf with rfl | rfl | rfl
  · exact .downward h t
  · exact .computeGa h t
  · exact .noStringTrip h' t

theorem State.SameNotice.setString (h : m ≠ .envelopeChanged) (h' : m ≠ .breaker) (h'' : m ≠ .stringState) (s : State)
    (c : Str) (new : StringState) : s.SameNotice m (s.setString c new) := by
  rcases s.setString_cases c new with ⟨-, -, e⟩ | ⟨-, e⟩ <;> rw [e]
  · exact .of_links rfl
  · exact .trans (.trans (.of_links rfl) (.post _ h'' _)) (.reportString h h' _ _)

/-- R44: a change of state is posted once on every link. -/
theorem State.setString_posts {c : Str} {new : StringState}
    (changed : ¬((s.string c).state.name = new.name ∧ (s.string c).state.cause = new.cause)) :
    s.posts (s.setString c new) .stringState (.string c new.name new.cause) := by
  rcases s.setString_cases c new with ⟨name, cause, -⟩ | ⟨-, e⟩
  · exact absurd ⟨name, cause⟩ changed
  · rw [e]
    exact State.posts_of_same (.reportString (by decide) (by decide) _ _)

end

/-! ## Nothing to report (R68, R145) -/

section
variable {s : State} {c : Str} {new : StringState}

theorem Row.ext_str {r q : Row} (h : ∀ c, r.charge c = q.charge c ∧ r.discharge c = q.discharge c) : r = q := by
  have one := h .one
  have two := h .two
  cases r
  cases q
  simp only [Row.charge, Row.discharge] at one two
  simp [one, two]

@[simp] theorem Row.zip_charge (f : Nat → Nat → Nat) (r q : Row) (c : Str) : (r.zip f q).charge c = f (r.charge c) (q.charge c) := by
  cases c <;> rfl

@[simp] theorem Row.zip_discharge (f : Nat → Nat → Nat) (r q : Row) (c : Str) :
    (r.zip f q).discharge c = f (r.discharge c) (q.discharge c) := by
  cases c <;> rfl

/-- R68: a downward computation of limits within their targets changes nothing. -/
theorem State.downward_still (h : s.envelopeBounded) : s.downward = s := by
  rw [State.envelopeBounded_iff] at h
  rw [State.downward, State.publish, if_pos]
  exact Row.ext_str fun c => by
    simp only [Row.zip_charge, Row.zip_discharge]
    exact ⟨Nat.min_eq_left (h c).1, Nat.min_eq_left (h c).2⟩

/-- R145, R150: with a string JOINED or no permit connected there is no NO-STRING trip. -/
theorem State.noStringTrip_still (h : s.permit.state.connected = true → s.joinedCount ≥ 1) : s.noStringTrip = s := by
  unfold State.noStringTrip
  split
  · next none =>
    rw [State.trip, if_neg fun connected => by have := h connected; omega]
  · rfl

/-- R44: a change among the states that are not JOINED is posted, and changes nothing else. -/
theorem State.setString_quiet (changed : ¬((s.string c).state.name = new.name ∧ (s.string c).state.cause = new.cause))
    (before : (s.string c).state ≠ .joined) (after : new ≠ .joined) (bounded : s.envelopeBounded) (permit : s.permitKept) :
    s.setString c new = (s.storeString c new).post .stringState (.string c new.name new.cause) := by
  generalize posted : (s.storeString c new).post .stringState (.string c new.name new.cause) = t
  have joined (d : Str) : t.isJoined d = s.isJoined d := by
    rw [← posted]
    show decide (((s.storeString c new).string d).state = .joined) = decide ((s.string d).state = .joined)
    rw [State.storeString_state]
    split
    · next same =>
      subst same
      rw [decide_eq_false after, decide_eq_false before]
    · rfl
  have count := State.joinedCount_congr joined
  rcases s.setString_cases c new with ⟨name, cause, -⟩ | ⟨-, e⟩
  · exact absurd ⟨name, cause⟩ changed
  · have still : t.downward = t :=
      State.downward_still (State.envelopeBounded_congr (s := s) (by rw [← posted]; rfl) (by rw [← posted]; rfl) joined bounded)
    rw [e, posted, State.reportString, if_pos count, still]
    refine State.noStringTrip_still fun connected => ?_
    rw [count]
    exact (permit.1 (by rw [← posted] at connected; exact connected)).1

/-! ## A string JOINED, or JOINED no more (R69, R139, R150) -/

/-- Where one string's state changes into or out of JOINED, the number of JOINED strings changes. -/
theorem State.joinedCount_changed {t : State} (other : ∀ d, d ≠ c → t.isJoined d = s.isJoined d)
    (changed : t.isJoined c ≠ s.isJoined c) : t.joinedCount ≠ s.joinedCount := by
  rw [t.joinedCount_eq, s.joinedCount_eq]
  cases c with
  | one =>
    rw [other .two (by decide)]
    revert changed
    cases t.isJoined .one <;> cases s.isJoined .one <;> simp
  | two =>
    rw [other .one (by decide)]
    revert changed
    cases t.isJoined .two <;> cases s.isJoined .two <;> simp

/-- R44, R69, R139, R150: what a change of string state into or out of JOINED leaves. -/
structure State.Rejoined (s : State) (t : State) : Prop where
  bounded : t.envelopeBounded
  counted : t.agreement.countUsed = some t.joinedCount
  alone : t.joinedCount = 0 → t.permit.state.connected = false

theorem State.setString_rejoined (changed : decide (new = .joined) ≠ s.isJoined c) :
    s.Rejoined (s.setString c new) := by
  have name : ¬((s.string c).state.name = new.name ∧ (s.string c).state.cause = new.cause) := by
    rintro ⟨name, -⟩
    have := State.storeString_isJoined name c
    rw [State.isJoined, State.storeString_state, if_pos rfl] at this
    exact changed this
  rcases s.setString_cases c new with ⟨name', cause, -⟩ | ⟨-, e⟩
  · exact absurd ⟨name', cause⟩ name
  refine ⟨State.setString_reported_bounded name, ?_, fun none => ?_⟩
  · rw [e]
    generalize stored : (s.storeString c new).post .stringState (.string c new.name new.cause) = t
    have joined (d : Str) : t.isJoined d = (s.storeString c new).isJoined d := by rw [← stored]; rfl
    have count : t.joinedCount ≠ s.joinedCount := by
      refine State.joinedCount_changed (c := c) (fun d other => ?_) ?_
      · rw [joined, State.isJoined, State.storeString_state, if_neg other, State.isJoined]
      · rw [joined, State.isJoined, State.storeString_state, if_pos rfl]
        exact changed
    obtain ⟨order, n, e', -, members, updates, -⟩ := t.reportString_course s.joinedCount
    have strings (u : State) (f : State → State) (hf : f ∈ order) : (f u).strings = u.strings := by
      rcases members f hf with rfl | rfl | rfl <;> simp
    rw [e']
    refine State.through_establishes (P := fun u => u.agreement.countUsed = some u.joinedCount) (Q := fun _ => True)
      (updates count) (fun _ _ _ _ => trivial) (fun u _ => ?_) (fun f hf u _ hu => ?_) trivial
    · rw [State.joinedCount_congr (s := u) (State.isJoined_congr (by simp)), u.computeGa_agreement]
    · rw [State.joinedCount_congr (s := u) (State.isJoined_congr (strings u f hf))]
      rcases members f hf with rfl | rfl | rfl
      · simpa using hu
      · rw [u.computeGa_agreement]
      · simpa using hu
  · exact Bool.eq_false_iff.2 fun connected => by
      have := State.setString_reported_permitJoined name connected
      omega

end

end Sys2Proof.Machine
end

-- ==== Proofs: string contactors ====
section
namespace Sys2Proof.Machine

/-! ## Requests that name a string -/

section
variable {s : State} {c : Str} {payload : List Byte}

theorem onString_named (h : parseString payload = some c) (act : State → Str → State × AnswerCode) :
    onString payload act s = ((act s c).1, .now (act s c).2 []) := by
  rw [onString, h]

theorem onString_unnamed {b : Byte} (one : b ≠ 1) (two : b ≠ 2) (act : State → Str → State × AnswerCode) :
    onString [b] act s = (s, .now .badFormat []) := by
  rw [onString, parseString, strOf_none one two]

/-! ## Opening requests (R52, R53, R54) -/

/-- R52: what a protective opening request at an uptime makes of a string state. -/
def StringState.protected (g : StringState) (k : LockCause) (now : Nat) : StringState :=
  match g with
  | .joined => .opening (.locked k) (now + 2000)
  | .opening .opened t => .opening (.locked k) t
  | .opening (.locked e) t => .opening (.locked e) t
  | .precharge (.matching _) => .locked k
  | .precharge .handover => .opening (.locked k) (now + 2000)
  | .opened => .locked k
  | .locked e => .locked e

/-- R53: what a unit loss at an uptime makes of a string state. -/
def StringState.unitLost (g : StringState) (now : Nat) : StringState :=
  match g with
  | .joined => .opening .opened (now + 2000)
  | .precharge (.matching _) => .opened
  | .precharge .handover => .opening .opened (now + 2000)
  | g => g

theorem State.countTrip_string (s : State) (c d : Str) (k : LockCause) : (s.countTrip c k).string d = s.string d := rfl

theorem State.countTrip_trips (s : State) (c : Str) (k : LockCause) :
    ((s.countTrip c k).store.strings.get c).trips = (s.store.strings.get c).trips.count k := by
  simp [State.countTrip, State.modStats]

theorem State.setString_store (s : State) (c : Str) (new : StringState) : (s.setString c new).store = s.store := by simp

@[simp] theorem State.protect_state (s : State) (c : Str) (k : LockCause) :
    ((s.protect c k).string c).state = (s.string c).state.protected k s.uptime := by
  unfold State.protect
  split
  · next g =>
    rw [g, State.setString_state, if_pos rfl]
    rfl
  all_goals
    next g =>
      rw [g]
      simp [StringState.protected, openingTime]

theorem State.protect_trips (s : State) (c : Str) (k : LockCause) :
    ((s.protect c k).store.strings.get c).trips
      = if (s.string c).state = .joined ∧ k = .excursion then (s.store.strings.get c).trips.count .excursion
        else (s.store.strings.get c).trips := by
  unfold State.protect
  split
  · next g =>
    rw [State.setString_store]
    by_cases excursion : k = .excursion
    · rw [if_pos excursion, if_pos ⟨g, excursion⟩, State.countTrip_trips]
    · rw [if_neg excursion, if_neg fun h => excursion h.2]
  all_goals
    next g => simp [g]

@[simp] theorem State.unitLost_state (s : State) (c : Str) :
    ((s.unitLost c).string c).state = (s.string c).state.unitLost s.uptime := by
  unfold State.unitLost
  split
  · next g => simp [StringState.unitLost, openingTime, g]
  · next g => simp [StringState.unitLost, g]
  · next g => simp [StringState.unitLost, openingTime, g]
  · next joined matching handover =>
    unfold StringState.unitLost
    split
    · next g => exact absurd g joined
    · next g => exact absurd g (matching _)
    · next g => exact absurd g handover
    · rfl

/-- R44: a change of one string's state is no change of the other. -/
theorem State.setString_other {d : Str} (h : d ≠ c) (new : StringState) : (s.setString c new).string d = s.string d := by
  rw [State.string, State.setString_strings, ← State.string, State.storeString, State.modString_string, if_neg h]

theorem State.protect_other {d : Str} (h : d ≠ c) (k : LockCause) : (s.protect c k).string d = s.string d := by
  unfold State.protect
  split
  · rw [State.setString_other h]
    split <;> rfl
  all_goals simp only [State.setString_other h]

theorem State.unitLost_other {d : Str} (h : d ≠ c) : (s.unitLost c).string d = s.string d := by
  unfold State.unitLost
  split
  all_goals simp only [State.setString_other h]

end

/-- Settles O25. -/
theorem openingRequests : Obligations.OpeningRequests := by
  unfold Obligations.OpeningRequests
  intro c k s
  refine ⟨fun from_ to_ rule state => ⟨?_, ?_⟩, fun from_ to_ rule state => ⟨?_, by simp⟩, fun apart => ?_, fun engaged => ?_,
    fun d other => ⟨State.protect_other other k, State.unitLost_other other, ?_⟩⟩
  · rw [State.protect_state, state]
    rcases rule with ⟨rfl, rfl⟩ | ⟨t, rfl, rfl⟩ | ⟨rfl, rfl⟩ | ⟨rfl, rfl⟩ | ⟨t, rfl, rfl⟩ | ⟨e, t, rfl, rfl⟩ | ⟨e, rfl, rfl⟩ <;> rfl
  · rw [State.protect_trips, state]
  · rw [State.unitLost_state, state]
    rcases rule with ⟨rfl, rfl⟩ | ⟨t, rfl, rfl⟩ | ⟨rfl, rfl⟩ | ⟨rfl | ⟨e, rfl⟩ | ⟨e, t, rfl⟩, rfl⟩ <;> rfl
  · rw [State.forceOpen, if_pos apart]
  · rw [State.forceOpen, if_neg (by simp [engaged]), State.setString_state, if_pos rfl]
  · unfold State.forceOpen
    split
    · rfl
    · exact State.setString_other other _

/-! ## JOIN-STRING (R46) -/

section
variable {s : State} {c : Str} {payload : List Byte}

theorem ModuleRecord.hasInvalid_iff {m : ModuleRecord} : m.hasInvalid = true ↔ ∃ j : Fin 16, m.cells[j] = none := by
  simp only [ModuleRecord.hasInvalid, List.any_eq_true, Vector.mem_toList_iff, Vector.mem_iff_getElem, Option.isNone_iff_eq_none]
  constructor
  · rintro ⟨o, ⟨i, hi, rfl⟩, none⟩
    exact ⟨⟨i, hi⟩, none⟩
  · rintro ⟨j, none⟩
    exact ⟨_, ⟨j.val, j.isLt, rfl⟩, none⟩

theorem Chain.anyInvalid_iff {k : Chain} :
    k.anyInvalid = true ↔ ∃ a : Addr, k.fitted a = true ∧ ∃ j : Fin 16, (k.modules[a]).cells[j] = none := by
  simp only [Chain.anyInvalid, List.any_eq_true, Prod.exists, Chain.mem_fittedModules]
  constructor
  · rintro ⟨a, m, ⟨fitted, rfl⟩, invalid⟩
    exact ⟨a, fitted, ModuleRecord.hasInvalid_iff.1 invalid⟩
  · rintro ⟨a, fitted, invalid⟩
    exact ⟨a, _, ⟨fitted, rfl⟩, ModuleRecord.hasInvalid_iff.2 invalid⟩

/-- R46: the join conditions. -/
theorem State.joinConditions_iff : s.joinConditions c = true ↔
    (s.chain c).head.status = .current
      ∧ (∀ a : Addr, (s.chain c).fitted a = true → ((s.chain c).modules[a]).status = .current
          ∧ ∀ j : Fin 16, ((s.chain c).modules[a]).cells[j] ≠ none)
      ∧ (s.cells c).overVolt = 0 ∧ (s.cells c).underVolt = 0 ∧ (s.cells c).overTemp = 0
      ∧ (s.fire.stage = .normal ∨ s.fire.stage = .preAlert) ∧ s.config.fault = false := by
  have valid : (s.chain c).anyInvalid = false
      ↔ ∀ a : Addr, (s.chain c).fitted a = true → ∀ j : Fin 16, ((s.chain c).modules[a]).cells[j] ≠ none := by
    rw [← Bool.not_eq_true, Chain.anyInvalid_iff]
    push Not
    rfl
  simp only [State.joinConditions, Bool.and_eq_true, Chain.allCurrent_iff, Bool.not_eq_eq_eq_not, Bool.not_true, valid,
    beq_iff_eq, Bool.or_eq_true, decide_eq_true_eq]
  constructor
  · rintro ⟨⟨⟨⟨⟨⟨⟨head, current⟩, valid⟩, ov⟩, uv⟩, ot⟩, stage⟩, fault⟩
    exact ⟨head, fun a fitted => ⟨current a fitted, valid a fitted⟩, ov, uv, ot, stage, fault⟩
  · rintro ⟨head, modules, ov, uv, ot, stage, fault⟩
    exact ⟨⟨⟨⟨⟨⟨⟨head, fun a fitted => (modules a fitted).1⟩, fun a fitted => (modules a fitted).2⟩, ov⟩, uv⟩, ot⟩, stage⟩, fault⟩

theorem PerString.mod_mod {α : Type} (p : PerString α) (c : Str) (f g : α → α) :
    (p.mod c f).mod c g = p.mod c fun x => g (f x) := by
  cases c <;> rfl

/-- A change of one thing is the change it makes of what stands there. -/
theorem PerString.mod_congr {α : Type} {p : PerString α} {c : Str} {f g : α → α} (h : f (p.get c) = g (p.get c)) :
    p.mod c f = p.mod c g := by
  cases c <;> simp_all [PerString.mod, PerString.get]

/-- R46: the string enters PRECHARGE in MATCHING. -/
theorem State.join_opened (opened : (s.string c).state = .opened) (conditions : s.joinConditions c = true)
    (bounded : s.envelopeBounded) (permit : s.permitKept) :
    s.join c = (State.post { s with
      strings := s.strings.mod c fun k => { k with
        state := .precharge (.matching (s.uptime + 10000)), excursions := 0
        check := some (s.uptime + 200) } } .stringState (.string c .precharge none), .done) := by
  have reset : ((s.modString c fun k => { k with excursions := 0 }).string c).state = .opened := by
    rw [State.modString_string, if_pos rfl]
    exact opened
  have quiet := State.setString_quiet (s := s.modString c fun k => { k with excursions := 0 }) (c := c)
    (new := .precharge (.matching (s.uptime + prechargeTime))) (by rw [reset]; simp [StringState.name]) (by rw [reset]; simp)
    (by simp) (State.envelopeBounded_congr (s := s) rfl rfl (fun d => by
      simp only [State.isJoined, State.modString_string]
      split <;> rfl) bounded) ?_
  · have stored : (s.modString c fun k => { k with excursions := 0 }).storeString c (.precharge (.matching (s.uptime + prechargeTime)))
        = { s with strings := s.strings.mod c fun k => { k with
            state := .precharge (.matching (s.uptime + 10000)), excursions := 0, check := some (s.uptime + 200) } } := by
      rw [State.storeString, reset]
      simp only [State.modString, PerString.mod_mod]
      rfl
    rw [stored] at quiet
    unfold State.join
    rw [opened]
    simp only [conditions, if_true]
    rw [quiet]
    rfl
  · obtain ⟨joined, line⟩ := permit
    refine ⟨fun connected => ?_, line⟩
    rw [State.joinedCount_congr (s := s) fun d => by
      simp only [State.isJoined, State.modString_string]
      split <;> rfl]
    exact joined connected

/-- Settles O20. -/
theorem Settled.joinString : Obligations.JoinString := by
  unfold Obligations.JoinString
  intro l q payload c s r hr d
  subst hr
  have answers (t : State) (code : AnswerCode) (h : s.join c = (t, code)) (named : parseString payload = some c) :
      exec (.joinString l q payload) s = .next (t.answerHead l ⟨5, q, payload⟩ code []) :=
    congrArg Host.Outcome.next (State.serve_now d (by rw [onString_named named, h]))
  refine ⟨fun b hb one two => ?_, fun named => ⟨?_, ?_, fun conditions opened meaning => ⟨fun fails => ?_, fun holds bounded permit => ?_⟩⟩⟩
  · subst hb
    exact congrArg Host.Outcome.next (State.serve_now d (onString_unnamed one two _))
  · rintro (⟨ph, g⟩ | g) <;> exact answers s .done (by unfold State.join; rw [g]) named
  · rintro (⟨k, g⟩ | ⟨e, t, g⟩) <;> exact answers s .refusedState (by unfold State.join; rw [g]) named
  · refine answers s .refusedState ?_ named
    unfold State.join
    rw [opened]
    exact if_neg fun conditions => fails (meaning.2 (State.joinConditions_iff.1 conditions))
  · exact answers _ .done (State.join_opened opened (State.joinConditions_iff.2 (meaning.1 holds)) bounded permit) named

/-! ## RELEASE-STRING (R50) -/

/-- R44, R56: a string controller after a change of its state. -/
theorem State.setString_string (s : State) (c : Str) (new : StringState) :
    (s.setString c new).string c = { s.string c with
      state := new
      check := if (s.string c).state.mainDrive != new.mainDrive
          || (s.string c).state.prechargeDrive != new.prechargeDrive then some (s.uptime + 200) else (s.string c).check } := by
  rw [State.string, State.setString_strings, ← State.string, State.storeString, State.modString_string, if_pos rfl]

theorem LinkState.quiet_answered {k j : LinkState} (h : k.quiet = j.quiet) (a : Answer) :
    LinkState.quiet { k with out := k.out ++ [a] } = LinkState.quiet { j with out := j.out ++ [a] } := by
  simp only [LinkState.quiet, LinkState.mk.injEq] at h ⊢
  simp [h]

/-- R166: an answer composed where the links differ in their notices alone. -/
theorem State.answerHead_quietLinks {t : State} (h : t.quietLinks = s.quietLinks) (l : Link) (r : Request) (code : AnswerCode)
    (content : List Item) : (t.answerHead l r code content).quietLinks = (s.answerHead l r code content).quietLinks := by
  refine PerLink.ext_get fun m => ?_
  have quiet := State.quiet_link h m
  simp only [State.quietLinks, PerLink.get_mapLinks]
  show ((t.answerHead l r code content).link m).quiet = ((s.answerHead l r code content).link m).quiet
  rw [State.answerHead, State.answerHead, State.answer, State.answer, State.modLink_link, State.modLink_link]
  split
  · exact LinkState.quiet_answered quiet _
  · exact quiet

theorem LinkState.answered_notice (k : LinkState) (a : Answer) (n : NoticeKind) :
    LinkState.notice { k with out := k.out ++ [a] } n = k.notice n := rfl

/-- R166: an answer composed posts nothing. -/
theorem State.SameNotice.answerHead {m : NoticeKind} (s : State) (l : Link) (r : Request) (code : AnswerCode)
    (content : List Item) : s.SameNotice m (s.answerHead l r code content) := fun k => by
  rw [State.answerHead, State.answer, State.modLink_link]
  split <;> rfl

/-- R68: the limits of a string that is not JOINED. -/
theorem State.envelopeBounded.zero (h : s.envelopeBounded) (apart : (s.string c).state ≠ .joined) :
    s.envelope.limits.charge c = 0 ∧ s.envelope.limits.discharge c = 0 :=
  (h c).2.2 (decide_eq_false apart)

/-- Settles O21. -/
theorem Settled.releaseString : Obligations.ReleaseString := by
  unfold Obligations.ReleaseString
  intro l q payload c s r hr d
  subst hr
  have answers (t : State) (h : s.release c = t) (named : parseString payload = some c) :
      exec (.releaseString l q payload) s = .next (t.answerHead l ⟨6, q, payload⟩ .done []) :=
    congrArg Host.Outcome.next (State.serve_now d (by rw [onString_named named, h]))
  refine ⟨fun b hb one two => ?_, fun named => ⟨?_, fun ph g bounded permit => ?_, fun joined => ?_⟩⟩
  · subst hb
    exact congrArg Host.Outcome.next (State.serve_now d (onString_unnamed one two _))
  · rintro (g | ⟨k, g⟩ | ⟨e, t, g⟩) <;> exact answers s (by unfold State.release; rw [g]) named
  · refine answers _ ?_ named
    unfold State.release
    simp only [g]
    rw [State.setString_quiet (by rw [g]; simp [StringState.name]) (by rw [g]; simp) (by simp) bounded permit, State.storeString, g]
    cases ph <;> rfl
  · have released : s.release c = s.setString c (.opening .opened (s.uptime + 2000)) := by
      unfold State.release
      rw [joined]
      rfl
    have rejoined : s.Rejoined (s.setString c (.opening .opened (s.uptime + 2000))) :=
      State.setString_rejoined (by simp [State.isJoined, joined])
    have string : (s.setString c (.opening .opened (s.uptime + 2000))).string c
        = { s.string c with state := .opening .opened (s.uptime + 2000) } := by
      rw [State.setString_string, joined]
      rfl
    have posts : s.posts (s.setString c (.opening .opened (s.uptime + 2000))) .stringState (.string c .opening none) :=
      State.setString_posts (new := .opening .opened (s.uptime + 2000)) (by rw [joined]; simp [StringState.name])
    have quiet : (s.setString c (.opening .opened (s.uptime + 2000))).quietLinks = s.quietLinks := by simp
    have other (d : Str) (h : d ≠ c) := State.setString_other (s := s) h (.opening .opened (s.uptime + 2000))
    have frame : s.setString c (.opening .opened (s.uptime + 2000)) = { s with
        strings := (s.setString c (.opening .opened (s.uptime + 2000))).strings
        envelope := (s.setString c (.opening .opened (s.uptime + 2000))).envelope
        agreement := (s.setString c (.opening .opened (s.uptime + 2000))).agreement
        permit := (s.setString c (.opening .opened (s.uptime + 2000))).permit
        links := (s.setString c (.opening .opened (s.uptime + 2000))).links
        choices := (s.setString c (.opening .opened (s.uptime + 2000))).choices } := State.eq_iff.2 (by simp)
    generalize s.setString c (.opening .opened (s.uptime + 2000)) = t at *
    have zero := rejoined.bounded.zero (c := c) (by rw [string]; simp)
    refine ⟨_, answers t released named, string, other, zero.1, zero.2, rejoined.counted, rejoined.alone, fun k => ?_,
      State.answerHead_quietLinks quiet l _ _ _, ?_⟩
    · rw [← posts k]
      exact State.SameNotice.answerHead t l _ _ _ k
    · rw [State.eq_iff] at frame ⊢
      simpa using frame

/-! ## The timers (R48, R51) -/

/-- Settles O22. -/
theorem stringTimers : Obligations.StringTimers := by
  unfold Obligations.StringTimers
  intro c s
  have opens (e : EndState) (t : Nat) (g : (s.string c).state = .opening e t) (bounded : s.envelopeBounded)
      (permit : s.permitKept) : openingTimerExpiry c s = State.post { s with
        uptime := max s.uptime t
        strings := s.strings.mod c fun k => { k with state := e.state, check := some (max s.uptime t + 200) }
        } .stringState (.string c e.state.name e.state.cause) := by
    have state : ((s.atTime t).string c).state = .opening e t := g
    have bounded' : (s.atTime t).envelopeBounded := bounded
    have permit' : (s.atTime t).permitKept := permit
    unfold openingTimerExpiry State.finishOpening
    simp only [g, state]
    rw [State.setString_quiet (by rw [state]; cases e <;> simp [StringState.name, EndState.state]) (by rw [state]; simp)
      (by cases e <;> simp [EndState.state]) bounded' permit', State.storeString, state]
    cases e <;> rfl
  refine ⟨fun other => ?_, fun other => ?_, fun bounded permit => ⟨fun t g => ?_, fun t g => ?_, fun cause t g => ?_⟩⟩
  · refine congrArg Host.Outcome.next ?_
    unfold prechargeTimerExpiry
    split
    · next g => exact absurd g (other _)
    · rfl
  · refine congrArg Host.Outcome.next ?_
    unfold openingTimerExpiry
    split
    · next g => exact absurd g (other _ _)
    · rfl
  · refine congrArg Host.Outcome.next ?_
    have state : (((s.atTime t).countTrip c .prechargeFail).string c).state = .precharge (.matching t) := g
    have bounded' : ((s.atTime t).countTrip c .prechargeFail).envelopeBounded := bounded
    have permit' : ((s.atTime t).countTrip c .prechargeFail).permitKept := permit
    unfold prechargeTimerExpiry State.prechargeFailed
    simp only [g]
    rw [State.setString_quiet (by rw [state]; simp [StringState.name]) (by rw [state]; simp) (by simp) bounded' permit',
      State.storeString, state]
    rfl
  · exact congrArg Host.Outcome.next (opens .opened t g bounded permit)
  · exact congrArg Host.Outcome.next (opens (.locked cause) t g bounded permit)

/-! ## CLEAR-LOCK (R59) -/

/-- R59: the condition of a LOCKED cause is gone. -/
theorem State.causeGone_iff {k : LockCause} : s.causeGone c k = true ↔
    (s.string c).mainInput = .opened ∧ (s.string c).prechargeInput = .opened ∧ (s.string c).check = none
      ∧ (k = .cellOv ∨ k = .cellUv ∨ k = .cellOt →
        (s.cells c).overVolt = 0 ∧ (s.cells c).underVolt = 0 ∧ (s.cells c).overTemp = 0) := by
  cases k <;> simp [State.causeGone, and_assoc]

/-- Settles O24. -/
theorem Settled.clearLockString : Obligations.ClearLockString := by
  unfold Obligations.ClearLockString
  intro l q payload c s r hr d
  subst hr
  have answers (t : State) (code : AnswerCode) (h : s.clearLock c = (t, code)) (named : parseString payload = some c) :
      exec (.clearLockString l q payload) s = .next (t.answerHead l ⟨20, q, payload⟩ code []) := by
    have other : payload ≠ [0] := by
      rintro rfl
      cases named
    refine congrArg Host.Outcome.next ?_
    rw [Machine.clearLockString, if_neg other]
    exact State.serve_now d (by rw [onString_named named, h])
  refine ⟨fun b hb zero one two => ?_, fun named => ⟨fun g => ?_, fun opened locked => ?_,
    fun cause gone g meaning => ⟨fun stands => ?_, fun past bounded permit => ?_⟩⟩⟩
  · subst hb
    refine congrArg Host.Outcome.next ?_
    rw [Machine.clearLockString, if_neg (by simpa using zero)]
    exact State.serve_now d (onString_unnamed one two _)
  · exact answers s .done (by unfold State.clearLock; rw [g]) named
  · refine answers s .refusedState ?_ named
    unfold State.clearLock
    split
    · next g => exact absurd g opened
    · next g => exact absurd g (locked _)
    · rfl
  · refine answers s .refusedState ?_ named
    unfold State.clearLock
    simp only [g]
    exact if_neg fun past => stands (meaning.2 (State.causeGone_iff.1 past))
  · refine answers _ .done ?_ named
    unfold State.clearLock
    simp only [g]
    rw [if_pos (State.causeGone_iff.2 (meaning.1 past)), State.setString_quiet (by rw [g]; simp [StringState.name])
      (by rw [g]; simp) (by simp) bounded permit, State.storeString, g]
    rfl

/-! ## Feedback checking (section 3.5) -/

/-- R68: a downward computation raises no limit. -/
theorem State.downward_limits_le (s : State) (c : Str) : s.downward.envelope.limits.charge c ≤ s.envelope.limits.charge c := by
  rw [State.downward, State.publish_limits, Row.zip_charge]
  exact Nat.min_le_left ..

theorem State.computeGa_limits_le (s : State) (c : Str) : s.computeGa.envelope.limits.charge c ≤ s.envelope.limits.charge c :=
  State.downward_limits_le _ c

/-- R69: a change of string state raises no limit. -/
theorem State.setString_limits_le (s : State) (c d : Str) (new : StringState) :
    (s.setString c new).envelope.limits.charge d ≤ s.envelope.limits.charge d :=
  State.setString_keeps (P := fun t => t.envelope.limits.charge d ≤ s.envelope.limits.charge d) (fun _ _ h => h)
    (fun _ _ _ h => h) (fun t h => (t.downward_limits_le d).trans h) (fun t h => (t.computeGa_limits_le d).trans h)
    (fun t h => by rwa [show t.noStringTrip.envelope = t.envelope by simp]) le_rfl

/-- R150: a change of string state with a string JOINED after it leaves the permit unit. -/
theorem State.setString_permit {new : StringState} (joined : (s.storeString c new).joinedCount ≠ 0) :
    (s.setString c new).permit = s.permit := by
  have kept : (s.setString c new).permit = s.permit ∧ (s.setString c new).joinedCount ≠ 0 :=
    State.setString_keeps (P := fun t => t.permit = s.permit ∧ t.joinedCount ≠ 0) (fun _ _ h => h) (fun _ _ _ h => h)
      (fun t h => ⟨by simpa using h.1, by rw [State.joinedCount_congr (s := t) (State.isJoined_congr (by simp))]; exact h.2⟩)
      (fun t h => ⟨by simpa using h.1, by rw [State.joinedCount_congr (s := t) (State.isJoined_congr (by simp))]; exact h.2⟩)
      (fun t h => by rwa [State.noStringTrip, if_neg h.2]) ⟨rfl, joined⟩
  exact kept.1

/-- Section 3.1: a JOINED string counts. -/
theorem State.joinedCount_ne_zero (h : s.isJoined c = true) : s.joinedCount ≠ 0 := by
  rw [s.joinedCount_eq]
  cases c <;> simp [h]

/-- R56: the pending feedback check of a string taken at its time. -/
def State.checkTaken (s : State) (c : Str) (d : Nat) : State :=
  (s.atTime d).modString c fun k => { k with check := none }

theorem feedbackCheck_due {d : Nat} (running : s.phase = .running) (due : (s.string c).check = some d) :
    feedbackCheck c s = (s.checkTaken c d).judgeCheck c := by
  rw [feedbackCheck, due]
  exact if_pos running

theorem State.checkTaken_string (s : State) (c : Str) (d : Nat) :
    (s.checkTaken c d).string c = { s.string c with check := none } := by
  rw [State.checkTaken, State.modString_string, if_pos rfl]
  rfl

theorem State.checkTaken_other (s : State) {c e : Str} (h : e ≠ c) (d : Nat) : (s.checkTaken c d).string e = s.string e := by
  rw [State.checkTaken, State.modString_string, if_neg h]
  rfl

/-- R49: a check that finds the inputs as the drives ask joins a string in HANDOVER. -/
theorem State.joined_of_handover {u : State} (handover : (u.string c).state = .precharge .handover) :
    (u.setString c .joined).string c = { u.string c with state := .joined, check := some (u.uptime + 200) }
      ∧ (u.setString c .joined).agreement.countUsed = some (u.setString c .joined).joinedCount
      ∧ u.posts (u.setString c .joined) .stringState (.string c .joined none)
      ∧ (u.setString c .joined).permit = u.permit := by
  have rejoined : u.Rejoined (u.setString c .joined) := State.setString_rejoined (by simp [State.isJoined, handover])
  refine ⟨?_, rejoined.counted, State.setString_posts (new := .joined) (by rw [handover]; simp [StringState.name]),
    State.setString_permit (State.joinedCount_ne_zero (c := c) ?_)⟩
  · rw [State.setString_string, handover]
    rfl
  · rw [State.isJoined, State.storeString_state, if_pos rfl]
    rfl

/-- R57: a check that found a disagreement locks the string. -/
theorem State.locked_of_check {u : State} {cause : LockCause}
    (acts : ∀ old, (u.string c).state = .locked old → cause = .welded ∧ old ≠ .welded) :
    u.checkLocks c cause = (u.countTrip c cause).setString c (.locked cause) := by
  unfold State.checkLocks
  split
  · next old g =>
    obtain ⟨rfl, other⟩ := acts old g
    rw [if_pos ⟨rfl, other⟩]
  · rfl

theorem State.kept_of_check {u : State} {cause old : LockCause} (g : (u.string c).state = .locked old)
    (stands : cause = .feedback ∨ old = .welded) : u.checkLocks c cause = u := by
  unfold State.checkLocks
  simp only [g]
  refine if_neg fun acts => ?_
  rcases stands with rfl | rfl
  · cases acts.1
  · exact acts.2 rfl

/-- R57: a string locked by a check. -/
theorem State.checkLocked (u : State) (c : Str) {cause : LockCause}
    (acts : ∀ old, (u.string c).state = .locked old → cause = .welded ∧ old ≠ .welded) :
    ((u.checkLocks c cause).string c).state = .locked cause ∧ (∀ d, d ≠ c → (u.checkLocks c cause).string d = u.string d)
      ∧ ((u.checkLocks c cause).store.strings.get c).trips = (u.store.strings.get c).trips.count cause
      ∧ (u.checkLocks c cause).envelope.limits.charge c = 0 ∧ (u.checkLocks c cause).envelope.limits.discharge c = 0
      ∧ u.posts (u.checkLocks c cause) .stringState (.string c .locked (some cause)) := by
  rw [State.locked_of_check acts]
  have changed : ¬((((u.countTrip c cause).string c).state.name = (StringState.locked cause).name)
      ∧ ((u.countTrip c cause).string c).state.cause = (StringState.locked cause).cause) := by
    rw [State.countTrip_string]
    rintro ⟨name, sameCause⟩
    cases g : (u.string c).state with
    | locked old =>
      obtain ⟨rfl, other⟩ := acts old g
      rw [g] at sameCause
      exact other (Option.some.inj sameCause)
    | _ => rw [g] at name; cases name
  have zero := (State.setString_reported_bounded changed).zero (c := c) (by rw [State.setString_state, if_pos rfl]; simp)
  refine ⟨by rw [State.setString_state, if_pos rfl], fun d other => State.setString_other other _, ?_, zero.1, zero.2, ?_⟩
  · rw [State.setString_store, State.countTrip_trips]
  · exact State.posts_of_before (.of_links (by simp)) (State.setString_posts changed)

/-- Settles O23. -/
theorem feedback : Obligations.Feedback := by
  unfold Obligations.Feedback
  intro c s
  refine ⟨fun level => rfl, fun level => rfl, fun none => ?_, fun d running due now wantMain wantPre hnow hmain hpre =>
    ⟨fun main pre => ?_, fun cause found => ?_⟩⟩
  · refine congrArg Host.Outcome.next ?_
    rw [feedbackCheck, none]
  all_goals
    subst hnow
    have runs : exec (.feedbackCheck c) s = .next ((s.checkTaken c d).judgeCheck c) :=
      congrArg Host.Outcome.next (feedbackCheck_due running due)
    have string := s.checkTaken_string c d
    have frame : s.checkTaken c d = { s with
        uptime := max s.uptime d, strings := s.strings.mod c fun k => { k with check := Option.none } } := rfl
    have links : (s.checkTaken c d).links = s.links := rfl
    rw [runs]
  · have agree : ((s.checkTaken c d).string c).checkResult = .agree := by
      have expects : (s.string c).mainInput = expected (s.string c).state.mainDrive := main.trans hmain
      have expects' : (s.string c).prechargeInput = expected (s.string c).state.prechargeDrive := pre.trans hpre
      rw [string, StringController.checkResult, if_neg, if_pos ⟨expects, expects'⟩]
      rintro ⟨closed, open_⟩
      dsimp only at closed open_
      rw [closed, open_] at expects
      cases expects
    have judged : (s.checkTaken c d).judgeCheck c
        = if (s.string c).state = .precharge .handover then (s.checkTaken c d).setString c .joined else s.checkTaken c d := by
      rw [State.judgeCheck, agree, string]
    refine ⟨fun other => by rw [judged, if_neg other, frame], fun handover => ?_⟩
    rw [judged, if_pos handover]
    obtain ⟨new, counted, posts, permit⟩ :=
      State.joined_of_handover (c := c) (u := s.checkTaken c d) (by rw [string]; exact handover)
    refine ⟨_, rfl, ?_, counted, State.posts_of_before (.of_links links) posts, State.setString_limits_le _ c c .joined, ?_⟩
    · rw [new, string]
      rfl
    · rw [frame] at permit
      rw [State.eq_iff]
      simp [permit, frame]
  · have result : ((s.checkTaken c d).string c).checkResult = (if cause = .welded then .welded else .feedback)
        ∧ (cause = .welded ∨ cause = .feedback) := by
      rw [string]
      rcases found with ⟨closed, open_, rfl⟩ | ⟨sound, differs, rfl⟩
      · exact ⟨if_pos ⟨closed, open_⟩, .inl rfl⟩
      · refine ⟨?_, .inr rfl⟩
        rw [StringController.checkResult, if_neg sound, if_neg]
        · rfl
        · rintro ⟨main, pre⟩
          exact differs ⟨main.trans hmain.symm, pre.trans hpre.symm⟩
    have judged : (s.checkTaken c d).judgeCheck c = (s.checkTaken c d).checkLocks c cause := by
      rw [State.judgeCheck, result.1]
      rcases result.2 with rfl | rfl <;> rfl
    have same : ((s.checkTaken c d).string c).state = (s.string c).state := by rw [string]
    rw [judged]
    refine ⟨fun old g stands => by rw [State.kept_of_check (same.trans g) stands, frame], fun acts => ?_⟩
    obtain ⟨state, others, trips, charge, discharge, posts⟩ :=
      (s.checkTaken c d).checkLocked c (cause := cause) fun old g => acts old (same.symm.trans g)
    refine ⟨_, rfl, state, fun e h => (others e h).trans (s.checkTaken_other h d), trips, charge, discharge,
      State.posts_of_before (.of_links links) posts, ?_⟩
    rw [State.eq_iff]
    simp [frame]

end

end Sys2Proof.Machine
end

-- ==== Proofs: module chains ====
section
namespace Sys2Proof.Machine

section
variable {s : State} {c : Str}

/-! ## The reading ages (R6) -/

theorem State.chain_modChain_both (s : State) (f : Chain → Chain) (c : Str) :
    (((s.modChain .one f).modChain .two f).chain c) = f (s.chain c) := by
  cases c <;> rfl

theorem Chain.ageSecond_head (k : Chain) :
    k.ageSecond.head = { k.head with age := if k.cycle = .unfitted then k.head.age else min 65535 (k.head.age + 1) } := by
  unfold Chain.ageSecond
  dsimp only
  split <;> rfl

theorem Chain.ageSecond_module (k : Chain) (a : Addr) :
    k.ageSecond.modules[a] = { k.modules[a] with
      age := if k.fitted a then min 65535 ((k.modules[a]).age + 1) else (k.modules[a]).age } := by
  simp only [Chain.ageSecond, vmapIdx_get]
  split <;> rfl

/-- Settles O10. -/
theorem readingAgesCountSeconds : Obligations.ReadingAgesCountSeconds := by
  unfold Obligations.ReadingAgesCountSeconds
  intro s running
  have runs : exec .readingAgeTick s = .next
      ((({ s.atTime s.clocks.age with clocks := { s.clocks with age := s.clocks.age + 1000 } }).modChain .one
        Chain.ageSecond).modChain .two Chain.ageSecond) :=
    congrArg Host.Outcome.next (if_pos running)
  refine ⟨_, runs, rfl, fun c => ?_⟩
  rw [State.chain_modChain_both]
  exact ⟨rfl, Chain.ageSecond_head _, Chain.ageSecond_module _⟩

/-! ## Due moments (R9 to R13) -/

theorem State.compareRange_still (h : s.params.range = (s.chain c).range ∨ (s.string c).state.apart = false) :
    s.compareRange c = s := by
  rw [State.compareRange, if_neg]
  rintro ⟨new, apart⟩
  rcases h with same | engaged
  · exact new same
  · rw [engaged] at apart
    cases apart

/-- R10, R13: a due moment of a chain whose range stands and which stays fitted. -/
theorem State.dueMoment_becomes
    (h : (s.params.range = (s.chain c).range ∧ s.params.fitted.names c = true) ∨ (s.string c).state.apart = false) :
    s.dueMoment c = s.modChain c fun k => k.becomeDue s.uptime (s.chooseCadence c) := by
  unfold State.dueMoment
  rw [State.compareRange_still (h.imp And.left id)]
  refine if_neg ?_
  rcases h with ⟨-, named⟩ | engaged <;> simp [*]

/-- R13, R17: a cycle that becomes due, with its head transaction on an idle chain. -/
theorem Chain.becomeDue_started (k : Chain) (now : Nat) (d : Cadence) :
    (if (k.becomeDue now d).inFlight = none ∧ (k.becomeDue now d).cycle = .running then (k.becomeDue now d).startScan now
      else k.becomeDue now d) = { k with
        cycle := .running, cadence := d, nextUnit := .head, due := some now
        nextDue := some (now + d.interval), unfittedCheck := none
        inFlight := if k.inFlight = none then some ⟨.scan, .head, [], [], now + 4⟩ else k.inFlight
        lastKind := if k.inFlight = none then some .scan else k.lastKind } := by
  by_cases idle : k.inFlight = none
  · rw [if_pos ⟨idle, rfl⟩]
    simp only [if_pos idle]
    rfl
  · rw [if_neg fun h => idle h.1]
    simp only [if_neg idle]
    rfl

theorem State.becomeDue_started_chain (u : State) (c : Str) (cadence : Cadence) :
    ((u.modChain c fun k => k.becomeDue u.uptime cadence).startIfIdle c).chain c = { u.chain c with
        cycle := .running, cadence := cadence, nextUnit := .head, due := some u.uptime
        nextDue := some (u.uptime + cadence.interval), unfittedCheck := none
        inFlight := if (u.chain c).inFlight = none then some ⟨.scan, .head, [], [], u.uptime + 4⟩ else (u.chain c).inFlight
        lastKind := if (u.chain c).inFlight = none then some .scan else (u.chain c).lastKind } := by
  rw [State.startIfIdle, State.modChain_same, State.modChain_same]
  exact Chain.becomeDue_started _ _ _

theorem cycleDue_due {d : Nat} (running : s.phase = .running) (waiting : (s.chain c).cycle = .waiting)
    (due : (s.chain c).nextDue = some d) : exec (.cycleDue c) s = .next (((s.atTime d).dueMoment c).startIfIdle c) := by
  refine congrArg Host.Outcome.next ?_
  rw [cycleDue, if_pos ⟨running, waiting⟩, due]

/-- Settles O11. -/
theorem dueCycleStarts : Obligations.DueCycleStarts := by
  unfold Obligations.DueCycleStarts
  intro c d s running waiting due stays now cadence interval hnow hcadence hinterval
  subst hnow
  have interval_eq : interval = cadence.interval := by
    rw [hinterval]
    cases cadence <;> rfl
  have chosen : (s.atTime d).chooseCadence c = cadence := hcadence.symm
  rw [cycleDue_due running waiting due, State.dueMoment_becomes (s := s.atTime d) stays, chosen, interval_eq, State.startIfIdle]
  simp only [State.modChain, PerString.mod_mod, Chain.becomeDue_started]
  rfl

/-! ## PROBE-MODULE (R14) -/

theorem strOf_eq {b : Byte} (h : b.toNat = if c = .one then 1 else 2) : strOf b = some c := by
  cases c with
  | one =>
    have : b = 1 := BitVec.eq_of_toNat_eq h
    rw [this]
    rfl
  | two =>
    have : b = 2 := BitVec.eq_of_toNat_eq h
    rw [this]
    rfl

theorem addrOf_eq {b : Byte} {a : Addr} (h : b.toNat = a.val + 1) : addrOf b = some a := by
  have nonzero : b ≠ 0 := by
    rintro rfl
    simp at h
  have small : b.toNat - 1 < 12 ∧ b ≠ 0 := ⟨by omega, nonzero⟩
  rw [addrOf, dif_pos small]
  exact congrArg some (Fin.ext (by simp [h]))

theorem parseModule_eq {m n : Byte} {a : Addr} (hm : m.toNat = if c = .one then 1 else 2) (hn : n.toNat = a.val + 1) :
    parseModule [m, n] = some (c, a) := by
  simp only [parseModule, strOf_eq hm, addrOf_eq hn]

/-- Settles O13. -/
theorem probeModuleIsQueuedOrRefused : Obligations.ProbeModuleIsQueuedOrRefused := by
  unfold Obligations.ProbeModuleIsQueuedOrRefused
  refine ⟨fun l q m n s d wrong => ?_, fun l q m n payload c a s d hp hm hn k taken hk htaken => ?_⟩
  · exact congrArg Host.Outcome.next (State.serve_now d (by rw [parseModule_none wrong]))
  subst hp hk htaken
  have refused (code : AnswerCode) (h : s.probe c a ⟨l, q⟩ = (s, .now code [])) :
      exec (.probeModule l q [m, n]) s = .next (s.answerHead l ⟨3, q, [m, n]⟩ code []) :=
    congrArg Host.Outcome.next (State.serve_now d (by rw [parseModule_eq hm hn]; exact h))
  have takes (t : State) (h : s.probe c a ⟨l, q⟩ = (t, .leaves)) :
      exec (.probeModule l q [m, n]) s = .next (t.modLink l fun j => { j with queue := j.queue.drop 1 }) :=
    congrArg Host.Outcome.next (State.serve_leaves d (by rw [parseModule_eq hm hn]; exact h))
  have probeable (fitted : (s.chain c).fitted a = true) : ¬(!(s.chain c).probeable a) = true := by
    simp [Chain.probeable, fitted]
  refine ⟨fun unfitted => ?_, fun e fitted found room => ?_, fun e fitted found full => ?_, fun fitted fresh full => ?_,
    fun fitted fresh room flying => ?_, fun fitted empty idle => ?_⟩
  · refine refused _ ?_
    rw [State.probe, if_pos (by simp [Chain.probeable, unfitted])]
  · rw [takes (s.modChain c fun x => { x with probes := x.probes.map fun y => y.join a ⟨l, q⟩ })]
    · rfl
    · rw [State.probe, if_neg (probeable fitted), found]
      exact if_pos room
  · refine refused _ ?_
    rw [State.probe, if_neg (probeable fitted), found]
    exact if_neg (by omega)
  · refine refused _ ?_
    rw [State.probe, if_neg (probeable fitted), fresh]
    exact if_neg (by omega)
  · rw [takes (s.modChain c fun x => x.addProbe s.uptime a ⟨l, q⟩)]
    · have added : s.chains.mod c (fun x => x.addProbe s.uptime a ⟨l, q⟩)
          = s.chains.mod c fun k => { k with probes := k.probes ++ [⟨a, [⟨l, q⟩]⟩] } :=
        PerString.mod_congr (if_neg flying)
      simp only [State.modChain, added]
      rfl
    · rw [State.probe, if_neg (probeable fitted), fresh]
      exact if_pos room
  · rw [takes (s.modChain c fun x => x.addProbe s.uptime a ⟨l, q⟩)]
    · have added : s.chains.mod c (fun x => x.addProbe s.uptime a ⟨l, q⟩)
          = s.chains.mod c fun k => { k with
              inFlight := some ⟨.probe, .module a, [⟨l, q⟩], (k.modules[a]).requested, s.uptime + 4⟩
              lastKind := some .probe } := by
        refine PerString.mod_congr ?_
        show Chain.addProbe (s.chain c) _ _ _ = _
        rw [Chain.addProbe]
        rw [if_pos idle, Chain.startProbe]
        simp only [empty, List.nil_append]
        rw [show (s.chains.get c).probes = [] from empty]
        rfl
      simp only [State.modChain, added]
      rfl
    · rw [State.probe, if_neg (probeable fitted)]
      simp [empty]

/-! ## A new range, and UNFITTED (R9, R10) -/

/-- R9, R33: the records and the probe entries of picked addresses cleared. -/
theorem State.cleared_chain (s : State) (c : Str) (picks : Addr → Bool) :
    ((s.clearModules c picks).removeProbes c picks).chain c = { s.chain c with
      modules := vmapIdx (fun a m => if picks a then .cleared else m) (s.chain c).modules
      probes := (s.chain c).probes.filter fun e => !picks e.addr } := by
  simp [State.clearModules, State.removeProbes, State.chain, State.modChain, PerString.mod_mod]

theorem State.cleared_cells (s : State) (c : Str) (picks : Addr → Bool) :
    ((s.clearModules c picks).removeProbes c picks).cells c = (s.cells c).unset fun a _ => picks a := by
  simp [State.clearModules, State.removeProbes, State.cells, State.modCells]

theorem State.cleared_link (s : State) (c : Str) (picks : Addr → Bool) (l : Link) :
    ((s.clearModules c picks).removeProbes c picks).link l = { s.link l with
      out := (s.link l).out ++
        ((((s.chain c).probes.filter fun e => picks e.addr).flatMap ProbeEntry.waiters).filter fun w => w.link = l).map
          fun w => ⟨answerKind 3, w.seq, .refusedState, [], false⟩ } := by
  have probes : ((s.clearModules c picks).chain c).probes = (s.chain c).probes := by
    simp [State.clearModules, State.chain, State.modChain]
  unfold State.removeProbes
  dsimp only
  rw [State.answerWaiters_link, probes]
  rfl

theorem Supervision.unset_sensor (v : Supervision) (picks : Addr → Fin 4 → Bool) (a : Addr) (k : Fin 4) :
    ((v.unset picks).sensors[a])[k] = if picks a k then .unset else (v.sensors[a])[k] := by
  simp only [Supervision.unset, vmapIdx_get]

theorem State.enterUnfitted_chain (s : State) (c : Str) : (s.enterUnfitted c).chain c = { s.chain c with
    modules := vmapIdx (fun _ _ => .cleared) (s.chain c).modules
    probes := [], head := .cleared, cycle := .unfitted, nextUnit := .head, nextDue := none
    unfittedCheck := some (s.uptime + 5000) } := by
  rw [State.enterUnfitted, State.modChain_same, State.cleared_chain]
  simp [unfittedPeriod]

theorem State.startIfIdle_chain (s : State) (c : Str) : (s.startIfIdle c).chain c =
    if (s.chain c).inFlight = none ∧ (s.chain c).cycle = .running then (s.chain c).startScan s.uptime else s.chain c := by
  rw [State.startIfIdle, State.modChain_same]

/-- R9, R10: a due moment of an apart string that is not named. -/
theorem State.dueMoment_unfitted (apart : (s.string c).state.apart = true) (unnamed : s.params.fitted.names c = false) :
    s.dueMoment c = (s.compareRange c).enterUnfitted c := by
  unfold State.dueMoment
  have names : (s.compareRange c).params.fitted.names c = false := by
    rw [show (s.compareRange c).params = s.params by simp [State.params]]
    exact unnamed
  have still : ((s.compareRange c).string c).state.apart = true := by
    rw [show (s.compareRange c).string c = s.string c by simp [State.string]]
    exact apart
  exact if_pos (by rw [names, still]; rfl)

theorem State.dueMoment_named (named : s.params.fitted.names c = true) :
    s.dueMoment c = (s.compareRange c).modChain c fun k =>
      k.becomeDue (s.compareRange c).uptime ((s.compareRange c).chooseCadence c) := by
  unfold State.dueMoment
  have names : (s.compareRange c).params.fitted.names c = true := by
    rw [show (s.compareRange c).params = s.params by simp [State.params]]
    exact named
  exact if_neg (by simp [names])

theorem State.compareRange_firstDone (s : State) (c : Str) : ((s.compareRange c).chain c).firstDone = (s.chain c).firstDone := by
  unfold State.compareRange
  split
  · simp [State.takeRange, State.clearModules, State.removeProbes, State.chain, State.modChain]
  · rfl

/-- R9: a new range taken into force. -/
theorem State.takeRange_chain (s : State) (c : Str) (r : ScanRange) : (s.takeRange c r).chain c = { s.chain c with
    modules := vmapIdx (fun a m => if (s.chain c).fitted a && !r.holds a then .cleared else m) (s.chain c).modules
    probes := (s.chain c).probes.filter fun e => !((s.chain c).fitted e.addr && !r.holds e.addr)
    range := r } := by
  rw [State.takeRange, State.modChain_same, State.cleared_chain]

theorem State.takeRange_cells (s : State) (c : Str) (r : ScanRange) :
    (s.takeRange c r).cells c = (s.cells c).unset fun a _ => (s.chain c).fitted a && !r.holds a :=
  State.cleared_cells s c _

theorem unfittedCheck_due {d : Nat} (running : s.phase = .running) (unfitted : (s.chain c).cycle = .unfitted)
    (check : (s.chain c).unfittedCheck = some d) : exec (.unfittedCheck c) s = .next ((s.atTime d).checkUnfitted c d) := by
  refine congrArg Host.Outcome.next ?_
  rw [Machine.unfittedCheck, if_pos ⟨running, unfitted⟩, check]

/-- R9, R10: what a due moment and the start of a head transaction leave alone. -/
theorem State.firstDue_frame' (s : State) (c : Str) : s.firstDue c = { s with
    chains := (s.firstDue c).chains, supervision := (s.firstDue c).supervision, links := (s.firstDue c).links } :=
  State.eq_iff.2 (by simp)

/-- Settles O12. -/
theorem rangeAndFittedTakeForce : Obligations.RangeAndFittedTakeForce := by
  unfold Obligations.RangeAndFittedTakeForce
  intro c d s running now hnow
  subst hnow
  refine ⟨fun waiting due apart new named leaves hleaves => ?_, fun waiting due apart unnamed => ?_,
    fun unfitted check unnamed => ?_, fun unfitted check named => ?_⟩
  · refine ⟨_, cycleDue_due running waiting due, (s.atTime d).firstDue_frame' c, ?_⟩
    obtain rfl : (fun a => (s.chain c).fitted a && !s.params.range.holds a) = leaves := funext fun a => (hleaves a).symm
    have taken : (s.atTime d).compareRange c = (s.atTime d).takeRange c s.params.range := if_pos ⟨new, apart⟩
    have become := State.dueMoment_named (s := s.atTime d) (c := c) named
    rw [taken] at become
    rw [become]
    generalize State.chooseCadence _ c = cadence
    rw [State.becomeDue_started_chain, State.takeRange_chain]
    refine ⟨rfl, rfl, fun a => by simp only [vmapIdx_get]; rfl, fun a k => ?_, rfl, fun l => State.cleared_link (s.atTime d) c _ l⟩
    exact (congrArg (fun v : Supervision => (v.sensors[a])[k]) (State.takeRange_cells (s.atTime d) c _)).trans
      (Supervision.unset_sensor _ _ a k)
  · refine ⟨_, cycleDue_due running waiting due, (s.atTime d).firstDue_frame' c, ?_⟩
    have entered := State.dueMoment_unfitted (s := s.atTime d) apart unnamed
    have chain : (((s.atTime d).dueMoment c).startIfIdle c).chain c = (((s.atTime d).compareRange c).enterUnfitted c).chain c := by
      rw [State.startIfIdle_chain, entered, State.enterUnfitted_chain]
      exact if_neg (by simp)
    have cells : (((s.atTime d).dueMoment c).startIfIdle c).cells c
        = (((s.atTime d).compareRange c).cells c).unset fun _ _ => true := by
      rw [entered]
      exact State.cleared_cells _ c _
    have time : ((s.atTime d).compareRange c).uptime = max s.uptime d := by simp [State.atTime]
    rw [chain, cells, State.enterUnfitted_chain, time]
    refine ⟨rfl, rfl, rfl, rfl, fun a => by simp only [vmapIdx_get], fun a k => ?_, rfl, ?_, ?_⟩
    · rw [Supervision.unset_sensor]
      rfl
    · exact State.compareRange_inFlight (s.atTime d) c
    · exact State.compareRange_firstDone (s.atTime d) c
  · rw [unfittedCheck_due running unfitted check, State.checkUnfitted, if_neg]
    · rfl
    · exact Bool.eq_false_iff.1 unnamed
  · have checked : (s.atTime d).checkUnfitted c d = (s.atTime d).firstDue c := if_pos named
    refine ⟨_, unfittedCheck_due running unfitted check, ?_, ?_⟩ <;> rw [checked]
    · exact (s.atTime d).firstDue_frame' c
    · have time : ((s.atTime d).compareRange c).uptime = max s.uptime d := by simp [State.atTime]
      rw [State.firstDue, State.dueMoment_named (s := s.atTime d) named]
      generalize State.chooseCadence _ c = cadence
      rw [State.becomeDue_started_chain, time]
      refine ⟨rfl, rfl, rfl, fun idle => ?_⟩
      exact if_pos ((State.compareRange_inFlight (s.atTime d) c).trans idle)

/-! ## RESET-BASELINE (R32) -/

theorem strOf_number {b : Byte} (h : 1 ≤ b.toNat ∧ b.toNat ≤ 2) : ∃ d, strOf b = some d ∧ strNumber d = b.toNat := by
  obtain one | two : b.toNat = 1 ∨ b.toNat = 2 := by omega
  · exact ⟨.one, strOf_eq one, one.symm⟩
  · exact ⟨.two, strOf_eq two, two.symm⟩

theorem addrOf_iff {b : Byte} (h : b.toNat ≤ 12) (a : Addr) :
    ((addrOf b).all fun d => a == d) = true ↔ b = 0 ∨ b.toNat = a.number := by
  by_cases zero : b = 0
  · subst zero
    simp [addrOf]
  · have positive : b.toNat ≠ 0 := fun e => zero (BitVec.eq_of_toNat_eq e)
    have small : b.toNat - 1 < 12 ∧ b ≠ 0 := ⟨by omega, zero⟩
    rw [addrOf, dif_pos small]
    have number : a.number = a.val + 1 := rfl
    simp only [Option.all_some, beq_iff_eq, zero, false_or, Fin.ext_iff]
    omega

theorem sensorOf_iff {b : Byte} (h : b.toNat ≤ 4) (k : Fin 4) :
    ((if small : b.toNat - 1 < 4 ∧ b ≠ 0 then some (⟨b.toNat - 1, small.1⟩ : Fin 4) else none).all fun j => k == j) = true
      ↔ b = 0 ∨ b.toNat = k.val + 1 := by
  by_cases zero : b = 0
  · subst zero
    simp
  · have positive : b.toNat ≠ 0 := fun e => zero (BitVec.eq_of_toNat_eq e)
    have small : b.toNat - 1 < 4 ∧ b ≠ 0 := ⟨by omega, zero⟩
    rw [dif_pos small]
    simp only [Option.all_some, beq_iff_eq, zero, false_or, Fin.ext_iff]
    omega

/-- R32: what a RESET-BASELINE in proper form names. -/
theorem parseSensors_eq {b1 b2 b3 : Byte} (h1 : 1 ≤ b1.toNat ∧ b1.toNat ≤ 2) (h2 : b2.toNat ≤ 12) (h3 : b3.toNat ≤ 4) :
    ∃ x : SensorChoice, parseSensors [b1, b2, b3] = some x ∧ strNumber x.str = b1.toNat
      ∧ ∀ (a : Addr) (k : Fin 4), x.names a k = true
        ↔ (b2 = 0 ∨ b2.toNat = a.number) ∧ (b3 = 0 ∨ b3.toNat = k.val + 1) := by
  obtain ⟨d, str, number⟩ := strOf_number h1
  refine ⟨_, by simp only [parseSensors, str]; exact if_pos ⟨h2, h3⟩, number, fun a k => ?_⟩
  rw [SensorChoice.names, Bool.and_eq_true, addrOf_iff h2, sensorOf_iff h3]

theorem parseSensors_none {b1 b2 b3 : Byte} (h : b1.toNat < 1 ∨ 2 < b1.toNat ∨ 12 < b2.toNat ∨ 4 < b3.toNat) :
    parseSensors [b1, b2, b3] = none := by
  simp only [parseSensors]
  split
  · rfl
  · next d str =>
    refine if_neg fun small => ?_
    have number : b1.toNat = 1 ∨ b1.toNat = 2 := by
      unfold strOf at str
      split at str
      · next one => exact .inl (by rw [one]; rfl)
      · split at str
        · next two => exact .inr (by rw [two]; rfl)
        · cases str
    omega

/-- Settles O17. -/
theorem Settled.resetBaseline : Obligations.ResetBaseline := by
  unfold Obligations.ResetBaseline
  intro l q b1 b2 b3 s r hr
  subst hr
  refine ⟨fun ready other => ?_, fun ready svc => ?_⟩
  · refine congrArg Host.Outcome.next (State.serve_refused ready ?_ _)
    cases l
    case svc => exact absurd rfl other
    all_goals rfl
  subst svc
  have d : s.delivers .svc ⟨19, q, [b1, b2, b3]⟩ := ⟨ready, rfl⟩
  refine ⟨fun wrong => ?_, fun ⟨low, high, addr, sensor⟩ => ?_⟩
  · exact congrArg Host.Outcome.next (State.serve_now d (by rw [resetBaselineBlock, parseSensors_none wrong]))
  obtain ⟨x, parsed, number, names⟩ := parseSensors_eq ⟨low, high⟩ addr sensor
  refine ⟨fun alert => ?_, fun quiet => ?_⟩
  · refine congrArg Host.Outcome.next (State.serve_now d ?_)
    rw [resetBaselineBlock, parsed]
    exact if_pos (by rcases alert with e | e | e <;> rw [e] <;> rfl)
  · refine ⟨s.supervision.mod x.str fun v => v.unset x.names, congrArg Host.Outcome.next (State.serve_now d ?_), fun c => ?_⟩
    · rw [resetBaselineBlock, parsed]
      exact if_neg (by rcases quiet with e | e <;> rw [e] <;> decide)
    · have named : x.str = c ↔ strNumber c = b1.toNat := by
        rw [← number]
        cases c <;> cases x.str <;> simp [strNumber]
      rw [PerString.get_mod]
      split
      · next same =>
        refine ⟨rfl, rfl, rfl, fun a k => ⟨fun named' => ?_, fun other => ?_⟩⟩
        · rw [Supervision.unset_sensor, if_pos ((names a k).2 named'.2)]
          exact ⟨rfl, rfl, rfl⟩
        · rw [Supervision.unset_sensor, if_neg fun picked => other ⟨named.1 same.symm, (names a k).1 picked⟩]
          rfl
      · next other =>
        exact ⟨rfl, rfl, rfl, fun a k => ⟨fun named' => absurd (named.2 named'.1).symm other, fun _ => rfl⟩⟩

end

end Sys2Proof.Machine
end

-- ==== Proofs: the envelope's commands, the caps and the site mode ====
section
namespace Sys2Proof.Machine

section
variable {s : State}

/-! ## What the table's updates leave (R65, R69) -/

/-- R65, R68: after an update of the table each limit is the lower of its old value and its new target. -/
theorem State.updateTable_limits_charge (s : State) (f : LimitTable → LimitTable) (c : Str) :
    (s.updateTable f).envelope.limits.charge c = min (s.envelope.limits.charge c)
      (if (s.string c).state = .joined then (f s.envelope.table).lowest.charge c else 0) := by
  rw [State.updateTable, State.downward, State.publish_limits, Row.zip_charge, (State.targets_charge _ c).1]
  simp [State.isJoined]
  rfl

/-- R65: an update of the table changes the envelope and what is pending on the links. -/
theorem State.updateTable_eq (s : State) (f : LimitTable → LimitTable) :
    s.updateTable f = { s with envelope := (s.updateTable f).envelope, links := (s.updateTable f).links } :=
  State.eq_iff.2 (by simp)

/-- R166: an answer composed where the links differ in their notices alone is one more to be sent on its link. -/
theorem State.answerHead_out {t : State} (h : t.quietLinks = s.quietLinks) (l : Link) (r : Request) (code : AnswerCode)
    (content : List Item) (k : Link) : ((t.answerHead l r code content).link k).out
      = (s.link k).out ++ if k = l then [⟨answerKind r.kind, r.seq, code, content, true⟩] else [] := by
  have out : (t.link k).out = (s.link k).out := LinkState.out_of_quiet (State.quiet_link h k)
  rw [State.answerHead, State.answer, State.modLink_link]
  split
  · exact congrArg (· ++ _) out
  · rw [out, List.append_nil]

/-! ## The tick (R70 to R72) -/

/-- Settles O27. -/
theorem Settled.envelopeTick : Obligations.EnvelopeTick := by
  unfold Obligations.EnvelopeTick
  intro s running target moved ticked ht hm hu
  have target_eq : target = s.targets := Row.ext_str fun c => by
    rw [(ht c).1, (ht c).2, (State.targets_charge s c).1, (State.targets_charge s c).2]
    simp [State.isJoined]
  have moved_eq : moved = s.targets.zip (tickLimit s.params.rampStep.toNat) s.envelope.limits := Row.ext_str fun c => by
    rw [(hm c).1, (hm c).2, Row.zip_charge, Row.zip_discharge, target_eq]
    exact ⟨rfl, rfl⟩
  have ticks : exec .envelopeTick s = .next (ticked.publish moved) := by
    refine congrArg Host.Outcome.next ?_
    rw [Machine.envelopeTick, if_pos running, moved_eq, hu]
    rfl
  have limits : ticked.envelope = s.envelope := by rw [hu]
  refine ⟨fun still => ?_, fun changed => ?_⟩ <;> rw [ticks, State.publish, limits]
  · rw [if_pos still]
  · rw [if_neg changed, hu]

/-! ## The caps (R74, R75) -/

/-- R166: SET-CAP is served on STN and SVC alone. -/
theorem setCap_port {l : Link} {q : Byte} {payload : List Byte} (d : s.delivers l ⟨12, q, payload⟩) : l = .stn ∨ l = .svc := by
  have port : portRefusal 12 l s.siteMode = none := d.2
  cases l
  case stn => exact .inl rfl
  case svc => exact .inr rfl
  all_goals cases port

/-- Settles O28. -/
theorem Settled.setCap : Obligations.SetCap := by
  unfold Obligations.SetCap
  intro l q hi lo s r hr d sent v station service sc code hsent hv hstation hservice hsc hcode
  subst hr
  have answers (t : State) (stored : s.storeCap l v = t) :
      exec (.setCap l q [hi, lo]) s = .next (t.answerHead l ⟨12, q, [hi, lo]⟩ code t.capItems) := by
    refine congrArg Host.Outcome.next (State.serve_now d ?_)
    subst stored hv hsent hcode
    rfl
  have kept : station = s.stationCap ∧ service = s.serviceCap → s.storeCap l v = s := by
    rcases setCap_port d with rfl | rfl
    · exact fun same => if_pos (hstation.symm.trans same.1)
    · exact fun same => if_pos (hservice.symm.trans same.2)
  have changed : ¬(station = s.stationCap ∧ service = s.serviceCap) →
      s.storeCap l v = ({ s with stationCap := station, serviceCap := service } : State).deliverSc := by
    rcases setCap_port d with rfl | rfl <;> simp only [reduceCtorEq, if_true, if_false] at hstation hservice <;>
      subst hstation hservice <;> intro h
    · exact if_neg fun same => h ⟨same, rfl⟩
    · exact if_neg fun same => h ⟨rfl, same⟩
  refine ⟨fun same => ?_, fun differ => ?_⟩
  · rw [answers s (kept same), State.capItems, State.siteCap, hsc, same.1, same.2]
  · rw [answers _ (changed differ)]
    have table : ({ s with stationCap := station, serviceCap := service } : State).deliverSc.envelope.table
        = { s.envelope.table with sc := ⟨sc, sc, sc, sc⟩ } := by
      rw [State.deliverSc, State.updateTable_table, hsc]
      rfl
    have limits (c : Str) : ({ s with stationCap := station, serviceCap := service } : State).deliverSc.envelope.limits.charge c
        = min (s.envelope.limits.charge c)
          (if (s.string c).state = .joined then
            ({ s with stationCap := station, serviceCap := service } : State).deliverSc.envelope.table.lowest.charge c else 0) := by
      rw [State.deliverSc, State.updateTable_limits_charge, State.updateTable_table]
      rfl
    have items : ({ s with stationCap := station, serviceCap := service } : State).deliverSc.capItems
        = [num station, num service, num sc] := by
      simp only [State.capItems, State.siteCap, State.deliverSc_frame, hsc]
    have frame : ({ s with stationCap := station, serviceCap := service } : State).deliverSc = { s with
        stationCap := station, serviceCap := service
        envelope := ({ s with stationCap := station, serviceCap := service } : State).deliverSc.envelope
        links := ({ s with stationCap := station, serviceCap := service } : State).deliverSc.links } := State.updateTable_eq ..
    have quiet : ({ s with stationCap := station, serviceCap := service } : State).deliverSc.quietLinks = s.quietLinks := by
      rw [State.deliverSc_quietLinks]
      rfl
    rw [items]
    generalize ({ s with stationCap := station, serviceCap := service } : State).deliverSc = t at *
    refine ⟨_, rfl, ?_, ?_, ?_, fun c => ?_, fun k => ?_, ?_⟩
    · simpa using congrArg State.stationCap frame
    · simpa using congrArg State.serviceCap frame
    · simpa using table
    · simpa using limits c
    · rw [State.answerHead_out quiet, show answerKind (⟨12, q, [hi, lo]⟩ : Request).kind = 0x8C from (by decide : answerKind 12 = 0x8C)]
    · rw [State.eq_iff] at frame ⊢
      simpa using frame

/-! ## The site mode (R76, R170) -/

/-- R76, R170: the return to AUTO delivers SC where the service cap was below 4000. -/
theorem State.returnToAuto_course (mode : s.siteMode = .maintenance) (low : s.serviceCap < 4000) :
    s.returnToAuto.envelope.table = { s.envelope.table with sc := .all (if s.config.fault then 0 else min s.stationCap 4000) }
      ∧ s.returnToAuto.quietLinks = s.quietLinks
      ∧ s.returnToAuto = { s with
          siteMode := .auto, serviceCap := 4000, envelope := s.returnToAuto.envelope, links := s.returnToAuto.links } := by
  have course : s.returnToAuto = ({ s with siteMode := .auto, serviceCap := 4000 } : State).deliverSc := by
    rw [State.returnToAuto, if_pos mode, if_pos low]
  refine ⟨?_, State.returnToAuto_quietLinks s, ?_⟩ <;> rw [course]
  · exact State.updateTable_table ..
  · exact State.updateTable_eq ..

theorem State.returnToAuto_high (mode : s.siteMode = .maintenance) (high : s.serviceCap = 4000) :
    s.returnToAuto = { s with siteMode := .auto } := by
  rw [State.returnToAuto, if_pos mode, if_neg (by omega), ← high]

theorem State.returnToAuto_auto (mode : s.siteMode = .auto) : s.returnToAuto = s := by
  rw [State.returnToAuto, if_neg (by rw [mode]; decide)]

/-- Settles O57. -/
theorem Settled.setSiteMode : Obligations.SetSiteMode := by
  unfold Obligations.SetSiteMode
  intro l q b s r hr d
  subst hr
  have answers (t : State) (code : AnswerCode) (served : setSiteModeBlock [b] s = (t, .now code [])) :
      exec (.setSiteMode l q [b]) s = .next (t.answerHead l ⟨26, q, [b]⟩ code []) :=
    congrArg Host.Outcome.next (State.serve_now d served)
  have named (low : b.toNat ≤ 1) : ¬([b] ≠ [0] ∧ [b] ≠ [1]) := by
    rintro ⟨zero, one⟩
    have h0 : b.toNat ≠ 0 := fun e => zero (by rw [BitVec.eq_of_toNat_eq (y := 0#8) e]; rfl)
    have h1 : b.toNat ≠ 1 := fun e => one (by rw [BitVec.eq_of_toNat_eq (y := 1#8) e]; rfl)
    omega
  have unnamed (high : 1 < b.toNat) : [b] ≠ [0] ∧ [b] ≠ [1] := by
    constructor <;> rintro ⟨⟩ <;> exact absurd high (by decide)
  refine ⟨fun high => answers s _ (if_pos (unnamed high)), fun low absent => answers s _ ?_, fun present => ?_⟩
  · rw [setSiteModeBlock, if_neg (named low)]
    exact if_pos absent
  have present' : ¬s.links.svc.taken ≠ some .present := not_not_intro present
  have auto (h : b = 0) : setSiteModeBlock [b] s = (s.returnToAuto, .now .done []) := by
    rw [setSiteModeBlock, if_neg (named (by rw [h]; decide)), if_neg present', if_pos (by rw [h])]
  refine ⟨fun one => answers _ _ ?_, fun zero mode => ?_, fun zero mode high => ?_, fun zero mode low => ?_⟩
  · rw [setSiteModeBlock, if_neg (named (by rw [one]; decide)), if_neg present', if_neg (by rw [one]; decide)]
  · rw [answers _ _ (auto zero), State.returnToAuto_auto mode]
  · rw [answers _ _ (auto zero), State.returnToAuto_high mode high]
  · obtain ⟨table, quiet, frame⟩ := State.returnToAuto_course mode low
    refine ⟨_, answers _ _ (auto zero), ?_, State.answerHead_quietLinks quiet l _ _ _, ?_⟩
    · simpa using table
    · generalize s.returnToAuto = t at *
      rw [State.eq_iff] at frame ⊢
      simpa using frame

end

end Sys2Proof.Machine
end

-- ==== Proofs: notices, status words and the end of an answer ====
section
namespace Sys2Proof.Machine

section
variable {s : State}

/-! ## Sending (R161, R166, R169) -/

theorem State.derated_iff (s : State) (c : Str) : s.derated c = true ↔ (s.string c).state = .joined
    ∧ (2 * (s.envelope.limits.charge c : Int) < s.params.imaxC ∨ 2 * (s.envelope.limits.discharge c : Int) < s.params.imaxD) := by
  simp [State.derated, State.isJoined, belowHalf]

theorem State.joinedCount_pos (s : State) : 1 ≤ s.joinedCount ↔ s.isJoined .one = true ∨ s.isJoined .two = true := by
  rw [State.joinedCount_eq]
  cases s.isJoined .one <;> cases s.isJoined .two <;> decide

theorem State.startUpComplete_iff (s : State) :
    s.startUpComplete = true ↔ ∀ c, (s.chain c).cycle = .unfitted ∨ (s.chain c).firstDone = true := by
  refine ⟨fun h c => ?_, fun h => ?_⟩
  · simp only [State.startUpComplete, Bool.and_eq_true, Bool.or_eq_true, beq_iff_eq] at h
    cases c
    · exact h.1
    · exact h.2
  · simp only [State.startUpComplete, Bool.and_eq_true, Bool.or_eq_true, beq_iff_eq]
    exact ⟨h .one, h .two⟩

/-- R169: the site code is the first of the table that applies. -/
theorem State.siteCode_eq {code : SiteCode} {derated : Prop}
    (hd : derated ↔ s.derated .one = true ∨ s.derated .two = true)
    (fault : s.config.fault = true → code = .configFault)
    (sound : s.config.fault = false →
      (s.fire.stage.fire = true → code = .fireIsolated) ∧ (s.fire.stage = .alert → code = .fireAlert)
      ∧ (s.fire.stage = .normal ∨ s.fire.stage = .preAlert →
        (derated → code = .derated)
        ∧ (¬derated → (s.permit.state = .closed → code = .connected)
          ∧ (s.permit.state ≠ .closed →
            (1 ≤ s.joinedCount → code = .ready)
            ∧ (s.joinedCount = 0 →
              ((∀ c, (s.chain c).cycle = .unfitted ∨ (s.chain c).firstDone = true) → code = .safe)
              ∧ (¬(∀ c, (s.chain c).cycle = .unfitted ∨ (s.chain c).firstDone = true) → code = .startUp)))))) :
    s.siteCode = code := by
  unfold State.siteCode
  split
  · next h => exact (fault h).symm
  next h =>
  obtain ⟨fire, alert, rest⟩ := sound (Bool.eq_false_of_not_eq_true h)
  split
  · next h => exact (fire h).symm
  next cold =>
  split
  · next h => exact (alert h).symm
  next calm =>
  have low : s.fire.stage = .normal ∨ s.fire.stage = .preAlert := by
    cases g : s.fire.stage <;> simp [g, FireStage.fire] at cold calm ⊢
  obtain ⟨limited, rest⟩ := rest low
  split
  · next h => exact (limited (hd.2 h)).symm
  next h =>
  obtain ⟨closed, rest⟩ := rest fun d => h (hd.1 d)
  split
  · next h => exact (closed h).symm
  next h =>
  obtain ⟨ready, rest⟩ := rest h
  split
  · next h => exact (ready (s.joinedCount_pos.2 h)).symm
  next h =>
  have none : s.joinedCount = 0 := by
    have := mt s.joinedCount_pos.1 h
    omega
  obtain ⟨safe, starting⟩ := rest none
  split
  · next h => exact (safe (s.startUpComplete_iff.1 h)).symm
  · next h => exact (starting fun all => h (s.startUpComplete_iff.2 all)).symm

/-- Settles O55. -/
theorem sending : Obligations.Sending := by
  unfold Obligations.Sending
  intro l s
  refine ⟨fun idle => ?_, fun code derated hd fault sound running free => ?_, fun free => ?_, fun a rest sent => ?_⟩
  · refine congrArg Host.Outcome.next (if_neg fun both => ?_)
    exact idle.elim (fun stopped => stopped both.1) fun busy => busy both.2
  · have limited : derated ↔ s.derated .one = true ∨ s.derated .two = true := by
      rw [hd, State.derated_iff, State.derated_iff]
      exact ⟨fun ⟨c, h⟩ => by cases c; exacts [.inl h, .inr h], fun h => h.elim (⟨_, ·⟩) (⟨_, ·⟩)⟩
    refine congrArg Host.Outcome.next ?_
    rw [sendStatusWord, if_pos ⟨running, free⟩, State.siteCode_eq limited fault sound]
    rfl
  · exact congrArg Host.Outcome.next (by rw [answerSent, free])
  · refine congrArg Host.Outcome.next ?_
    have resets : (s.siteResetDue || startsReset l a)
        = if l = .svc ∧ a.ofHead = true ∧ a.kind = 0x9B ∧ a.code = .done then true else s.siteResetDue := by
      have due : startsReset l a = decide (l = .svc ∧ a.ofHead = true ∧ a.kind = 0x9B ∧ a.code = .done) := by
        rw [startsReset, (by decide : answerKind 27 = 0x9B)]
        cases l <;> simp [Bool.and_assoc, Bool.beq_eq_decide_eq]
      rw [due]
      split
      · next h => rw [decide_eq_true h, Bool.or_true]
      · next h => rw [decide_eq_false h, Bool.or_false]
    rw [answerSent, sent]
    simp only [resets]
    rfl

/-! ## Notices (R167, R168) -/

theorem LinkState.post_notice_same (k : LinkState) (n : NoticeKind) (d : NoticeDetail) :
    (k.post n d).notice n = match k.notice n with
      | none => some ⟨d, 1⟩
      | some p => some ⟨d, min 255 (p.count + 1)⟩ := by
  rw [LinkState.notice, LinkState.post, vmod_same]
  rfl

/-- Settles O56. -/
theorem notices : Obligations.Notices := by
  unfold Obligations.Notices
  refine ⟨fun n m d s l => ⟨fun none => ?_, fun p some => ?_, fun other => ?_, State.post_quietLinks s n d⟩,
    fun l q hi lo s => ⟨fun d => ?_, fun t ht d => ?_⟩⟩
  · rw [State.post_link, LinkState.post_notice_same, none]
  · rw [State.post_link, LinkState.post_notice_same, some]
  · rw [State.post_link, LinkState.post_notice_other other]
  · exact congrArg Host.Outcome.next (State.serve_now d rfl)
  · subst ht
    exact congrArg Host.Outcome.next (State.serve_now d rfl)

/-! ## Status words (R161 to R163) -/

theorem PerLink.mod_mod {α : Type} (p : PerLink α) (l : Link) (f g : α → α) :
    (p.mod l f).mod l g = p.mod l fun x => g (f x) := by
  cases l <;> rfl

theorem PerLink.mod_congr {α : Type} {p : PerLink α} {l : Link} {f g : α → α} (h : f (p.get l) = g (p.get l)) :
    p.mod l f = p.mod l g :=
  PerLink.ext_get fun m => by
    rw [PerLink.get_mod, PerLink.get_mod]
    split
    · next same => rw [same, h]
    · rfl

section
variable {l : Link} {c : Code}

/-- R163: a change into an empty buffer is the first unread one. -/
theorem State.bufferChange_first (empty : (s.link l).firstChange = none) :
    s.bufferChange l c = s.modLink l fun k => { k with firstChange := some c } := by
  have placed : s.links.mod l (fun k => k.placeChange c) = s.links.mod l fun k => { k with firstChange := some c } :=
    PerLink.mod_congr (if_pos (by rw [← State.link, empty]; rfl))
  rw [State.bufferChange, LinkState.replaced, if_pos (by rw [empty]; rfl), State.modLink, placed]
  rfl

theorem State.bufferChange_placed (first : (s.link l).firstChange ≠ none) :
    s.modLink l (fun k => k.placeChange c) = s.modLink l fun k => { k with latestChange := some c } := by
  have placed : s.links.mod l (fun k => k.placeChange c) = s.links.mod l fun k => { k with latestChange := some c } :=
    PerLink.mod_congr (if_neg (by rw [← State.link, Option.isNone_iff_eq_none]; exact first))
  rw [State.modLink, placed, State.modLink]

/-- R163: a second change is the latest one. -/
theorem State.bufferChange_second (first : (s.link l).firstChange ≠ none) (latest : (s.link l).latestChange = none) :
    s.bufferChange l c = s.modLink l fun k => { k with latestChange := some c } := by
  rw [State.bufferChange, LinkState.replaced, if_neg (by rwa [Option.isNone_iff_eq_none]), latest,
    State.bufferChange_placed first]

/-- R163: a change that replaces an unread one is posted as CODE-LOST. -/
theorem State.bufferChange_lost {lost : Code} (first : (s.link l).firstChange ≠ none)
    (latest : (s.link l).latestChange = some lost) :
    s.bufferChange l c = (s.modLink l fun k => { k with latestChange := some c }).post .codeLost (.codeLost l lost) := by
  rw [State.bufferChange, LinkState.replaced, if_neg (by rwa [Option.isNone_iff_eq_none]), latest,
    State.bufferChange_placed first]

/-- A link on which a code has been taken, its silence timer restarted (R162, R164). -/
def State.withTaken (s : State) (l : Link) (c : Code) : State :=
  s.modLink l fun k => { k with silence := some (s.uptime + silenceTime s.params l), taken := some c }

theorem State.hear_taken (s : State) (l : Link) (c : Code) :
    ((s.hear l).modLink l fun k => { k with taken := some c }) = s.withTaken l c := by
  rw [State.hear, State.modLink, State.modLink, State.withTaken, State.modLink, PerLink.mod_mod]

/-- R162: the second status word in a row with a code that is not taken takes it. -/
theorem State.showCode_takes (held : (s.link l).candidate = some c) (differs : (s.link l).taken ≠ some c) :
    s.showCode l c = (s.hear l).takeChange l c := by
  have candidate : ((s.hear l).modLink l fun k => { k with candidate := some c }) = s.hear l := by
    rw [State.hear, State.modLink, State.modLink, PerLink.mod_mod, PerLink.mod_congr]
    rw [← State.link, ← held]
  rw [State.showCode, if_pos ⟨held, differs⟩, candidate]

theorem State.showCode_holds (h : (s.link l).candidate ≠ some c ∨ (s.link l).taken = some c) :
    s.showCode l c = s.modLink l fun k =>
      { k with silence := some (s.uptime + silenceTime s.params l), candidate := some c } := by
  rw [State.showCode, if_neg (fun both => h.elim (absurd both.1) both.2), State.hear, State.modLink, State.modLink]
  simp only [PerLink.mod_mod]
  rfl

end

/-- Settles O53. -/
theorem Settled.statusWord : Obligations.StatusWord := by
  unfold Obligations.StatusWord
  refine ⟨fun n small => ?_, fun l b s => ⟨fun stopped => ?_, fun running invalid => ?_, fun c heard running valid named hh => ?_⟩⟩
  · interval_cases n <;> decide
  · exact congrArg Host.Outcome.next (if_neg stopped)
  · refine congrArg Host.Outcome.next ?_
    rw [Machine.statusWord, if_pos running, State.judgeStatus, statusCode, if_neg invalid]
    rfl
  have shows : exec (.statusWord l b) s = .next (s.showCode l c) := by
    refine congrArg Host.Outcome.next ?_
    rw [Machine.statusWord, if_pos running, State.judgeStatus, statusCode, if_pos valid, named]
  have silence : heard = s.uptime + silenceTime s.params l := by
    rw [hh]
    cases l <;> rfl
  subst silence
  refine ⟨fun holds => by rw [shows, State.showCode_holds holds]; rfl, fun held differs => ?_⟩
  rw [shows, State.showCode_takes held differs]
  have taken := State.hear_taken s l c
  have same : ((s.withTaken l c).link l).firstChange = (s.link l).firstChange
      ∧ ((s.withTaken l c).link l).latestChange = (s.link l).latestChange := by
    rw [State.withTaken, State.modLink_same]
    exact ⟨rfl, rfl⟩
  have first : (s.link l).firstChange = none → (s.withTaken l c).bufferChange l c = { s with links := s.links.mod l fun k =>
      { k with silence := some (s.uptime + silenceTime s.params l), taken := some c, firstChange := some c } } := fun empty => by
    rw [State.bufferChange_first (same.1.trans empty), State.withTaken, State.modLink, State.modLink, PerLink.mod_mod]
  have latest : (s.withTaken l c).modLink l (fun k => { k with latestChange := some c }) = { s with links := s.links.mod l fun k =>
      { k with silence := some (s.uptime + silenceTime s.params l), taken := some c, latestChange := some c } } := by
    rw [State.withTaken, State.modLink, State.modLink, PerLink.mod_mod]
  have second : (s.link l).firstChange ≠ none → (s.link l).latestChange = none →
      (s.withTaken l c).bufferChange l c = { s with links := s.links.mod l fun k =>
      { k with silence := some (s.uptime + silenceTime s.params l), taken := some c, latestChange := some c } } := fun full free => by
    rw [State.bufferChange_second (by rwa [same.1]) (same.2.trans free), latest]
  have third (lost : Code) : (s.link l).firstChange ≠ none → (s.link l).latestChange = some lost →
      (s.withTaken l c).bufferChange l c = State.post { s with links := s.links.mod l fun k =>
      { k with silence := some (s.uptime + silenceTime s.params l), taken := some c, latestChange := some c } }
      .codeLost (.codeLost l lost) := fun full lost => by
    rw [State.bufferChange_lost (by rwa [same.1]) (same.2.trans lost), latest]
  refine ⟨fun port => ?_, fun svc idle => ?_, fun svc absent maintained => ?_, fun pnl => ?_⟩
  · have takes : (s.hear l).takeChange l c = (s.withTaken l c).bufferChange l c := by
      rw [← taken]
      rcases port with rfl | rfl <;> rfl
    rw [takes]
    exact ⟨fun h => congrArg _ (first h), fun h h' => congrArg _ (second h h'), fun lost h h' => congrArg _ (third lost h h')⟩
  · have takes : (s.hear l).takeChange l c = s.withTaken l c := by
      rw [← taken]
      subst svc
      refine ite_eq_right_iff.2 fun absent => ?_
      exact State.returnToAuto_auto (idle.resolve_left (by rw [absent]; decide))
    rw [takes]
    rfl
  · have takes : (s.hear l).takeChange l c = (s.withTaken l c).returnToAuto := by
      rw [← taken]
      subst svc
      exact if_pos absent
    refine ⟨_, congrArg Host.Outcome.next takes, ?_⟩
    have quiet := State.returnToAuto_quietLinks (s.withTaken l c)
    have mode : (s.withTaken l c).siteMode = .maintenance := maintained
    refine ⟨?_, ?_, by simp [State.withTaken], ?_⟩
    · rw [State.returnToAuto, if_pos mode]
      split <;> simp
    · rw [State.returnToAuto, if_pos mode]
      split <;> simp
    · rw [LinkState.taken_of_quiet (State.quiet_link quiet .svc), State.withTaken, svc, State.modLink_same, absent]
  · have takes : (s.hear l).takeChange l c = ((s.withTaken l c).bufferChange l c).modeChoice := by
      rw [← taken]
      subst pnl
      rfl
    rw [takes]
    exact ⟨fun h => by rw [first h], fun h h' => by rw [second h h'], fun lost h h' => by rw [third lost h h']⟩

end

end Sys2Proof.Machine
end

-- ==== Proofs: telegrams, sent and received ====
section
namespace Sys2Proof

/-! ## Escapes (R158) -/

/-- A byte that is neither the flag nor the marker of a status word. -/
def Plain (b : Byte) : Prop := b ≠ 0x7E ∧ b ≠ 0x7B

theorem escaped_flip {b : Byte} (h : needsEscape b = true) : Plain (b ^^^ 0x20) ∧ b ^^^ 0x20 ≠ escapeMark := by
  have named : b = 0x7E ∨ b = 0x7D ∨ b = 0x7B := by
    simpa [needsEscape, flagByte, escapeMark, statusMark, or_assoc] using h
  rcases named with rfl | rfl | rfl <;> exact ⟨⟨by decide, by decide⟩, by decide⟩

theorem plain_of_unescaped {b : Byte} (h : needsEscape b = false) : Plain b ∧ b ≠ escapeMark := by
  simp only [needsEscape, Bool.or_eq_false_iff, beq_eq_false_iff_ne] at h
  exact ⟨⟨h.1.1, h.2⟩, h.1.2⟩

/-- R158: an escaped run holds no raw flag and no raw marker. -/
theorem escape_plain (bytes : List Byte) : ∀ b ∈ escape bytes, Plain b := by
  induction bytes with
  | nil => simp [escape]
  | cons b rest ih =>
    rw [escape]
    split
    · next h =>
      simp only [List.mem_cons, forall_eq_or_imp]
      exact ⟨⟨by decide, by decide⟩, (escaped_flip h).1, ih⟩
    · next h =>
      simp only [List.mem_cons, forall_eq_or_imp]
      exact ⟨(plain_of_unescaped (Bool.eq_false_of_not_eq_true h)).1, ih⟩

/-- R160: an escaped run does not end with the byte that opens an escape. -/
theorem escape_getLast (bytes : List Byte) : (escape bytes).getLast? ≠ some escapeMark := by
  induction bytes with
  | nil => simp [escape]
  | cons b rest ih =>
    rw [escape]
    split
    · next h =>
      rw [List.getLast?_cons_cons, List.getLast?_cons]
      cases g : (escape rest).getLast? with
      | none => simpa using (escaped_flip h).2
      | some x => simpa [g] using ih
    · next h =>
      rw [List.getLast?_cons]
      cases g : (escape rest).getLast? with
      | none => simpa using (plain_of_unescaped (Bool.eq_false_of_not_eq_true h)).2
      | some x => simpa [g] using ih

theorem unescape_cons {b : Byte} (h : b ≠ escapeMark) (rest : List Byte) : unescape (b :: rest) = (unescape rest).map (b :: ·) := by
  cases rest with
  | nil => simp [unescape, h]
  | cons d rest => rw [unescape, if_neg h]

/-- R158, R160: escapes are removed as they were put in. -/
theorem unescape_escape (bytes : List Byte) : unescape (escape bytes) = some bytes := by
  induction bytes with
  | nil => rfl
  | cons b rest ih =>
    rw [escape]
    split
    · rw [unescape, if_pos rfl, ih, BitVec.xor_assoc, BitVec.xor_self, BitVec.xor_zero]
      rfl
    · next h =>
      rw [unescape_cons (plain_of_unescaped (Bool.eq_false_of_not_eq_true h)).2, ih]
      rfl

/-! ## The receiver (R160) -/

theorem Receiver.byte_inside {b : Byte} (h : Plain b) (gathered : List Byte) :
    (Receiver.inside gathered).byte b = (.inside (b :: gathered), []) := (if_neg h.1).trans (if_neg h.2)

theorem Receiver.byte_outside {b : Byte} (h : Plain b) : Receiver.outside.byte b = (.outside, []) :=
  (if_neg h.1).trans (if_neg h.2)

/-- R160: plain bytes inside a telegram are gathered. -/
theorem Receiver.inside_plain (raw tail gathered : List Byte) (h : ∀ b ∈ raw, Plain b) :
    (Receiver.inside gathered).bytes (raw ++ tail) = (Receiver.inside (raw.reverse ++ gathered)).bytes tail := by
  induction raw generalizing gathered with
  | nil => rfl
  | cons b rest ih =>
    rw [List.cons_append, Receiver.bytes, Receiver.byte_inside (h b (List.mem_cons_self ..)), List.nil_append,
      ih _ fun d hd => h d (List.mem_cons_of_mem _ hd), List.reverse_cons, List.append_assoc]
    rfl

/-- R160: plain bytes outside a telegram are nothing. -/
theorem Receiver.outside_plain (raw tail : List Byte) (h : ∀ b ∈ raw, Plain b) :
    Receiver.outside.bytes (raw ++ tail) = Receiver.outside.bytes tail := by
  induction raw with
  | nil => rfl
  | cons b rest ih =>
    rw [List.cons_append, Receiver.bytes, Receiver.byte_outside (h b (List.mem_cons_self ..)), List.nil_append,
      ih fun d hd => h d (List.mem_cons_of_mem _ hd)]

/-- R160: a run of plain bytes between two flags is judged as one telegram. -/
theorem receive_plain {raw : List Byte} (h : ∀ b ∈ raw, Plain b) : receive raw = judgeTelegram raw := by
  rw [receive, Receiver.inside_plain _ _ _ h, List.append_nil, Receiver.bytes, Receiver.byte, if_pos rfl,
    List.reverse_reverse, Receiver.bytes, List.append_nil]

/-- R160: the bytes of a telegram with its escapes removed are judged. -/
theorem receive_unescaped {raw bytes : List Byte} (some_bytes : raw ≠ []) (h : ∀ b ∈ raw, Plain b)
    (read : unescape raw = some bytes) (whole : raw.getLast? ≠ some escapeMark) : receive raw = [judgeBytes bytes] := by
  rw [receive_plain h, judgeTelegram, if_neg some_bytes, if_neg whole, read]

/-- R160: a telegram that ends with the byte that opens an escape is bad. -/
theorem receive_cut {raw : List Byte} (h : ∀ b ∈ raw, Plain b) (cut : raw.getLast? = some escapeMark) : receive raw = [.bad] := by
  have some_bytes : raw ≠ [] := by
    rintro rfl
    cases cut
  rw [receive_plain h, judgeTelegram, if_neg some_bytes, if_pos cut]

theorem receive_bad {raw bytes : List Byte} (some_bytes : raw ≠ []) (h : ∀ b ∈ raw, Plain b)
    (read : unescape raw = some bytes) (bad : judgeBytes bytes = .bad) : receive raw = [.bad] := by
  by_cases cut : raw.getLast? = some escapeMark
  · exact receive_cut h cut
  · rw [receive_unescaped some_bytes h read cut, bad]

/-- R160: a raw marker ends a telegram as a bad one and opens a status word. -/
theorem receive_marked {before after : List Byte} {code : Byte} (hb : ∀ b ∈ before, Plain b) (ha : ∀ b ∈ after, Plain b) :
    receive (before ++ 0x7B :: code :: after) = [.bad, .status code] := by
  rw [receive, List.append_assoc, Receiver.inside_plain _ _ _ hb]
  show [Received.bad, .status code] ++ Receiver.outside.bytes (after ++ [flagByte]) = _
  rw [Receiver.outside_plain _ _ ha]
  rfl

theorem judgeBytes_short {bytes : List Byte} (h : bytes.length < 5) : judgeBytes bytes = .bad := by
  unfold judgeBytes
  split
  · refine if_neg fun good => ?_
    have := good.2.1
    simp only [List.length_cons] at h
    omega
  · rfl

/-- R158, R160: a telegram's bytes are judged good. -/
theorem judgeBytes_telegram (kind seq : Byte) (payload : List Byte) (h : payload.length ≤ 60) :
    judgeBytes (telegramBody kind seq payload ++ crc16Bytes (telegramBody kind seq payload)) = .good kind seq payload := by
  have len : (BitVec.ofNat 8 payload.length).toNat = payload.length := by
    rw [BitVec.toNat_ofNat]
    omega
  simp only [telegramBody, List.cons_append, judgeBytes, len]
  rw [List.take_left, List.drop_left, if_pos ⟨h, by simp [crc16Bytes], rfl⟩]

end Sys2Proof

namespace Sys2Proof.Machine

/-- Settles O51. -/
theorem telegramRoundTrip : Obligations.TelegramRoundTrip := by
  unfold Obligations.TelegramRoundTrip
  intro kind seq payload h
  refine ⟨?_, escape_plain _⟩
  have some_bytes : telegramBytes kind seq payload ≠ [] := by
    intro none
    have read := unescape_escape (telegramBody kind seq payload ++ crc16Bytes (telegramBody kind seq payload))
    rw [telegramBytes] at none
    rw [none] at read
    cases read
  rw [receive_unescaped some_bytes (escape_plain _) (unescape_escape _) (escape_getLast _),
    judgeBytes_telegram kind seq payload h]

/-- Settles O52. -/
theorem telegramIsHandled : Obligations.TelegramIsHandled := by
  unfold Obligations.TelegramIsHandled
  intro l raw s
  have handled (running : s.phase = .running) :
      exec (.telegram l raw) s = .next ((receive raw).foldl (fun t r => t.receiveOne l r) s) :=
    congrArg Host.Outcome.next (if_pos running)
  refine ⟨fun idle => ?_, fun running bad => ?_, fun kind seq payload heard running good hh => ?_,
    fun bytes some_bytes plain read => ⟨fun short => ?_, fun kind seq len rest hbytes wrong => ?_⟩,
    fun before cut plain => ?_, fun before code after marked plain => ?_⟩
  · by_cases running : s.phase = .running
    · rw [handled running, idle.resolve_left (not_not_intro running)]
      rfl
    · exact congrArg Host.Outcome.next (if_neg running)
  · rw [handled running, bad]
    rfl
  · have silence : heard = s.uptime + silenceTime s.params l := by
      rw [hh]
      cases l <;> rfl
    subst silence
    have queue : ((s.hear l).link l).queue = (s.link l).queue := by
      rw [State.hear, State.modLink_same]
    rw [handled running, good]
    refine ⟨fun free => congrArg Host.Outcome.next ?_, fun full => congrArg Host.Outcome.next ?_⟩
    · show (s.hear l).offerRequest l _ = _
      rw [State.offerRequest, if_pos (by rwa [queue]), State.hear, State.modLink, State.modLink, PerLink.mod_mod]
    · show (s.hear l).offerRequest l _ = _
      rw [State.offerRequest, if_neg (by rw [queue]; omega)]
      rfl
  · exact receive_bad some_bytes plain read (judgeBytes_short short)
  · refine receive_bad some_bytes plain read ?_
    rw [hbytes, judgeBytes, if_neg]
    rintro ⟨small, length, crc⟩
    rcases wrong with long | other | other
    · omega
    · exact other length
    · exact other crc
  · have all : ∀ b ∈ raw, Plain b := by
      rw [cut]
      simp only [List.mem_append, List.mem_singleton]
      rintro b (h | rfl)
      · exact plain b h
      · exact ⟨by decide, by decide⟩
    exact receive_cut all (by rw [cut, List.getLast?_concat]; rfl)
  · have found : receive raw = [.bad, .status code] := by
      rw [marked]
      exact receive_marked (fun b h => plain b (List.mem_append_left _ h)) fun b h => plain b (List.mem_append_right _ h)
    refine ⟨found, fun running => ?_⟩
    rw [handled running, found]
    exact congrArg Host.Outcome.next (if_pos running).symm

end Sys2Proof.Machine
end

-- ==== Proofs: the grid permit's commands ====
section
namespace Sys2Proof.Machine

section
variable {s : State} {l : Link} {q : Byte}

/-! ## CONNECT, DISCONNECT (R146, R148) -/

theorem connect_delivered (d : s.delivers l ⟨10, q, []⟩) :
    exec (.connect l q []) s = .next ((s.connectAnswer l).1.answerHead l ⟨10, q, []⟩ (s.connectAnswer l).2
      (s.connectAnswer l).1.permitItems) :=
  congrArg Host.Outcome.next (State.serveReported_delivers d _)

theorem disconnect_delivered (d : s.delivers l ⟨11, q, []⟩) :
    exec (.disconnect l q []) s = .next (s.disconnect.answerHead l ⟨11, q, []⟩ .done s.disconnect.permitItems) :=
  congrArg Host.Outcome.next (State.serveReported_delivers d _)

theorem clearLockBreaker_delivered (d : s.delivers l ⟨20, q, [0]⟩) :
    exec (.clearLockBreaker l q [0]) s = .next (s.clearBreaker.1.answerHead l ⟨20, q, [0]⟩ s.clearBreaker.2
      s.clearBreaker.1.permitItems) :=
  congrArg Host.Outcome.next ((if_pos rfl).trans (State.serveReported_delivers d _))

theorem State.connectConditions_iff (s : State) (l : Link) : s.connectConditions l = true ↔
    s.agreement.state = .resolved ∧ 1 ≤ s.joinedCount ∧ (s.fire.stage = .normal ∨ s.fire.stage = .preAlert)
      ∧ (l = .stn → s.permit.stnCode = some .inService)
      ∧ s.permit.cnvCode ≠ some .fault ∧ s.permit.stnCode ≠ some .shed ∧ s.permit.breaker = .opened := by
  simp [State.connectConditions, and_assoc, imp_iff_not_or]

/-- Settles O45. -/
theorem connectAndDisconnect : Obligations.ConnectAndDisconnect := by
  unfold Obligations.ConnectAndDisconnect
  intro l q s
  refine ⟨fun r conditions hr d hc => ?_, fun r hr d => ?_⟩ <;> subst hr
  · rw [connect_delivered d]
    rw [← State.connectConditions_iff] at hc
    refine ⟨fun granted => ?_, fun refused => ?_, fun opened met t ht => ?_⟩
    · have same : s.connectAnswer l = (s, .done) := by
        rcases granted with g | ⟨g, running⟩ <;> simp only [State.connectAnswer, g]
        rw [running]
        rfl
      rw [same]
    · have same : s.connectAnswer l = (s, .refusedState) := by
        rcases refused with ⟨g, pending⟩ | g | g | ⟨g, unmet⟩ <;> simp only [State.connectAnswer, g]
        · rw [pending]
          rfl
        · rw [if_neg fun met => unmet (hc.2 met)]
      rw [same]
    · have grants : s.connectAnswer l = (t, .done) := by
        simp only [State.connectAnswer, opened, if_pos (hc.1 met), ht, State.grant]
        rfl
      rw [grants]
  · rw [disconnect_delivered d]
    refine ⟨fun idle => ?_, fun pending t ht => ?_, fun closed running t ht => ?_⟩
    · have same : s.disconnect = s := by
        rcases idle with g | g | g | ⟨g, pending⟩ <;> simp only [State.disconnect, g]
        exact if_pos pending
      rw [same]
    · have withdraws : s.disconnect = t := by
        simp only [State.disconnect, pending, ht]
        rfl
      rw [withdraws]
    · have releases : s.disconnect = t := by
        simp only [State.disconnect, closed, running, ht]
        rw [← closed]
        rfl
      rw [releases]

/-! ## Trips (R150, R151) -/

theorem State.trip_apart (h : s.permit.state.connected = false) (k : TripCause) : s.trip k = s :=
  if_neg (by rw [h]; decide)

theorem State.trip_permit (h : s.permit.state.connected = true) (k : TripCause) :
    (s.trip k).permit = s.permit.tripped s.uptime (1000 * s.params.recloseDelay.toNat) (s.tripRecord k) := by
  rw [State.trip, if_pos h]
  rfl

theorem lockout_iff (times : List Nat) (now : Nat) : lockout (times ++ [now]) = true ↔
    ∃ a b, times ++ [now] = [a, b, now] ∧ now ≤ a + 600000 := by
  match times with
  | [] => simp [lockout]
  | [a] => simp [lockout]
  | [a, b] => simp [lockout]
  | a :: b :: c :: rest => simp [lockout]

/-- Settles O49. -/
theorem tripIsTaken : Obligations.TripIsTaken := by
  unfold Obligations.TripIsTaken
  refine fun k s => ⟨fun notPending notClosed => State.trip_apart ?_ k, fun connected times locked x reclose ht hl hx hr => ?_⟩
  · cases g : s.permit.state <;> simp [g, PermitState.connected] at *
  · have on : s.permit.state.connected = true := by rcases connected with g | g <;> rw [g] <;> rfl
    have taken : appendRing 3 s.permit.tripTimes s.uptime = times := ht.symm
    have record : s.tripRecord k = x := hx.symm
    have out : locked ↔ lockout times = true := by
      rw [hl, ht]
      exact (lockout_iff _ _).symm
    refine ⟨s.permit.tripped s.uptime (1000 * s.params.recloseDelay.toNat) (s.tripRecord k), ?_, fun yes => ?_, fun no => ?_, ?_⟩
    · rw [← taken, ← record]
      rfl
    · simp only [Permit.tripped, taken, if_pos (out.1 yes), and_self]
    · simp only [Permit.tripped, taken, if_neg (mt out.2 no), hr, and_self]
    · rw [State.trip, if_pos on]
      rfl

/-! ## The breaker feedback and the timers (R147, R148, R152 to R154) -/

/-- Settles O46. -/
theorem breakerFeedbackAndClearLock : Obligations.BreakerFeedbackAndClearLock := by
  unfold Obligations.BreakerFeedbackAndClearLock
  intro s
  have judged (level : Contact) (running : s.phase = .running) (new : level ≠ s.permit.breaker) :
      exec (.breakerFeedbackChange level) s = .next (s.modPermit fun q => { q with breaker := level }).judgeBreaker :=
    congrArg Host.Outcome.next ((if_neg new).trans (if_pos running))
  refine ⟨congrArg Host.Outcome.next (if_pos rfl), fun level stopped => congrArg Host.Outcome.next ?_, fun running opened => ?_,
    fun running closed => ?_, fun l q r hr d => ?_⟩
  · rw [breakerFeedbackChange, if_neg stopped]
    split
    · next same => rw [same]
    · rfl
  · rw [judged .closed running (by rw [opened]; decide)]
    refine ⟨fun g => ?_, fun g => ?_, fun g g' => ?_⟩
    · simp only [State.judgeBreaker, State.modPermit, g]
      rfl
    · simp only [State.judgeBreaker, State.modPermit, g]
    · cases g'' : s.permit.state <;> simp [g''] at g g' <;> simp only [State.judgeBreaker, State.modPermit, g''] <;> rfl
  · rw [judged .opened running (by rw [closed]; decide)]
    refine ⟨fun g => ?_, fun g pending => ?_, fun g unasked => ?_⟩
    · cases g' : s.permit.state <;> simp [g'] at g <;> simp only [State.judgeBreaker, State.modPermit, g']
    · simp only [State.judgeBreaker, State.modPermit, g, pending, if_true]
      rfl
    · simp [State.judgeBreaker, State.modPermit, g, unasked]
  · subst hr
    rw [clearLockBreaker_delivered d]
    refine ⟨fun g => ?_, fun g g' => ?_, fun g opened t ht => ?_⟩
    · rw [(by simp only [State.clearBreaker, g] : s.clearBreaker = (s, .done))]
    · have refused : s.clearBreaker = (s, .refusedState) := by
        cases g'' : s.permit.state <;> simp [g''] at g g' <;> simp [State.clearBreaker, g'', g']
      rw [refused]
    · have clears : s.clearBreaker = (t, .done) := by
        simp only [State.clearBreaker, g, if_pos opened, ht]
        rfl
      rw [clears]

/-- Settles O47. -/
theorem permitTimers : Obligations.PermitTimers := by
  unfold Obligations.PermitTimers
  intro s
  refine ⟨fun none => ?_, fun none => ?_, fun none => ?_, fun none => ?_, fun x => ⟨fun timer g => ?_, fun timer closed => ?_,
    fun timer opened => ?_, fun timer g => ?_, fun timer => ?_⟩⟩ <;> refine congrArg Host.Outcome.next ?_
  · rw [closePendingTimerExpiry, none]
  · rw [releaseTimerExpiry, none]
  · rw [recloseTimerExpiry, none]
  · rw [tripPulseEnd, none]
  · rw [closePendingTimerExpiry, timer]
    exact if_pos g
  · rw [releaseTimerExpiry, timer]
    exact if_pos closed
  · rw [releaseTimerExpiry, timer]
    exact if_neg (by rw [State.atTime, opened]; decide)
  · rw [recloseTimerExpiry, timer]
    exact if_pos g
  · rw [tripPulseEnd, timer]
    rfl

/-! ## The permit evaluation (R149, R150) -/

theorem weave_ne_nil {α : Type} (xs ys : List α) : weave xs ys ≠ [] := by
  induction ys generalizing xs with
  | nil => simp [weave]
  | cons y rest ih =>
    obtain ⟨w, more, e⟩ := List.exists_cons_of_ne_nil (ih (xs.drop 0))
    refine List.ne_nil_of_mem (a := xs.take 0 ++ y :: w) ?_
    simp only [weave, List.mem_flatMap, List.mem_range, List.mem_map]
    exact ⟨0, Nat.succ_pos _, w, e ▸ List.mem_cons_self .., rfl⟩

theorem filterMap_inl {α β : Type} (xs : List α) :
    (xs.map (Sum.inl : α → α ⊕ β)).filterMap Sum.getLeft? = xs ∧ (xs.map (Sum.inl : α → α ⊕ β)).filterMap Sum.getRight? = [] := by
  induction xs with
  | nil => exact ⟨rfl, rfl⟩
  | cons x rest ih => simpa using ih

/-- A list taken into another is one list of their entries, each kept in its own order. -/
theorem exists_sum_of_mem_weave {α β γ : Type} (f : α → γ) (g : β → γ) {xs : List α} {ys : List β} {w : List γ}
    (h : w ∈ weave (xs.map f) (ys.map g)) :
    ∃ v : List (α ⊕ β), w = v.map (Sum.elim f g) ∧ v.filterMap Sum.getLeft? = xs ∧ v.filterMap Sum.getRight? = ys := by
  induction ys generalizing xs w with
  | nil =>
    refine ⟨xs.map .inl, ?_, ?_, ?_⟩
    · rw [List.mem_singleton.1 h, List.map_map]
      rfl
    · exact (filterMap_inl xs).1
    · exact (filterMap_inl xs).2
  | cons y rest ih =>
    simp only [List.map_cons, weave, List.mem_flatMap, List.mem_range, List.mem_map] at h
    obtain ⟨i, -, w', hw, rfl⟩ := h
    rw [← List.map_drop] at hw
    obtain ⟨v, rfl, left, right⟩ := ih hw
    refine ⟨(xs.take i).map .inl ++ .inr y :: v, ?_, ?_, ?_⟩
    · simp [List.map_take]
    · rw [List.filterMap_append, (filterMap_inl _).1, List.filterMap_cons_none rfl, left, List.take_append_drop]
    · rw [List.filterMap_append, (filterMap_inl _).2, List.filterMap_cons_some (f := Sum.getRight?) (b := y) rfl, right, List.nil_append]

/-- R149: the pass of a code of the converter or of the station. -/
def codePass : Code ⊕ Code → State → State :=
  Sum.elim (fun k t => t.cnvPass k) fun k t => t.stnPass k

/-- A code that trips a connected permit: FAULT of the converter, SHED of the station. -/
def Trips : Code ⊕ Code → Prop
  | .inl k => k = .fault
  | .inr k => k = .shed

/-- R150: the cause of a trip by a code. -/
def tripCause : Code ⊕ Code → TripCause :=
  Sum.elim (fun _ => .converterFault) fun _ => .shed

/-- What the passes of some codes make of the permit unit: the last code of each link is in use, and a connected permit is
tripped once where a code trips it. -/
structure State.Evaluated (v : List (Code ⊕ Code)) (s t : State) : Prop where
  uptime : t.uptime = s.uptime
  cnvCode : t.permit.cnvCode = (v.filterMap Sum.getLeft?).getLast?.or s.permit.cnvCode
  stnCode : t.permit.stnCode = (v.filterMap Sum.getRight?).getLast?.or s.permit.stnCode
  stands : ¬(s.permit.state.connected = true ∧ ∃ k ∈ v, Trips k) →
    t.permit = { s.permit with cnvCode := t.permit.cnvCode, stnCode := t.permit.stnCode }
  disconnects : s.permit.state.connected = true → (∃ k ∈ v, Trips k) → t.permit.state.connected = false
  pulses : s.permit.state.connected = true → (∃ k ∈ v, Trips k) → t.permit.pulse = some (s.uptime + 200)
  noted : s.permit.state.connected = true → (∃ k ∈ v, Trips k) →
    t.permit.tripTimes = appendRing 3 s.permit.tripTimes s.uptime
  recorded : s.permit.state.connected = true → (∃ k ∈ v, Trips k) →
    ∃ k ∈ v, Trips k ∧ t.permit.ring.getLast?.map TripRecord.cause = some (tripCause k)

theorem State.Evaluated.nil (s : State) : s.Evaluated [] s := by
  constructor <;> simp

/-- The passes of some codes, then those of some more. -/
theorem State.Evaluated.append {v w : List (Code ⊕ Code)} {s t u : State} (h : s.Evaluated v t) (h' : t.Evaluated w u) :
    s.Evaluated (v ++ w) u := by
  have later (on : s.permit.state.connected = true) (none : ¬∃ k ∈ v, Trips k) :
      t.permit.state.connected = true ∧ t.permit.tripTimes = s.permit.tripTimes := by
    rw [h.stands fun both => none both.2]
    exact ⟨on, rfl⟩
  have more (none : ¬∃ k ∈ v, Trips k) (some : ∃ k ∈ v ++ w, Trips k) : ∃ k ∈ w, Trips k := by
    obtain ⟨k, member, trips⟩ := some
    exact ⟨k, (List.mem_append.1 member).resolve_left fun early => none ⟨k, early, trips⟩, trips⟩
  have after (on : s.permit.state.connected = true) (some : ∃ k ∈ v, Trips k) :
      u.permit = { t.permit with cnvCode := u.permit.cnvCode, stnCode := u.permit.stnCode } :=
    h'.stands fun both => by
      rw [h.disconnects on some] at both
      exact absurd both.1 (by decide)
  refine ⟨h'.uptime.trans h.uptime, ?_, ?_, fun none => ?_, fun on some => ?_, fun on some => ?_, fun on some => ?_,
    fun on some => ?_⟩
  · rw [h'.cnvCode, h.cnvCode, List.filterMap_append, List.getLast?_append, Option.or_assoc]
  · rw [h'.stnCode, h.stnCode, List.filterMap_append, List.getLast?_append, Option.or_assoc]
  · have first := h.stands fun ⟨on, k, member, trips⟩ => none ⟨on, k, List.mem_append_left _ member, trips⟩
    have second := h'.stands fun ⟨on, k, member, trips⟩ => none ⟨by rwa [first] at on, k, List.mem_append_right _ member, trips⟩
    rw [second, first]
  · by_cases early : ∃ k ∈ v, Trips k
    · rw [after on early]
      exact h.disconnects on early
    · exact h'.disconnects (later on early).1 (more early some)
  · by_cases early : ∃ k ∈ v, Trips k
    · rw [after on early]
      exact h.pulses on early
    · rw [h'.pulses (later on early).1 (more early some), h.uptime]
  · by_cases early : ∃ k ∈ v, Trips k
    · rw [after on early]
      exact h.noted on early
    · rw [h'.noted (later on early).1 (more early some), (later on early).2, h.uptime]
  · by_cases early : ∃ k ∈ v, Trips k
    · rw [after on early]
      obtain ⟨k, member, record⟩ := h.recorded on early
      exact ⟨k, List.mem_append_left _ member, record⟩
    · obtain ⟨k, member, record⟩ := h'.recorded (later on early).1 (more early some)
      exact ⟨k, List.mem_append_right _ member, record⟩

/-- A code put in use that trips nothing. -/
theorem State.Evaluated.uses {s t : State} {k : Code ⊕ Code} {permit : Permit}
    (hp : permit = { s.permit with cnvCode := k.getLeft?.or s.permit.cnvCode, stnCode := k.getRight?.or s.permit.stnCode })
    (ht : t = { s with permit := permit }) (none : ¬(s.permit.state.connected = true ∧ Trips k)) : s.Evaluated [k] t := by
  subst ht hp
  have absurd' {p : Prop} (on : s.permit.state.connected = true) (some : ∃ j ∈ [k], Trips j) : p := by
    simp only [List.mem_singleton, exists_eq_left] at some
    exact absurd ⟨on, some⟩ none
  refine ⟨rfl, ?_, ?_, fun _ => rfl, absurd', absurd', absurd', absurd'⟩
  · cases k <;> simp
  · cases k <;> simp

/-- R150: a code that trips a connected permit. -/
theorem State.Evaluated.trips {s u : State} {k : Code ⊕ Code}
    (hp : u.permit = { s.permit with cnvCode := k.getLeft?.or s.permit.cnvCode, stnCode := k.getRight?.or s.permit.stnCode })
    (hu : u.uptime = s.uptime) (on : s.permit.state.connected = true) (trips : Trips k) :
    s.Evaluated [k] (u.trip (tripCause k)) := by
  have permit := State.trip_permit (s := u) (by rw [hp]; exact on) (tripCause k)
  have some : ∃ j ∈ [k], Trips j := ⟨k, List.mem_singleton_self k, trips⟩
  refine ⟨by simp [hu], ?_, ?_, fun none => absurd ⟨on, some⟩ none, fun _ _ => State.trip_disconnects u _, fun _ _ => ?_, fun _ _ => ?_,
    fun _ _ => ⟨k, List.mem_singleton_self k, trips, ?_⟩⟩
  · rw [permit, Permit.tripped, hp]
    cases k <;> simp
  · rw [permit, Permit.tripped, hp]
    cases k <;> simp
  · rw [permit, hu]
    rfl
  · rw [permit, Permit.tripped, hp, hu]
  · rw [permit]
    exact congrArg (Option.map TripRecord.cause) List.getLast?_concat

/-- R149: the pass of one code. -/
theorem codePass_evaluated (k : Code ⊕ Code) (s : State) : s.Evaluated [k] (codePass k s) := by
  by_cases bad : s.permit.state.connected = true ∧ Trips k
  · cases k with
    | inl c =>
      have pass : codePass (.inl c) s = (s.modPermit fun q => { q with cnvCode := some c }).trip .converterFault := if_pos bad.2
      rw [pass]
      exact .trips rfl rfl bad.1 bad.2
    | inr c =>
      have pass : codePass (.inr c) s = (s.modPermit fun q => { q with stnCode := some c }).trip .shed := if_pos bad.2
      rw [pass]
      exact .trips rfl rfl bad.1 bad.2
  · cases k with
    | inl c =>
      refine .uses rfl ?_ bad
      show (if c = .fault then State.trip _ _ else _) = _
      split
      · next trips =>
        refine (State.trip_apart ?_ _).trans rfl
        exact Bool.eq_false_of_not_eq_true fun on => bad ⟨on, trips⟩
      · rfl
    | inr c =>
      refine .uses rfl ?_ bad
      show (if c = .shed then State.trip _ _ else _) = _
      split
      · next trips =>
        refine (State.trip_apart ?_ _).trans rfl
        exact Bool.eq_false_of_not_eq_true fun on => bad ⟨on, trips⟩
      · rfl

/-- R149: the passes of the codes of an evaluation, in their order. -/
theorem through_evaluated (v : List (Code ⊕ Code)) (s : State) : s.Evaluated v (s.through (v.map codePass)) := by
  induction v generalizing s with
  | nil => exact .nil s
  | cons k rest ih => exact (codePass_evaluated k s).append (ih _)

theorem codePass_frame (k : Code ⊕ Code) (s : State) :
    codePass k s = { s with permit := (codePass k s).permit, links := (codePass k s).links }
      ∧ (codePass k s).quietLinks = s.quietLinks := by
  cases k <;> simp only [codePass, Sum.elim_inl, Sum.elim_inr]
  · exact ⟨State.eq_iff.2 (by simp), by simp⟩
  · exact ⟨State.eq_iff.2 (by simp), by simp⟩

/-- R149: the codes of an evaluation are passed in one of their orders. -/
theorem State.codePasses_course (s : State) : ∃ (v : List (Code ⊕ Code)) (n : Nat),
    v.filterMap Sum.getLeft? = s.links.cnv.waitingCodes ∧ v.filterMap Sum.getRight? = s.links.stn.waitingCodes
      ∧ s.codePasses = { ((s.modLink .cnv LinkState.emptyBuffer).modLink .stn LinkState.emptyBuffer).through (v.map codePass) with
          choices := n } := by
  have order (w : List (State → State)) (member : w ∈ weave (s.links.cnv.waitingCodes.map fun k (t : State) => t.cnvPass k)
      (s.links.stn.waitingCodes.map fun k (t : State) => t.stnPass k)) :
      ∃ v : List (Code ⊕ Code), w = v.map codePass ∧ v.filterMap Sum.getLeft? = s.links.cnv.waitingCodes
        ∧ v.filterMap Sum.getRight? = s.links.stn.waitingCodes := exists_sum_of_mem_weave _ _ member
  unfold State.codePasses
  dsimp only
  split
  · next none => exact absurd none (weave_ne_nil _ _)
  · next p rest orders =>
    obtain ⟨t, member, n, e⟩ := State.oneOf_cases
      (((s.modLink .cnv LinkState.emptyBuffer).modLink .stn LinkState.emptyBuffer).through p)
      (rest.map ((s.modLink .cnv LinkState.emptyBuffer).modLink .stn LinkState.emptyBuffer).through)
    rw [← List.map_cons (f := State.through _)] at member
    obtain ⟨w, taken, rfl⟩ := List.mem_map.1 member
    obtain ⟨v, rfl, left, right⟩ := order w (orders ▸ taken)
    exact ⟨v, n, left, right, e⟩

/-- Settles O48. -/
theorem Settled.permitEvaluation : Obligations.PermitEvaluation := by
  unfold Obligations.PermitEvaluation
  intro s cnv stn bad running hc hs hb
  let u : State := { s.atTime s.clocks.permit with clocks := { s.clocks with permit := s.clocks.permit + 100 } }
  have runs : exec .permitEvaluation s = .next u.codePasses := congrArg Host.Outcome.next (if_pos running)
  obtain ⟨v, n, left, right, course⟩ := u.codePasses_course
  have left' : v.filterMap Sum.getLeft? = cnv := left.trans hc.symm
  have right' : v.filterMap Sum.getRight? = stn := right.trans hs.symm
  let e : State := (u.modLink .cnv LinkState.emptyBuffer).modLink .stn LinkState.emptyBuffer
  have evaluated := through_evaluated v e
  have framed : e.through (v.map codePass) = { e with
        permit := (e.through (v.map codePass)).permit, links := (e.through (v.map codePass)).links }
      ∧ (e.through (v.map codePass)).quietLinks = e.quietLinks :=
    State.through_keeps (P := fun t => t = { e with permit := t.permit, links := t.links } ∧ t.quietLinks = e.quietLinks)
      (fun f member t held => by
        obtain ⟨k, -, rfl⟩ := List.mem_map.1 member
        obtain ⟨frame, quiet⟩ := codePass_frame k t
        obtain ⟨still, quiet'⟩ := held
        refine ⟨frame.trans ?_, quiet.trans quiet'⟩
        generalize codePass k t = u
        rw [still]) ⟨rfl, rfl⟩
  have trips : bad ↔ e.permit.state.connected = true ∧ ∃ k ∈ v, Trips k := by
    rw [hb, ← left', ← right']
    refine and_congr_right fun _ => ⟨fun h => ?_, fun ⟨k, member, trips⟩ => ?_⟩
    · rcases h with h | h <;> obtain ⟨k, member, e⟩ := List.mem_filterMap.1 h
      · exact ⟨k, member, by cases k <;> cases e; rfl⟩
      · exact ⟨k, member, by cases k <;> cases e; rfl⟩
    · cases k with
      | inl c => exact .inl (List.mem_filterMap.2 ⟨_, member, congrArg some trips⟩)
      | inr c => exact .inr (List.mem_filterMap.2 ⟨_, member, congrArg some trips⟩)
  rw [runs, course]
  refine ⟨_, rfl, evaluated.uptime, ?_, left' ▸ evaluated.cnvCode, right' ▸ evaluated.stnCode, framed.2, fun none => ?_,
    fun some => ?_, ?_⟩
  · rw [framed.1]
    rfl
  · exact evaluated.stands (mt trips.2 none)
  · obtain ⟨on, some⟩ := trips.1 some
    refine ⟨evaluated.disconnects on some, (evaluated.pulses on some).trans ?_, (evaluated.noted on some).trans ?_, ?_⟩
    · exact congrArg (fun n => Option.some (n + 200)) evaluated.uptime.symm
    · exact congrArg (appendRing 3 s.permit.tripTimes) evaluated.uptime.symm
    · obtain ⟨k, member, trips, cause⟩ := evaluated.recorded on some
      refine ⟨tripCause k, cause, ?_⟩
      rw [← left', ← right']
      cases k with
      | inl c => exact .inl ⟨rfl, List.mem_filterMap.2 ⟨_, member, congrArg Option.some trips⟩⟩
      | inr c => exact .inr ⟨rfl, List.mem_filterMap.2 ⟨_, member, congrArg Option.some trips⟩⟩
  · have frame := framed.1
    change (({ e.through (v.map codePass) with choices := n }) : State) = _
    generalize e.through (v.map codePass) = t at frame ⊢
    rw [frame]
    rfl

end

end Sys2Proof.Machine
end

-- ==== Proofs: the histogram sample and the clearing of records ====
section
namespace Sys2Proof.Machine

section
variable {s : State}

/-- The statistics of a string after a sample at a temperature, or without one. -/
def StringStats.sampled (x : StringStats) : Option Int → StringStats
  | none => x
  | some t => { x with histogram := x.histogram.sample t }

/-- R124: one string sampled. -/
theorem State.sampleString_eq (s : State) (c : Str) : s.sampleString c = { s with store := { s.store with
    strings := s.store.strings.mod c fun x => x.sampled (s.histogramTemp c) } } := by
  unfold State.sampleString
  split
  · next t h => rw [h]; rfl
  · next h =>
    have same : s.store.strings.mod c (fun x => x.sampled (s.histogramTemp c)) = s.store.strings := by
      rw [h]
      cases c <;> rfl
    rw [same]

/-- R124: the histogram sample takes both strings. -/
theorem histogramSample_runs (running : s.phase = .running) : exec .histogramSample s = .next { s with
    uptime := max s.uptime s.clocks.histogram, clocks := { s.clocks with histogram := s.clocks.histogram + 1000 }
    store := { s.store with strings :=
      (s.store.strings.mod .one fun x => x.sampled (s.histogramTemp .one)).mod .two fun x => x.sampled (s.histogramTemp .two) } } := by
  refine congrArg Host.Outcome.next ?_
  rw [histogramSample, if_pos running, State.sampleString_eq, State.sampleString_eq]
  rfl

/-- R124: a string is sampled at its hottest temperature while its head is CURRENT with a current of 5.0 A or more. -/
theorem State.histogramTemp_none {c : Str}
    (h : (s.chain c).head.status ≠ .current ∨ (s.chain c).head.current.natAbs < 50 ∨ (s.chain c).hottest = none) :
    s.histogramTemp c = none := by
  unfold State.histogramTemp
  dsimp only
  split
  · next taken =>
    rw [Int.abs_eq_natAbs] at taken
    rcases h with h | h | h
    · exact absurd taken.1 h
    · omega
    · exact h
  · rfl

theorem State.histogramTemp_some {c : Str} (current : (s.chain c).head.status = .current)
    (flows : 50 ≤ (s.chain c).head.current.natAbs) : s.histogramTemp c = (s.chain c).hottest := by
  refine if_pos ⟨current, ?_⟩
  rw [Int.abs_eq_natAbs]
  omega

/-- R125: a sample into a bin with room. -/
theorem Histogram.sample_room {h : Histogram} {x : Int} (room : h.bin (binOf x) < 16777214) :
    h.sample x = h.add (binOf x) := by
  rw [Histogram.sample, if_neg (by rw [binMost]; omega)]

/-- R125: a sample into a full bin halves the histogram first. -/
theorem Histogram.sample_full {h : Histogram} {x : Int} (full : 16777214 ≤ h.bin (binOf x)) :
    h.sample x = h.halve.add (binOf x) := by
  rw [Histogram.sample, if_pos (show h.bin (binOf x) ≥ binMost from full)]

/-- Settles O39. -/
theorem statisticsCommands : Obligations.StatisticsCommands := by
  unfold Obligations.StatisticsCommands
  refine fun s => ⟨fun running => ⟨_, histogramSample_runs running, rfl, fun c => ?_⟩, fun l q => ⟨fun d g => ?_, fun d g => ?_, fun d => ?_⟩⟩
  · have stats : ((s.store.strings.mod .one fun x => x.sampled (s.histogramTemp .one)).mod .two fun x =>
        x.sampled (s.histogramTemp .two)).get c = (s.store.strings.get c).sampled (s.histogramTemp c) := by
      cases c <;> rfl
    simp only [stats]
    refine ⟨fun idle => by rw [State.histogramTemp_none idle]; rfl, fun x i old new current flows hottest hi hold hnew => ?_⟩
    have bin : binOf x = i := hi.symm
    rw [State.histogramTemp_some current flows, hottest, StringStats.sampled] at *
    subst hnew hold bin
    refine ⟨rfl, fun room => ?_, fun full => ?_⟩
    · rw [Histogram.sample_room room, Histogram.count_add]
      exact ⟨rfl, Histogram.bin_add _ _⟩
    · rw [Histogram.sample_full full, Histogram.count_add]
      refine ⟨rfl, fun j => ?_⟩
      rw [Histogram.bin_add, Histogram.bin_halve]
  · exact congrArg Host.Outcome.next (State.serve_now d (if_pos g))
  · exact congrArg Host.Outcome.next (State.serve_now d (if_neg g))
  · exact congrArg Host.Outcome.next (State.serve_now d rfl)

end

end Sys2Proof.Machine
end

-- ==== Proofs: the commit and the resets ====
section
namespace Sys2Proof.Machine

section
variable {s : State}

/-! ## COMMIT (R174) -/

theorem ConfigStore.unchanged_iff (k : ConfigStore) :
    k.unchanged = true ↔ k.fault = false ∧ ∃ i, k.image = some i ∧ i.values = k.working := by
  unfold ConfigStore.unchanged
  cases k.image <;> simp

/-- A link changed where the links differ in their notices alone. -/
theorem State.modLink_quietLinks {t : State} {l : Link} {f : LinkState → LinkState}
    (hf : ∀ k j : LinkState, k.quiet = j.quiet → (f k).quiet = (f j).quiet) (h : t.quietLinks = s.quietLinks) :
    (t.modLink l f).quietLinks = (s.modLink l f).quietLinks := by
  refine PerLink.ext_get fun m => ?_
  have quiet := State.quiet_link h m
  simp only [State.quietLinks, PerLink.get_mapLinks]
  show ((t.modLink l f).link m).quiet = ((s.modLink l f).link m).quiet
  rw [State.modLink_link, State.modLink_link]
  split
  · exact hf _ _ quiet
  · exact quiet

/-- Settles O59. -/
theorem Settled.commit : Obligations.Commit := by
  unfold Obligations.Commit
  refine fun s => ⟨fun l q r same hr d idle hs => ?_, fun idle => ?_, fun p r rest written answered writing queue hw ha => ?_⟩
  · subst hr
    have free : ¬s.config.writing.isSome = true := by
      rw [idle]
      decide
    rw [← ConfigStore.unchanged_iff] at hs
    refine ⟨fun yes => congrArg Host.Outcome.next (State.serve_now d ?_), fun no => congrArg Host.Outcome.next ?_⟩
    · rw [noPayload_nil, commitBlock, if_neg free, if_pos (hs.1 yes)]
      rfl
    · rw [Machine.commit, State.serve_later (t := s.modConfig fun k => { k with writing := some k.working }) d]
      · rfl
      · rw [noPayload_nil, commitBlock, if_neg free, if_neg (mt hs.2 no)]
  · exact congrArg Host.Outcome.next (by rw [commitComplete, idle])
  have runs : exec .commitComplete s = .next (s.completeWrite p) := congrArg Host.Outcome.next (by rw [commitComplete, writing])
  have stored : s.modConfig (fun k => k.written p) = { s with config := written } := by
    rw [hw]
    rfl
  have answers : answered = fun k => { k with
      waiting := false, out := k.out ++ [⟨r.kind ||| 0x80, r.seq, .done, [num (imageCrc p).toNat], true⟩] } := funext ha
  have answer (t : State) (ht : t.config = written) (hq : t.links.svc.queue = r :: rest) :
      t.answerCommit = { t with links := t.links.mod .svc answered } := by
    rw [State.answerCommit, hq]
    dsimp only
    have content : t.config.crcItems = [num (imageCrc p).toNat] := by
      rw [ht, hw]
      rfl
    rw [content, answers]
    refine congrArg (fun x => { t with links := x }) ?_
    exact PerLink.mod_mod t.links .svc (fun k => { k with out := k.out ++ [⟨r.kind ||| 0x80, r.seq, .done, [num (imageCrc p).toNat], true⟩] }) _
  refine ⟨fun sound => ?_, fun fault => ?_⟩
  · rw [runs, State.completeWrite, stored, if_neg (by rw [sound]; decide), answer { s with config := written } rfl queue]
  · rw [runs, State.completeWrite, stored, if_pos fault]
    have table := State.updateTable_table { s with config := written } fun t => { t with sc := .all (min s.stationCap s.serviceCap) }
    have course : ({ s with config := written } : State).deliverSc
        = ({ s with config := written } : State).updateTable fun t => { t with sc := .all (min s.stationCap s.serviceCap) } := by
      rw [hw]
      rfl
    have quiet := State.deliverSc_quietLinks { s with config := written }
    have frame := State.updateTable_eq { s with config := written } fun t => { t with sc := .all (min s.stationCap s.serviceCap) }
    rw [← course] at table frame
    generalize ({ s with config := written } : State).deliverSc = t at *
    have queue' : t.links.svc.queue = r :: rest := (LinkState.queue_of_quiet (State.quiet_link quiet .svc)).trans queue
    rw [answer t (by rw [frame]) queue']
    refine ⟨_, rfl, table, ?_, ?_⟩
    · refine State.modLink_quietLinks (fun k j same => ?_) quiet
      rw [answers]
      simp only [LinkState.quiet, LinkState.mk.injEq] at same ⊢
      simp [same]
    · rw [frame]

/-! ## The first cycle of a chain (R9, R10, R13) -/

theorem State.compareRange_answers (s : State) (c : Str) (l : Link) :
    ∃ more, (s.compareRange c).link l = { s.link l with out := (s.link l).out ++ more } := by
  unfold State.compareRange
  split
  · exact ⟨_, State.cleared_link s c _ l⟩
  · exact ⟨[], by rw [List.append_nil]⟩

/-- R9, R10: a due moment leaves of a link all but its answers, those to the waiting requests it drops. -/
theorem State.dueMoment_answers (s : State) (c : Str) (l : Link) :
    ∃ more, (s.dueMoment c).link l = { s.link l with out := (s.link l).out ++ more } := by
  obtain ⟨first, ranged⟩ := s.compareRange_answers c l
  unfold State.dueMoment
  dsimp only
  split
  · have cleared := State.cleared_link (s.compareRange c) c (fun _ => true) l
    rw [ranged, List.append_assoc] at cleared
    exact ⟨_, cleared⟩
  · exact ⟨first, ranged⟩

theorem State.firstDue_answers (s : State) (c : Str) (l : Link) :
    ∃ more, (s.firstDue c).link l = { s.link l with out := (s.link l).out ++ more } := s.dueMoment_answers c l

/-- What the completion of a reset leaves of a link's notices, speed and silence timer before it posts. -/
theorem State.firstDue_twice (s : State) (l : Link) : (((s.firstDue .one).firstDue .two).link l).notices = (s.link l).notices
    ∧ (((s.firstDue .one).firstDue .two).link l).speed = (s.link l).speed
    ∧ (((s.firstDue .one).firstDue .two).link l).silence = (s.link l).silence := by
  obtain ⟨first, one⟩ := s.firstDue_answers .one l
  obtain ⟨second, two⟩ := (s.firstDue .one).firstDue_answers .two l
  rw [two, one]
  exact ⟨rfl, rfl, rfl⟩

/-! ## The completion of a reset (R156, R176) -/

theorem LinkState.speed_of_quiet {k j : LinkState} (h : k.quiet = j.quiet) : k.speed = j.speed :=
  show k.quiet.speed = j.quiet.speed by rw [h]

theorem LinkState.silence_of_quiet {k j : LinkState} (h : k.quiet = j.quiet) : k.silence = j.silence :=
  show k.quiet.silence = j.quiet.silence by rw [h]

theorem State.reportFault_quietLinks' (s : State) : s.reportFault.quietLinks = s.quietLinks := by
  unfold State.reportFault
  split
  · rw [State.deliverSc_quietLinks]
    split
    · exact State.post_quietLinks ..
    · rfl
  · rfl

/-- R68: limits of 0 stand through an update of the table. -/
theorem State.updateTable_zero (h : s.envelope.limits = .all 0) (f : LimitTable → LimitTable) :
    (s.updateTable f).envelope.limits = .all 0 := by
  rw [State.updateTable, State.downward, State.publish_limits]
  simp [h, Row.zip, Row.all]

theorem State.reportFault_zero (h : s.envelope.limits = .all 0) : s.reportFault.envelope.limits = .all 0 := by
  unfold State.reportFault
  split
  · refine State.updateTable_zero ?_ _
    split
    · simpa using h
    · exact h
  · exact h

/-- R75, R176: in CONFIG-FAULT the delivered SC is 0. -/
theorem State.reportFault_sc (fault : s.config.fault = true) : s.reportFault.envelope.table.sc = ⟨0, 0, 0, 0⟩ := by
  rw [State.reportFault, if_pos fault, State.deliverSc, State.updateTable_table, State.siteCap, if_pos]
  · rfl
  · split
    · simpa using fault
    · exact fault

theorem State.SameNotice.reportFault {m : NoticeKind} (h : m ≠ .envelopeChanged) (h' : m ≠ .fault) (s : State) :
    s.SameNotice m s.reportFault := by
  unfold State.reportFault
  split
  · refine .trans ?_ (.updateTable h _ _)
    split
    · exact .post _ h' _
    · exact .of_links rfl
  · exact .of_links rfl

theorem State.SameNotice.judgeBreaker {m : NoticeKind} (h : m ≠ .breaker) (s : State) : s.SameNotice m s.judgeBreaker := by
  unfold State.judgeBreaker State.unpermittedClose State.postBreaker
  repeat' split
  case h_4.isFalse => exact .trip h s _
  all_goals first | exact .of_links rfl | exact .trans (.of_links rfl) (.post _ h _)

/-- R175, R176: the completion of a reset, the links aside. -/
theorem State.completeReset_course (s : State) :
    s.completeReset.phase = .running ∧ s.completeReset.uptime = 0 ∧ s.completeReset.resetKind = s.resetKind
      ∧ s.completeReset.siteResetDue = s.siteResetDue ∧ s.completeReset.config = s.config ∧ s.completeReset.store = s.store
      ∧ (∀ c, (s.completeReset.string c).check = some 200)
      ∧ s.completeReset.plant.prescaler = s.params.prescaler.toNat := by
  refine ⟨by simp [State.completeReset, State.ready], by simp [State.completeReset, State.ready], by simp [State.completeReset],
    by simp [State.completeReset], by simp [State.completeReset], by simp [State.completeReset], fun c => ?_,
    by simp [State.completeReset, State.ready]⟩
  have strings : s.completeReset.strings = s.ready.strings := by simp [State.completeReset]
  rw [State.string, strings]
  cases c <;> rfl

theorem State.completeReset_envelope (s : State) : s.completeReset.envelope
    = ((((s.ready.firstDue .one).firstDue .two).post .restart (.restart s.resetKind)).reportFault).envelope := by
  simp [State.completeReset]

/-- R68: limits of 0 stand through the completion of a reset. -/
theorem State.completeReset_limits (h : s.envelope.limits = .all 0) : s.completeReset.envelope.limits = .all 0 := by
  rw [State.completeReset_envelope]
  exact State.reportFault_zero (by simpa using h)

/-- R157, R164: what the completion of a reset makes of a link. -/
theorem State.completeReset_link (s : State) (l : Link) : (s.completeReset.link l).speed = s.params.linkSpeed l
    ∧ (s.completeReset.link l).silence = some (silenceTime s.params l) := by
  obtain ⟨-, speed, silence⟩ := s.ready.firstDue_twice l
  have quiet : ((((s.ready.firstDue .one).firstDue .two).post .restart (.restart s.resetKind)).reportFault.judgeBreaker).quietLinks
      = ((s.ready.firstDue .one).firstDue .two).quietLinks := by
    rw [State.judgeBreaker_quietLinks, State.reportFault_quietLinks', State.post_quietLinks]
  have same := State.quiet_link quiet l
  have ready : s.ready.link l = (s.link l).complete s.params l := by
    simp [State.ready, State.link]
  have noted (t : State) : (t.noteSiteCode.link l).speed = (t.link l).speed ∧ (t.noteSiteCode.link l).silence = (t.link l).silence := by
    simp [State.noteSiteCode, State.link]
  rw [State.completeReset, (noted _).1, (noted _).2, LinkState.speed_of_quiet same, LinkState.silence_of_quiet same, speed, silence, ready]
  exact ⟨rfl, rfl⟩

/-- R176: the completion of a reset posts RESTART on every link. -/
theorem State.completeReset_posts (s : State) : s.posts s.completeReset .restart (.restart s.resetKind) := by
  refine State.posts_of_before (t := (s.ready.firstDue .one).firstDue .two) (fun l => ?_) (State.posts_of_same ?_)
  · rw [LinkState.notice, (s.ready.firstDue_twice l).1]
    simp [State.ready, State.link, LinkState.notice, LinkState.complete]
  · rw [State.completeReset]
    refine .trans (.reportFault (by decide) (by decide) _) (.trans (.judgeBreaker (by decide) _) fun l => ?_)
    simp [State.noteSiteCode, State.link, LinkState.notice]

/-- R75, R176: in CONFIG-FAULT the completion of a reset delivers SC 0. -/
theorem State.completeReset_sc (fault : s.config.fault = true) : s.completeReset.envelope.table.sc = ⟨0, 0, 0, 0⟩ := by
  rw [State.completeReset_envelope]
  exact State.reportFault_sc (by simpa using fault)

/-! ## The start of a reset (R61, R156, R171, R175) -/

theorem State.startReset_link (s : State) (kind : ResetKind) (phase : Phase) (l : Link) :
    (s.startReset kind phase).link l = .atReset (s.link l).speed .startUp := by
  simp [State.startReset, State.link]

theorem State.startReset_chain (s : State) (kind : ResetKind) (phase : Phase) (c : Str) :
    (s.startReset kind phase).chain c = .atReset s.params.range := by
  cases c <;> rfl

theorem State.startReset_string (s : State) (kind : ResetKind) (phase : Phase) (c : Str) :
    (s.startReset kind phase).string c = (s.string c).atReset kind := by
  cases c <;> rfl

theorem StringState.afterReset_locked {g : StringState} {k : LockCause} {kind : ResetKind} (locked : g = .locked k)
    (warm : kind ≠ .powerOn) : g.afterReset kind = g := by
  subst locked
  cases kind
  case powerOn => exact absurd rfl warm
  all_goals rfl

theorem StringState.afterReset_opened {g : StringState} {kind : ResetKind} (h : (∀ k, g ≠ .locked k) ∨ kind = .powerOn) :
    g.afterReset kind = .opened := by
  rcases h with h | rfl
  · cases kind <;> cases g
    case siteReset.locked k => exact absurd rfl (h k)
    case resetLine.locked k => exact absurd rfl (h k)
    all_goals rfl
  · rfl

theorem PermitState.afterReset_eq (g : PermitState) (kind : ResetKind) :
    g.afterReset kind = if g = .lockedOut ∧ kind ≠ .powerOn then .lockedOut else .opened := by
  cases kind <;> cases g <;> rfl

/-- R176: the first check that the stored image fails. -/
theorem imageFault_eq (image : Option Image) : imageFault image = match image with
    | none => some .crc
    | some i => if i.crcOk = false then some .crc else if i.formatOk = false then some .format
      else if i.values.contentOk = false then some .content else none := by
  cases image with
  | none => rfl
  | some i => simp [imageFault]

theorem ConfigStore.load_sound {k : ConfigStore} {i : Image} (sound : imageFault k.image = none) (image : k.image = some i) :
    k.load.working = i.values := by
  rw [image] at sound
  simp only [ConfigStore.load, image, sound]

theorem ConfigStore.load_failed {k : ConfigStore} {cause : ConfigCause} (failed : imageFault k.image = some cause) :
    k.load.working = .defaults := by
  simp only [ConfigStore.load, failed]

/-! ## The load that finds a sound image of the defaults -/

/-- The part at the completion of a power-on's load of the defaults, the CRC-32 of their image as given. -/
def State.defaultsReady (crc : Option (BitVec 32)) : State :=
  { State.powerOnLoading with
    phase := .running
    strings := State.reset.strings
    links := State.powerOnLoading.links.mapLinks fun l k => k.complete .defaults l
    config := { State.powerOnLoading.config with crc := crc } }

theorem State.powerOnLoading_load : State.powerOnLoading.modConfig ConfigStore.load = { State.powerOnLoading with
    config := { State.powerOnLoading.config with crc := some (imageCrc .defaults) } } := by
  have sound : imageFault (some (Image.written .defaults)) = none := by decide
  rw [State.modConfig, ConfigStore.load]
  simp only [State.powerOnLoading, sound]
  rfl

theorem State.defaultsReady_completes (crc : Option (BitVec 32)) :
    State.completeReset { State.powerOnLoading with config := { State.powerOnLoading.config with crc := crc } }
      = { State.reset with config := { State.powerOnLoading.config with crc := crc } } := by
  have ready : State.ready { State.powerOnLoading with config := { State.powerOnLoading.config with crc := crc } }
      = State.defaultsReady crc := rfl
  have due : ((State.defaultsReady crc).firstDue .one).firstDue .two
      = { State.defaultsReady crc with chains := State.reset.chains } := rfl
  rw [State.completeReset, ready, due]
  rfl

/-- Settles O60. -/
theorem resets : Obligations.Resets := by
  unfold Obligations.Resets
  refine ⟨?_, fun s => ⟨fun on => ?_, fun off => ?_, fun off => ?_, fun on => ?_, fun held => ?_, fun released on => ?_,
    fun released off => ?_, rfl, ?_, fun other => ?_, ?_, fun l q r allowed hr d ha => ?_, fun idle => ?_, fun due => ?_⟩⟩
  · refine congrArg Host.Outcome.next ?_
    rw [startUpLoadComplete, if_pos (show State.powerOnLoading.phase = .loading from rfl), State.powerOnLoading_load, State.defaultsReady_completes]
    rfl
  · exact congrArg Host.Outcome.next (if_neg on)
  · exact congrArg Host.Outcome.next (if_pos off)
  · exact congrArg Host.Outcome.next (if_pos off)
  · exact congrArg Host.Outcome.next (if_neg on)
  · exact congrArg Host.Outcome.next (if_pos held)
  · exact congrArg Host.Outcome.next ((if_neg (by rw [released]; decide)).trans (if_neg on))
  · exact congrArg Host.Outcome.next ((if_neg (by rw [released]; decide)).trans (if_pos off))
  · rintro kind phase t rfl
    refine ⟨rfl, rfl, rfl, rfl, rfl, rfl, rfl, rfl, rfl, rfl, rfl, rfl, fun l => ?_, fun c => ?_, ?_, fun warm => ?_, fun cold => ?_, rfl⟩
    · rw [State.startReset_link]
      exact ⟨rfl, rfl, rfl⟩
    · rw [State.startReset_chain, State.startReset_string]
      exact ⟨rfl, rfl, rfl, fun ⟨k, locked, warm⟩ => StringState.afterReset_locked locked warm, StringState.afterReset_opened⟩
    · exact PermitState.afterReset_eq ..
    · refine ⟨if_neg warm, ?_⟩
      cases kind
      case powerOn => exact absurd rfl warm
      all_goals rfl
    · subst cold
      exact ⟨rfl, rfl⟩
  · exact congrArg Host.Outcome.next (if_neg other)
  · intro cause loading hc
    have failed : imageFault s.config.image = cause := by
      rw [hc]
      exact imageFault_eq _
    have runs : exec .startUpLoadComplete s = .next (s.modConfig ConfigStore.load).completeReset :=
      congrArg Host.Outcome.next (if_pos loading)
    obtain ⟨running, uptime, -, -, config, -, check, prescaler⟩ := (s.modConfig ConfigStore.load).completeReset_course
    have link := (s.modConfig ConfigStore.load).completeReset_link
    have params : (s.modConfig ConfigStore.load).completeReset.params = (s.modConfig ConfigStore.load).params :=
      congrArg ConfigStore.working config
    refine ⟨_, runs, running, uptime, ?_, ?_, ?_, ?_, fun i none image => ?_, fun some => ?_, fun some => ?_,
      (s.modConfig ConfigStore.load).completeReset_posts, check, ?_, ?_, (link .cnv).2, ?_, (link .pnl).2, (link .svc).2⟩
    · rw [config, ← failed]
      rfl
    · rw [config, ← failed]
      rfl
    · rw [config]
      rfl
    · rw [config]
      rfl
    · rw [config]
      exact ConfigStore.load_sound (failed.trans none) image
    · rw [config]
      obtain ⟨k, hk⟩ := Option.ne_none_iff_exists'.1 some
      exact ConfigStore.load_failed (failed.trans hk)
    · refine State.completeReset_sc ?_
      show (imageFault s.config.image).isSome = true
      rw [failed]
      exact Option.isSome_iff_ne_none.2 some
    · rw [prescaler, params]
    · rw [(link .cnv).1, params]
      rfl
    · rw [(link .stn).2, params]
      rfl
  · subst hr
    have allows : s.resetAllowed = true ↔ allowed := by
      rw [ha]
      simp [State.resetAllowed, and_assoc]
    exact ⟨fun yes => congrArg Host.Outcome.next (State.serve_now d (by rw [noPayload_nil, siteResetBlock, if_pos (allows.2 yes)])),
      fun no => congrArg Host.Outcome.next (State.serve_now d (by rw [noPayload_nil, siteResetBlock, if_neg (mt allows.1 no)]))⟩
  · exact congrArg Host.Outcome.next (if_neg (by rw [idle]; decide))
  · have runs : exec .siteResetStart s = .next (s.startReset .siteReset .loading).completeReset :=
      congrArg Host.Outcome.next (if_pos due)
    obtain ⟨running, uptime, kind, notDue, config, store, -, -⟩ := (s.startReset .siteReset .loading).completeReset_course
    refine ⟨_, runs, running, uptime, kind, notDue, (congrArg ConfigStore.working config :), ?_, store, State.completeReset_limits rfl, fun l => ?_⟩
    · rw [config]
      rfl
    · rw [(s.startReset .siteReset .loading).completeReset_posts l, LinkState.post_notice_same, State.startReset_link]
      have none : (LinkState.atReset (s.link l).speed .startUp).notice .restart = none := by
        simp [LinkState.notice, LinkState.atReset]
      rw [none]
      rfl

end

end Sys2Proof.Machine
end

-- ==== Proofs: the parameters ====
section
namespace Sys2Proof.Machine

/-! ## The parameter set (R172) -/

/-- The values of the 57 parameters, in the order of their numbers. -/
def Params.row (p : Params) : List ParamValue :=
  [.number p.firstAddr, .number p.lastAddr, .named p.fitted.index, .number p.overVolt, .number p.underVolt,
    .number p.overTemp, .number p.filterShift, .number p.preRise, .number p.heatRise, .number p.balWindow,
    .number p.balFloor, .number p.balCeiling, .number p.vts, .number p.vst, .number p.imaxC, .number p.vdt,
    .number p.vds, .number p.imaxD, .list p.chargeTable, .list p.dischargeTable, .number p.matchWindow,
    .number p.rampStep, .number p.runThreshold, .number p.heaterOn, .number p.heaterOff, .number p.chiller1On,
    .number p.chiller1Off, .number p.chiller2On, .number p.chiller2Off, .list p.fanCurve, .number p.fanMin,
    .number p.pumpDuty, .number p.prescaler, .number p.derateStart, .number p.derateStop, .number p.pumpFaultCap,
    .named (p.loopTypes[0]).index, .named (p.loopTypes[1]).index, .named (p.loopTypes[2]).index,
    .named (p.loopTypes[3]).index, .named (p.loopTypes[4]).index, .named (p.loopTypes[5]).index,
    .named (p.loopTypes[6]).index, .named (p.loopTypes[7]).index, .number p.gasLow, .number p.gasHigh, .number p.preAlertCap, .number p.degradedCap, .number p.fallbackImport,
      .number p.fallbackExport, .number p.nominalBus, .number p.recloseDelay, .number p.baudCnv, .number p.baudStn,
      .number p.baudPnl, .number p.baudSvc, .number p.stnTimeout]

/-- A value of a form, one of the list for a named one. -/
def ParamForm.Fits : ParamForm → ParamValue → Prop
  | .numeric _ _, .number _ => True
  | .speed, .number _ => True
  | .names count, .named k => k < count
  | .points .., .list _ => True
  | _, _ => False

theorem Fitted.index_ofIndex {k : Nat} (h : k < 3) : (Fitted.ofIndex k).index = k := by
  interval_cases k <;> rfl

theorem LoopType.index_ofIndex {k : Nat} (h : k < 3) : (LoopType.ofIndex k).index = k := by
  interval_cases k <;> rfl


theorem Params.row_get (p : Params) {m : Nat} (hm : 1 ≤ m) (hm' : m ≤ 57) : p.row[m - 1]? = some (p.get m) := by
  interval_cases m <;> rfl

theorem Params.row_fitted (p : Params) {k : Nat} (h : k < 3) :
    Params.row { p with fitted := Fitted.ofIndex k } = p.row.set 2 (.named k) := by
  have index := Fitted.index_ofIndex h
  show _ :: _ :: ParamValue.named (Fitted.ofIndex k).index :: _ = _
  rw [index]
  rfl

theorem Params.row_loopTypes (p : Params) (i : Fin 8) {k : Nat} (h : k < 3) :
    Params.row { p with loopTypes := p.loopTypes.set i (LoopType.ofIndex k) } = p.row.set (36 + i) (.named k) := by
  have index := LoopType.index_ofIndex h
  fin_cases i <;> simp [Params.row, index]

theorem paramForm_known {n : Nat} {f : ParamForm} (form : paramForm n = some f) : 1 ≤ n ∧ n ≤ 57 := by
  by_contra unknown
  rcases Nat.eq_zero_or_pos n with zero | positive
  · subst zero
    cases form
  · rw [paramForm_none (by omega)] at form
    cases form

/-- The named values are which strings are fitted and the loop types; the other numbers stand around them. -/
theorem paramNumber_cases {n : Nat} (low : 1 ≤ n) (high : n ≤ 57) :
    n = 3 ∨ (∃ i : Fin 8, n = i.val + 37) ∨ n ≤ 2 ∨ (4 ≤ n ∧ n ≤ 36) ∨ 45 ≤ n := by
  by_cases loop : 37 ≤ n ∧ n ≤ 44
  · exact .inr (.inl ⟨⟨n - 37, by omega⟩, by simp only; omega⟩)
  · omega

theorem Params.set_loopType (p : Params) (i : Fin 8) (k : Nat) :
    p.set (i.val + 37) (.named k) = { p with loopTypes := p.loopTypes.set i (LoopType.ofIndex k) } := by
  fin_cases i <;> rfl

theorem Params.get_loopType (p : Params) (i : Fin 8) : p.get (i.val + 37) = .named (p.loopTypes[i]).index := by
  fin_cases i <;> rfl

theorem paramForm_loopType (i : Fin 8) : paramForm (i.val + 37) = paramForm 37 := by
  fin_cases i <;> rfl

/-- R172: a value of a parameter's form replaces that parameter's value and no other. -/
theorem Params.row_set (p : Params) {n : Nat} {f : ParamForm} {v : ParamValue} (form : paramForm n = some f) (fits : f.Fits v) :
    (p.set n v).row = p.row.set (n - 1) v := by
  obtain ⟨low, high⟩ := paramForm_known form
  rcases paramNumber_cases low high with rfl | ⟨i, rfl⟩ | plain | ⟨first, last⟩ | plain
  · cases form
    cases v with
    | named k => exact p.row_fitted fits
    | number | list => exact fits.elim
  · rw [paramForm_loopType] at form
    cases form
    cases v with
    | named k =>
      rw [p.set_loopType, p.row_loopTypes i fits, Nat.add_sub_assoc (by decide), Nat.add_comm 36]
    | number | list => exact fits.elim
  all_goals interval_cases n <;> cases form <;> cases v <;> first | exact fits.elim | rfl

theorem Params.get_set_same (p : Params) {n : Nat} {f : ParamForm} {v : ParamValue} (form : paramForm n = some f)
    (fits : f.Fits v) : (p.set n v).get n = v := by
  obtain ⟨low, high⟩ := paramForm_known form
  have row := (p.set n v).row_get low high
  rw [p.row_set form fits, List.getElem?_set_self (show n - 1 < 57 by omega)] at row
  exact (Option.some.inj row).symm

theorem Params.get_set_other (p : Params) {n m : Nat} {f : ParamForm} {v : ParamValue} (form : paramForm n = some f)
    (fits : f.Fits v) (low : 1 ≤ m) (high : m ≤ 57) (other : m ≠ n) : (p.set n v).get m = p.get m := by
  obtain ⟨low', high'⟩ := paramForm_known form
  have row := (p.set n v).row_get low high
  rw [p.row_set form fits, List.getElem?_set_ne (by omega), p.row_get low high] at row
  exact (Option.some.inj row).symm

theorem Fitted.ofIndex_index (f : Fitted) : Fitted.ofIndex f.index = f := by
  cases f <;> rfl

theorem LoopType.ofIndex_index (t : LoopType) : LoopType.ofIndex t.index = t := by
  cases t <;> rfl

/-- R172: a parameter given the value it has. -/
theorem Params.set_get (p : Params) {n : Nat} {f : ParamForm} (form : paramForm n = some f) : p.set n (p.get n) = p := by
  obtain ⟨low, high⟩ := paramForm_known form
  have type (i : Fin 8) : p.loopTypes.set i (LoopType.ofIndex (p.loopTypes[i]).index) = p.loopTypes := by
    rw [LoopType.ofIndex_index]
    exact Vector.set_getElem_self ..
  rcases paramNumber_cases low high with rfl | ⟨i, rfl⟩ | plain | ⟨first, last⟩ | plain
  · exact congrArg (fun x => { p with fitted := x }) (Fitted.ofIndex_index _)
  · rw [p.get_loopType, p.set_loopType]
    exact congrArg (fun x => { p with loopTypes := x }) (type i)
  all_goals interval_cases n <;> rfl

/-! ## What a SET-PARAM carries (R157, R159, R172) -/

/-- R157: the nearer of two speeds, the first where they are equally near. -/
def nearerSpeed (sent best x : Int) : Int := if |x - sent| < |best - sent| then x else best

theorem foldl_nearerSpeed_keeps {v sent : Int} {rest : List Int} (h : ∀ w ∈ rest, |v - sent| ≤ |w - sent|) :
    rest.foldl (nearerSpeed sent) v = v := by
  induction rest with
  | nil => rfl
  | cons w rest ih =>
    rw [List.foldl_cons, nearerSpeed, if_neg (not_lt.2 (h w (List.mem_cons_self ..)))]
    exact ih fun x hx => h x (List.mem_cons_of_mem _ hx)

theorem foldl_nearerSpeed_mem (sent best : Int) (rest : List Int) : rest.foldl (nearerSpeed sent) best ∈ best :: rest := by
  induction rest generalizing best with
  | nil => exact List.mem_singleton_self _
  | cons w rest ih =>
    have step : nearerSpeed sent best w = w ∨ nearerSpeed sent best w = best := ite_eq_or_eq ..
    rw [List.foldl_cons]
    rcases List.mem_cons.1 (ih (nearerSpeed sent best w)) with found | later
    · rw [found]
      rcases step with e | e <;> rw [e]
      · exact List.mem_cons_of_mem _ (List.mem_cons_self ..)
      · exact List.mem_cons_self ..
    · exact List.mem_cons_of_mem _ (List.mem_cons_of_mem _ later)

/-- A speed nearer than every one before it and as near as every one after it. -/
theorem foldl_nearerSpeed_eq {v sent best : Int} {before after : List Int} (hb : ∀ w ∈ best :: before, |v - sent| < |w - sent|)
    (ha : ∀ w ∈ after, |v - sent| ≤ |w - sent|) : (before ++ v :: after).foldl (nearerSpeed sent) best = v := by
  rw [List.foldl_append, List.foldl_cons, nearerSpeed, if_pos (hb _ (foldl_nearerSpeed_mem sent best before))]
  exact foldl_nearerSpeed_keeps ha

/-- R157: the nearest of the five speeds, the lower of two equally near. -/
theorem nearestSpeed_eq {v sent : Int} (member : v ∈ [9600, 19200, 38400, 57600, 115200])
    (nearest : ∀ w ∈ [9600, 19200, 38400, 57600, 115200], |v - sent| < |w - sent| ∨ (|v - sent| = |w - sent| ∧ v ≤ w)) :
    nearestSpeed sent = v := by
  have near (w : Int) (hw : w ∈ [9600, 19200, 38400, 57600, 115200]) : |v - sent| ≤ |w - sent| :=
    (nearest w hw).elim le_of_lt fun h => h.1.le
  have nearer (w : Int) (hw : w ∈ [9600, 19200, 38400, 57600, 115200]) (lower : w < v) : |v - sent| < |w - sent| :=
    (nearest w hw).resolve_right fun h => absurd h.2 (not_le.2 lower)
  have splits (before after : List Int) (all : speeds = before ++ v :: after) (lower : ∀ w ∈ 9600 :: before, w < v) :
      nearestSpeed sent = v := by
    have step : nearestSpeed sent = speeds.foldl (nearerSpeed sent) 9600 := rfl
    rw [step, all]
    refine foldl_nearerSpeed_eq (fun w hw => nearer w ?_ (lower w hw)) fun w hw => near w ?_
    · rcases List.mem_cons.1 hw with rfl | hw
      · simp
      · exact show w ∈ speeds from all ▸ List.mem_append_left _ hw
    · exact show w ∈ speeds from all ▸ List.mem_append_right _ (List.mem_cons_of_mem _ hw)
  simp only [List.mem_cons, List.not_mem_nil, or_false] at member
  rcases member with rfl | rfl | rfl | rfl | rfl
  · exact foldl_nearerSpeed_keeps fun w hw => near w hw
  · exact splits [9600] [38400, 57600, 115200] rfl (by simp)
  · exact splits [9600, 19200] [57600, 115200] rfl (by simp)
  · exact splits [9600, 19200, 38400] [115200] rfl (by simp)
  · exact splits [9600, 19200, 38400, 57600] [] rfl (by simp)

theorem signed4_eq (a b c d : Byte) :
    signed4 a b c d = (BitVec.ofNat 32 (16777216 * a.toNat + 65536 * b.toNat + 256 * c.toNat + d.toNat)).toInt := by
  have same : 65536 * number2 a b + number2 c d = 16777216 * a.toNat + 65536 * b.toNat + 256 * c.toNat + d.toNat := by
    simp only [number2]
    omega
  rw [signed4, same]

/-- R159: the breakpoints a SET-PARAM carries. -/
theorem parsePoints_flatMap (raws : List (Byte × Byte × Byte × Byte)) :
    parsePoints (raws.flatMap fun (a, b, c, d) => [a, b, c, d]) = some (raws.map fun (a, b, c, d) =>
      ⟨(BitVec.ofNat 16 (256 * a.toNat + b.toNat)).toInt, (256 * c.toNat + d.toNat : Nat)⟩) := by
  induction raws with
  | nil => rfl
  | cons x rest ih =>
    rw [List.flatMap_cons]
    exact congrArg (Option.map (Breakpoint.mk (signed2 x.1 x.2.1) (number2 x.2.2.1 x.2.2.2) :: ·)) ih

theorem ascending_iff (points : List Breakpoint) : ascending points = true ↔ points.Pairwise fun x y => x.t < y.t := by
  induction points with
  | nil => simp [ascending]
  | cons p rest ih =>
    cases rest with
    | nil => simp [ascending]
    | cons q rest =>
      rw [ascending, Bool.and_eq_true, decide_eq_true_iff, ih, List.pairwise_cons (a := p)]
      refine ⟨fun ⟨first, later⟩ => ⟨fun x hx => ?_, later⟩, fun ⟨first, later⟩ => ⟨first q (List.mem_cons_self ..), later⟩⟩
      rcases List.mem_cons.1 hx with rfl | hx
      · exact first
      · exact first.trans ((List.pairwise_cons.1 later).1 x hx)

/-- R43, R94, R99, R115: a parameter that is no number of a pair has no cross-check. -/
theorem Params.crossCheck_free (p : Params) {n : Nat} {f : ParamForm} (form : paramForm n = some f)
    (free : ∀ lo hi, f ≠ .numeric lo hi) : p.crossCheck n = true := by
  obtain ⟨low, high⟩ := paramForm_known form
  interval_cases n <;> cases form <;> first | exact absurd rfl (free _ _) | rfl

/-! ## SET-PARAM (R172) -/

section
variable {s : State} {l : Link} {q n : Byte} {value : List Byte}

/-- R172: the answer to a SET-PARAM that is judged well. -/
theorem setParam_taken {v : ParamValue} {clamped : Bool} (d : s.delivers l ⟨23, q, n :: value⟩)
    (judged : judgeParam s.params n.toNat value = some (v, clamped)) : exec (.setParam l q (n :: value)) s
      = .next ((s.storeParam n.toNat v).answerHead l ⟨23, q, n :: value⟩ (if clamped then .clamped else .done) []) :=
  congrArg Host.Outcome.next (State.serve_now d (by rw [setParamBlock, judged]))

theorem setParam_refused (d : s.delivers l ⟨23, q, n :: value⟩) (judged : judgeParam s.params n.toNat value = none) :
    exec (.setParam l q (n :: value)) s = .next (s.answerHead l ⟨23, q, n :: value⟩ .badFormat []) :=
  congrArg Host.Outcome.next (State.serve_now d (by rw [setParamBlock, judged]))

/-- R172: a value stored under another parameter than the balancing ceiling. -/
theorem State.storeParam_eq {m : Nat} {f : ParamForm} (form : paramForm m = some f) (other : m ≠ 12) (v : ParamValue) :
    s.storeParam m v = { s with config := { s.config with working := s.params.set m v } } := by
  unfold State.storeParam
  split
  · next same =>
    rw [← same, Params.set_get _ form]
    rfl
  · rfl

/-- R36: a new balancing ceiling is acted on at once. -/
theorem State.storeParam_ceiling {v : Int} (new : s.params.balCeiling ≠ v) : s.storeParam 12 (.number v)
    = ({ s with config := { s.config with working := s.params.set 12 (.number v) } } : State).ceilingWritten :=
  (if_neg fun same : s.params.get 12 = .number v => new (ParamValue.number.inj same)).trans rfl

theorem State.ceilingWritten_chain (s : State) (e : Str) : s.ceilingWritten.chain e = (s.chain e).applyCeiling s.params.balCeiling := by
  cases e <;> rfl

theorem ModuleRecord.tooHot_iff (m : ModuleRecord) (ceiling : Int) :
    m.tooHot ceiling = true ↔ ∃ x, m.hottest = some x ∧ ceiling ≤ x := by
  unfold ModuleRecord.tooHot
  cases m.hottest <;> simp

theorem Chain.applyCeiling_module (k : Chain) (ceiling : Int) (m : Addr) : (k.applyCeiling ceiling).modules[m]
    = if (k.modules[m]).tooHot ceiling then (k.modules[m]).emptySet else k.modules[m] := by
  simp [Chain.applyCeiling, vmap]

/-- R172: the judgement of a value of the parameter's form. -/
theorem judgeParam_parsed {p : Params} {m : Nat} {f : ParamForm} {sent v : ParamValue} (form : paramForm m = some f)
    (parsed : parseValue f value = some sent) (clamp : f.clamp sent = some v) : judgeParam p m value
      = if f.shapeOk v && (p.set m v).crossCheck m then some (v, v != sent) else none := by
  simp only [judgeParam, form, parsed, clamp]

/-- R157, R172: a form without a cross-check, its value stored whatever the set. -/
theorem setParam_stores {f : ParamForm} {sent v : ParamValue} (d : s.delivers l ⟨23, q, n :: value⟩)
    (form : paramForm n.toNat = some f) (free : ∀ lo hi, f ≠ .numeric lo hi) (parsed : parseValue f value = some sent)
    (clamp : f.clamp sent = some v) (shape : f.shapeOk v = true) : exec (.setParam l q (n :: value)) s
      = .next (({ s with config := { s.config with working := s.params.set n.toNat v } } : State).answerHead l ⟨23, q, n :: value⟩
          (if v = sent then .done else .clamped) []) := by
  have judged := judgeParam_parsed (p := s.params) form parsed clamp
  rw [shape, Params.crossCheck_free _ form free] at judged
  rw [setParam_taken d judged, State.storeParam_eq form (fun ceiling => ?_)]
  · by_cases same : v = sent <;> simp [same]
  · rw [ceiling] at form
    exact free _ _ (Option.some.inj form).symm

end

/-- Settles O58. -/
theorem Settled.setParam : Obligations.SetParam := by
  unfold Obligations.SetParam
  intro l q n value s r hr d
  subst hr
  refine ⟨fun unknown => ?_, ?_, ?_, ?_, ?_⟩
  · refine setParam_refused d ?_
    have form : paramForm n.toNat = none := by
      rcases unknown with zero | high
      · rw [zero]
        rfl
      · exact paramForm_none high
    rw [judgeParam, form]
  · intro a b c e lo hi sent v new code hv form hs hc hn hcode
    subst hv
    rw [← signed4_eq] at hs
    have stored : (ParamForm.numeric lo hi).clamp (.number sent) = some (.number v) := by
      rw [hc]
      rfl
    have judged := judgeParam_parsed (p := s.params) (value := [a, b, c, e]) form (by rw [hs]; rfl) stored
    rw [← hn] at judged
    have answer : (if (ParamValue.number v != .number sent) = true then AnswerCode.clamped else .done) = code := by
      rw [hcode]
      by_cases same : v = sent <;> simp [same]
    refine ⟨hn ▸ Params.get_set_same _ form trivial, fun m low high other => hn ▸ Params.get_set_other _ form trivial low high other,
      fun fails => setParam_refused d ?_, fun holds other => ?_, fun holds ceiling written => ?_⟩
    · rw [judged, fails]
      rfl
    · rw [holds] at judged
      rw [setParam_taken d judged, State.storeParam_eq form fun e => other (BitVec.eq_of_toNat_eq e), answer, hn]
    · rw [holds] at judged
      subst ceiling
      refine ⟨s.storeParam 12 (.number v), by rw [setParam_taken d judged, answer]; rfl, ?_, fun e => ?_⟩
      · rw [State.storeParam_ceiling written, hn]
        rfl
      · have chain : (s.storeParam 12 (.number v)).chain e = (s.chain e).applyCeiling v := by
          rw [State.storeParam_ceiling written, State.ceilingWritten_chain]
          rfl
        rw [chain]
        refine ⟨rfl, fun m => ⟨fun hot => ?_, fun cool => ?_⟩⟩
        · rw [Chain.applyCeiling_module, if_pos ((ModuleRecord.tooHot_iff _ _).2 hot)]
          rfl
        · rw [Chain.applyCeiling_module, if_neg]
          rw [ModuleRecord.tooHot_iff]
          rintro ⟨x, hottest, hot⟩
          exact absurd (cool x hottest) (not_lt.2 hot)
  · intro k count form hv
    subst hv
    refine ⟨fun high => setParam_refused d ?_, fun low => ⟨Params.get_set_same _ form low, fun m low' high other =>
      Params.get_set_other _ form low low' high other, ?_⟩⟩
    · have none : (ParamForm.names count).clamp (.named k.toNat) = none := if_neg (not_lt.2 high)
      simp only [judgeParam, form, parseValue, none]
    · rw [setParam_stores d form (by simp) rfl (if_pos low) rfl, if_pos rfl]
  · intro a b c e sent v form hv hs member nearest
    subst hv
    rw [← signed4_eq] at hs
    refine ⟨Params.get_set_same _ form trivial, fun m low high other => Params.get_set_other _ form trivial low high other, ?_⟩
    rw [setParam_stores (sent := .number sent) (v := .number v) d form (by simp) (by rw [hs]; rfl) ?_ rfl]
    · simp
    · rw [← nearestSpeed_eq member nearest]
      rfl
  · intro count rest fewest most top form hv
    subst hv
    refine ⟨fun wrong => setParam_refused d ?_, fun raws sent points hrest hcount hsent hpoints => ?_⟩
    · have none : parseValue (.points fewest most top) (count :: rest) = none := by
        rw [parseValue]
        split
        · next points read =>
          have length := parsePoints_length read
          exact if_neg fun same => wrong (by rw [length, same])
        · rfl
      simp only [judgeParam, form, none]
    have parsed : parseValue (.points fewest most top) (count :: rest) = some (.list sent) := by
      have read := parsePoints_flatMap raws
      rw [← hrest, ← hsent] at read
      have length : sent.length = count.toNat := by rw [hsent, List.length_map, hcount]
      simp only [parseValue, read, if_pos length]
    have clamp : (ParamForm.points fewest most top).clamp (.list sent) = some (.list points) := by
      rw [hpoints]
      rfl
    have shaped : (ParamForm.points fewest most top).shapeOk (.list points)
        = decide (fewest ≤ points.length ∧ points.length ≤ most ∧ points.Pairwise fun x y => x.t < y.t) := by
      rw [Bool.eq_iff_iff, decide_eq_true_iff, ParamForm.shapeOk, Bool.and_eq_true, Bool.and_eq_true, ascending_iff, and_assoc,
        decide_eq_true_iff, decide_eq_true_iff]
    refine ⟨fun wrong => setParam_refused d ?_, fun enough few rising => ⟨Params.get_set_same _ form trivial, fun m low high other =>
      Params.get_set_other _ form trivial low high other, ?_⟩⟩
    · rw [judgeParam_parsed form parsed clamp, shaped, if_neg]
      rw [Bool.and_eq_true, decide_eq_true_iff]
      rintro ⟨⟨enough, few, rising⟩, -⟩
      rcases wrong with short | long | falling
      · omega
      · omega
      · exact falling rising
    · rw [setParam_stores d form (by simp) parsed clamp ?_]
      · simp
      · rw [shaped, decide_eq_true_iff]
        exact ⟨enough, few, rising⟩

end Sys2Proof.Machine
end

-- ==== Proofs: offers, silence and the minute clock ====
section
namespace Sys2Proof.Machine

section
variable {s t u : State}

/-! ## The agreement resolved afresh, GA computed (R132, R139 to R141, R150) -/

/-- What R132 makes of what is held. -/
def Agreement.outcome (a : Agreement) : AgreementState × MismatchFlags × Option Resolved :=
  resolution a.cnvOffer a.stnOffer a.lapse

/-- From `s` to `t` the agreement, holding what `held` holds, was resolved afresh and GA computed. -/
structure State.Reagreed (s : State) (held : Agreement) (t : State) : Prop where
  agreement : t.agreement = { held with
    state := held.outcome.1, flags := held.outcome.2.1, resolved := held.outcome.2.2
    basisImport := t.agreement.basisImport, basisExport := t.agreement.basisExport, bus := t.agreement.bus
    countUsed := t.agreement.countUsed, gaCharge := t.agreement.gaCharge, gaDischarge := t.agreement.gaDischarge }
  computed : GaComputed t
  table : t.envelope.table = { s.envelope.table with ga := .both t.agreement.gaCharge t.agreement.gaDischarge }
  lost : held.outcome.1 ≠ held.state → held.outcome.1.lost = true → t.permit.state.connected = false
  stands : ¬(held.outcome.1 ≠ held.state ∧ held.outcome.1.lost = true) → t.permit = s.permit
  quiet : t.quietLinks = s.quietLinks
  frame : t = { s with agreement := t.agreement, permit := t.permit, envelope := t.envelope, links := t.links }

/-- GA computed is a matter of the agreement, the envelope, the heads, the JOINED strings and the parameters. -/
theorem GaComputed.of_same (agreement : t.agreement = s.agreement) (envelope : t.envelope = s.envelope)
    (chains : t.chains = s.chains) (strings : t.strings = s.strings) (config : t.config = s.config) (h : GaComputed s) :
    GaComputed t := by
  obtain ⟨lapsed, unresolved, resolved, scheduled, share, count, row⟩ := h
  have params : t.params = s.params := congrArg ConfigStore.working config
  have joined : t.joinedCount = s.joinedCount := State.joinedCount_congr (State.isJoined_congr strings)
  constructor <;> simp only [agreement, envelope, params, joined, State.chain, chains]
  · exact lapsed
  · exact unresolved
  · exact resolved
  · exact scheduled
  · exact share
  · exact count
  · exact row

theorem State.computeGa_row (s : State) : s.computeGa.envelope.table
    = { s.envelope.table with ga := .both s.computeGa.agreement.gaCharge s.computeGa.agreement.gaDischarge } := by
  rw [s.computeGa_table, s.computeGa_agreement]

theorem State.resolveAgreement_agreement (s : State) : s.resolveAgreement.agreement = { s.agreement with
    state := s.agreement.outcome.1, flags := s.agreement.outcome.2.1, resolved := s.agreement.outcome.2.2 } := by
  unfold State.resolveAgreement
  dsimp only
  split
  · simp only [State.trip_frame]
    rfl
  · rfl

theorem State.resolveAgreement_lost (changed : s.agreement.outcome.1 ≠ s.agreement.state) (lost : s.agreement.outcome.1.lost = true) :
    s.resolveAgreement.permit.state.connected = false := by
  unfold State.resolveAgreement
  dsimp only
  split
  · exact State.trip_disconnects ..
  · next kept => exact absurd ⟨changed, lost⟩ kept

theorem State.resolveAgreement_stands (h : ¬(s.agreement.outcome.1 ≠ s.agreement.state ∧ s.agreement.outcome.1.lost = true)) :
    s.resolveAgreement.permit = s.permit := by
  unfold State.resolveAgreement
  dsimp only
  split
  · next trips => exact absurd trips h
  · rfl

/-- What is held is resolved afresh, AGREEMENT posted or not, and GA computed. -/
theorem State.reagreed (s : State) (f : Agreement → Agreement) (posted : Prop) [Decidable posted] :
    s.Reagreed (f s.agreement) (if posted then (s.modAgreement f).resolveAgreement.postAgreement
      else (s.modAgreement f).resolveAgreement).computeGa := by
  have resolved := (s.modAgreement f).resolveAgreement_agreement
  have lost := State.resolveAgreement_lost (s := s.modAgreement f)
  have stands := State.resolveAgreement_stands (s := s.modAgreement f)
  have quiet : (if posted then (s.modAgreement f).resolveAgreement.postAgreement
      else (s.modAgreement f).resolveAgreement).quietLinks = s.quietLinks := by
    split <;> simp
  have same : (if posted then (s.modAgreement f).resolveAgreement.postAgreement else (s.modAgreement f).resolveAgreement)
      = { (s.modAgreement f).resolveAgreement with links := (if posted then (s.modAgreement f).resolveAgreement.postAgreement
        else (s.modAgreement f).resolveAgreement).links } := by
    split <;> rfl
  have frame : (s.modAgreement f).resolveAgreement = { s with
      agreement := (s.modAgreement f).resolveAgreement.agreement, permit := (s.modAgreement f).resolveAgreement.permit
      links := (s.modAgreement f).resolveAgreement.links } := State.eq_iff.2 (by simp)
  generalize (s.modAgreement f).resolveAgreement = r at *
  generalize (if posted then r.postAgreement else r) = p at *
  have held : p.agreement = r.agreement := by rw [same]
  have permit : p.computeGa.permit = r.permit := by
    rw [(by simp : p.computeGa.permit = p.permit), same]
  refine ⟨?_, p.computeGa_computed, ?_, fun changed gone => ?_, fun still => ?_, ?_, ?_⟩
  · rw [p.computeGa_agreement, held, resolved]
    rfl
  · rw [p.computeGa_row, same, frame]
  · rw [permit]
    exact lost changed gone
  · rw [permit]
    exact stands still
  · rw [State.computeGa_quietLinks, quiet]
  · have computed : p.computeGa = { p with
        agreement := p.computeGa.agreement, envelope := p.computeGa.envelope, links := p.computeGa.links } := State.eq_iff.2 (by simp)
    rw [computed, same, frame]

theorem AgreementState.lost_iff (g : AgreementState) : g.lost = true ↔ g = .none ∨ g = .offered ∨ g = .mismatch := by
  cases g <;> simp [AgreementState.lost]

theorem State.SameNotice.resolveAgreement {m : NoticeKind} (h : m ≠ .breaker) (s : State) : s.SameNotice m s.resolveAgreement := by
  unfold State.resolveAgreement
  dsimp only
  split
  · exact .trans (.of_links rfl) (.trip h _ _)
  · exact .of_links rfl

/-- R131: AGREEMENT posted once on every link, with the state and the flags resolved. -/
theorem State.reagreed_posts (s : State) (f : Agreement → Agreement) {posted : Prop} [Decidable posted] (h : posted) :
    s.posts (if posted then (s.modAgreement f).resolveAgreement.postAgreement else (s.modAgreement f).resolveAgreement).computeGa
      .agreement (.agreement (f s.agreement).outcome.1 (f s.agreement).outcome.2.1) := by
  rw [if_pos h]
  have resolved := (s.modAgreement f).resolveAgreement_agreement
  have before : s.SameNotice .agreement (s.modAgreement f).resolveAgreement :=
    .trans (.of_links rfl) (.resolveAgreement (by decide) _)
  refine State.posts_of_before before (State.posts_of_same ?_)
  have posts : (s.modAgreement f).resolveAgreement.postAgreement = (s.modAgreement f).resolveAgreement.post .agreement
      (.agreement (f s.agreement).outcome.1 (f s.agreement).outcome.2.1) := by
    rw [State.postAgreement, resolved]
    rfl
  rw [← posts]
  exact .computeGa (by decide) _

theorem State.reagreed_quiet (s : State) (f : Agreement → Agreement) {posted : Prop} [Decidable posted] (h : ¬posted) :
    s.SameNotice .agreement (if posted then (s.modAgreement f).resolveAgreement.postAgreement
      else (s.modAgreement f).resolveAgreement).computeGa := by
  rw [if_neg h]
  have resolved : s.SameNotice .agreement (s.modAgreement f).resolveAgreement :=
    .trans (.of_links rfl) (.resolveAgreement (by decide) _)
  exact resolved.trans (.computeGa (by decide) _)

/-- An answer composed after the agreement was resolved afresh. -/
theorem State.Reagreed.answered {held : Agreement} (h : s.Reagreed held t) (l : Link) (r : Request) (code : AnswerCode)
    (content : List Item) : t.answerHead l r code content = { s with
      agreement := t.agreement, permit := t.permit, envelope := t.envelope, links := (t.answerHead l r code content).links } := by
  have frame := h.frame
  rw [State.eq_iff] at frame ⊢
  simpa using frame

/-! ## AGREEMENT-RESTART and the minute boundary (R136 to R141) -/

/-- Settles O43. -/
theorem restartAndMinute : Obligations.RestartAndMinute := by
  unfold Obligations.RestartAndMinute
  refine fun s => ⟨fun l q d => ?_, fun none => ?_, fun k clock => ?_⟩
  · let f (a : Agreement) : Agreement :=
      { a with cnvOffer := none, stnOffer := none, cnvToggle := none, stnToggle := none, lapse := false }
    have runs : exec (.agreementRestart l q []) s = .next (s.restartAgreement.answerHead l ⟨8, q, []⟩ .done []) :=
      congrArg Host.Outcome.next (State.serve_now d rfl)
    have reagreed : s.Reagreed (f s.agreement) s.restartAgreement := s.reagreed f _
    have posts (changed : s.agreement.state ≠ .none) : s.posts s.restartAgreement .agreement (.agreement .none ⟨false, false, false⟩) :=
      s.reagreed_posts f changed
    have quiet (same : ¬s.agreement.state ≠ .none) : s.SameNotice .agreement s.restartAgreement := s.reagreed_quiet f same
    generalize s.restartAgreement = t at *
    have fields := reagreed.agreement
    have state : t.agreement.state = .none := by rw [fields]; rfl
    have zero : t.agreement.gaCharge = 0 ∧ t.agreement.gaDischarge = 0 := by
      obtain ⟨charge, discharge⟩ := reagreed.computed.unresolved (by rw [state]; decide) (by rw [state]; decide)
      obtain ⟨-, charge', discharge'⟩ := reagreed.computed.share t.busVoltage.1 t.busVoltage.2 rfl
      rw [charge', discharge', charge, discharge]
      simp
    have kept : t.agreement.cnvOffer = none ∧ t.agreement.stnOffer = none ∧ t.agreement.cnvToggle = none
        ∧ t.agreement.stnToggle = none ∧ t.agreement.lapse = false ∧ t.agreement.resolved = none
        ∧ t.agreement.clock = s.agreement.clock := by
      rw [fields]
      exact ⟨rfl, rfl, rfl, rfl, rfl, rfl, rfl⟩
    obtain ⟨cnv, stn, cnvToggle, stnToggle, lapse, resolved, clock⟩ := kept
    have table := reagreed.table
    rw [zero.1, zero.2] at table
    have answers := State.SameNotice.answerHead (m := .agreement) t l ⟨8, q, []⟩ .done []
    refine ⟨_, runs, cnv, stn, cnvToggle, stnToggle, lapse, state, resolved, clock, table, fun changed => ⟨?_, fun k => ?_⟩,
      fun same => ⟨?_, fun k => ?_⟩, State.answerHead_quietLinks reagreed.quiet l _ _ _, reagreed.answered ..⟩
    · exact reagreed.lost (Ne.symm changed) rfl
    · exact (answers k).trans (posts changed k)
    · exact reagreed.stands fun lost => lost.1 same.symm
    · exact (answers k).trans (quiet (not_not_intro same) k)
  · exact congrArg Host.Outcome.next (by rw [minuteBoundary, none])
  · let u := (s.atTime k.boundary).modAgreement fun a => { a with clock := some k.advance }
    have runs : exec .minuteBoundary s = .next u.computeGa := congrArg Host.Outcome.next (by rw [minuteBoundary, clock])
    have fields := u.computeGa_agreement
    have computed := u.computeGa_computed
    have row := u.computeGa_row
    have joined : u.computeGa.joinedCount = s.joinedCount :=
      State.joinedCount_congr (State.isJoined_congr (by simp [u]))
    have frame : u.computeGa = { u with
        agreement := u.computeGa.agreement, envelope := u.computeGa.envelope, links := u.computeGa.links } := State.eq_iff.2 (by simp)
    have state : u.computeGa.agreement.state = s.agreement.state := by rw [fields]; rfl
    have resolved : u.computeGa.agreement.resolved = s.agreement.resolved := by rw [fields]; rfl
    have offers : u.computeGa.agreement.cnvOffer = s.agreement.cnvOffer ∧ u.computeGa.agreement.stnOffer = s.agreement.stnOffer := by
      rw [fields]
      exact ⟨rfl, rfl⟩
    have advanced : u.computeGa.agreement.clock = some k.advance := by rw [fields]; rfl
    have params : u.computeGa.params = s.params := by simp [State.params, u]
    have chains : u.computeGa.chains = s.chains := by simp [u]
    generalize u.computeGa = t at *
    refine ⟨t, runs, advanced, fun v one two nominal => ?_, fun lapsed => ?_, fun lapsed none => computed.unresolved (state ▸ lapsed) (state ▸ none),
      fun x g hx none => computed.resolved x (state.trans g) (resolved.trans hx) (.inr fun o ho => ?_),
      fun x o g before after minute hg hx ho list hm force => ?_, joined ▸ computed.count, state, resolved, offers.1, offers.2, row, ?_⟩
    · obtain ⟨bus, charge, discharge⟩ := computed.share (t.busVoltage).1 (t.busVoltage).2 rfl
      have voltage : (t.busVoltage).1 = v := by
        simp only [State.busVoltage, chains, params]
        split
        · next h => exact (one h).symm
        · split
          · next h h' => exact (two h h').symm
          · next h h' => exact (nominal h h').symm
      rw [voltage, joined] at charge discharge
      rw [bus, ← voltage]
      exact ⟨rfl, voltage ▸ charge, voltage ▸ discharge⟩
    · rw [← params]
      exact computed.lapsed (state.trans lapsed)
    · rw [← offers.2, ho] at none
      exact Option.some.inj none
    · subst hm
      exact computed.scheduled x k.advance o before g after (state.trans hg) (resolved.trans hx) advanced (offers.2.trans ho) list force
    · rw [frame]
      rfl

/-! ## Silence (R134, R135, R139, R164, R170) -/

/-- R134, R139: the STN link's silence in RESOLVED. -/
theorem State.stationLapse_resolved (h : s.agreement.state = .resolved) :
    s.stationLapse = (s.modAgreement fun a => { a with lapse := true, state := .lapsed }).postAgreement.computeGa := by
  rw [State.stationLapse, h]
  rfl

/-- R139: the STN link's silence in LAPSED. -/
theorem State.stationLapse_lapsed (h : s.agreement.state = .lapsed) :
    s.stationLapse = s.modAgreement fun a => { a with lapse := true } := by
  rw [State.stationLapse, h]

/-- R134, R139: the STN link's silence with no agreement in force. -/
theorem State.stationLapse_idle (h : s.agreement.state ≠ .resolved) (h' : s.agreement.state ≠ .lapsed) :
    s.stationLapse = (s.modAgreement fun a => { a with lapse := true }).computeGa := by
  unfold State.stationLapse
  dsimp only
  split
  · next g => exact absurd g h
  · next g => exact absurd g h'
  · rfl

theorem State.stationLapse_agreement (s : State) : s.stationLapse.agreement = { s.agreement with
    lapse := true, state := if s.agreement.state = .resolved then .lapsed else s.agreement.state
    basisImport := s.stationLapse.agreement.basisImport, basisExport := s.stationLapse.agreement.basisExport
    bus := s.stationLapse.agreement.bus, countUsed := s.stationLapse.agreement.countUsed
    gaCharge := s.stationLapse.agreement.gaCharge, gaDischarge := s.stationLapse.agreement.gaDischarge } := by
  by_cases resolved : s.agreement.state = .resolved
  · rw [State.stationLapse_resolved resolved, State.computeGa_agreement, if_pos resolved]
    rfl
  · rw [if_neg resolved]
    by_cases lapsed : s.agreement.state = .lapsed
    · rw [State.stationLapse_lapsed lapsed]
      rfl
    · rw [State.stationLapse_idle resolved lapsed, State.computeGa_agreement]
      rfl

theorem State.stationLapse_table (s : State) :
    s.stationLapse.envelope.table = { s.envelope.table with ga := s.stationLapse.envelope.table.ga } := by
  by_cases resolved : s.agreement.state = .resolved
  · rw [State.stationLapse_resolved resolved, State.computeGa_table]
    rfl
  · by_cases lapsed : s.agreement.state = .lapsed
    · rw [State.stationLapse_lapsed lapsed]
      rfl
    · rw [State.stationLapse_idle resolved lapsed, State.computeGa_table]
      rfl

theorem State.stationLapse_posts (h : s.agreement.state = .resolved) :
    s.posts s.stationLapse .agreement (.agreement .lapsed s.agreement.flags) := by
  rw [State.stationLapse_resolved h]
  exact State.posts_of_before (t := s.modAgreement fun a => { a with lapse := true, state := .lapsed }) (.of_links rfl)
    (State.posts_of_same (.computeGa (by decide) _))

theorem State.stationLapse_quiet (h : s.agreement.state ≠ .resolved) : s.SameNotice .agreement s.stationLapse := by
  by_cases lapsed : s.agreement.state = .lapsed
  · rw [State.stationLapse_lapsed lapsed]
    exact .of_links rfl
  · rw [State.stationLapse_idle h lapsed]
    have held : s.SameNotice .agreement (s.modAgreement fun a => { a with lapse := true }) := .of_links rfl
    exact held.trans (.computeGa (by decide) _)

theorem State.stationLapse_computed (h : s.agreement.state ≠ .lapsed) : GaComputed s.stationLapse := by
  by_cases resolved : s.agreement.state = .resolved
  · rw [State.stationLapse_resolved resolved]
    exact State.computeGa_computed _
  · rw [State.stationLapse_idle resolved h]
    exact State.computeGa_computed _

/-- R135: what a discarded CNV offer leaves, the permit and the other notices aside. -/
structure State.Discarded (s t : State) : Prop where
  agreement : t.agreement.cnvOffer = none ∧ t.agreement.cnvToggle = none ∧ t.agreement.stnOffer = s.agreement.stnOffer
    ∧ t.agreement.lapse = s.agreement.lapse ∧ t.agreement.stnToggle = s.agreement.stnToggle
    ∧ t.agreement.clock = s.agreement.clock
    ∧ t.agreement.state = (if s.agreement.stnOffer.isSome then .offered else .none)
    ∧ t.agreement.flags = ⟨false, false, false⟩ ∧ t.agreement.resolved = none
  posts : t.agreement.state ≠ s.agreement.state → s.posts t .agreement (.agreement t.agreement.state t.agreement.flags)
  still : t.agreement.state = s.agreement.state → s.SameNotice .agreement t
  computed : GaComputed t
  table : t.envelope.table = { s.envelope.table with ga := .both t.agreement.gaCharge t.agreement.gaDischarge }
  quiet : t.quietLinks = s.quietLinks
  frame : t = { s with
    agreement := t.agreement, permit := t.permit, envelope := t.envelope, links := t.links, choices := t.choices }

/-- R132: with the CNV offer discarded, the state is OFFERED or NONE. -/
theorem resolution_without_cnv (stn : Option Offer) (lapse : Bool) :
    resolution none stn lapse = (if stn.isSome then .offered else .none, ⟨false, false, false⟩, none) := by
  cases stn <;> rfl

theorem State.discardCnvOffer_discarded (s : State) : s.Discarded s.discardCnvOffer := by
  let f (a : Agreement) : Agreement := { a with cnvOffer := none, cnvToggle := none }
  have outcome : (f s.agreement).outcome = (if s.agreement.stnOffer.isSome then .offered else .none, ⟨false, false, false⟩, none) :=
    resolution_without_cnv ..
  have differs : (s.modAgreement f).resolveAgreement.agreement.state ≠ s.agreement.state
      ↔ (f s.agreement).outcome.1 ≠ s.agreement.state := by
    rw [State.resolveAgreement_agreement]
    rfl
  have reagreed : s.Reagreed (f s.agreement) s.discardCnvOffer := s.reagreed f _
  have posts (h : (f s.agreement).outcome.1 ≠ s.agreement.state) :
      s.posts s.discardCnvOffer .agreement (.agreement (f s.agreement).outcome.1 (f s.agreement).outcome.2.1) :=
    s.reagreed_posts f (differs.2 h)
  have still (h : ¬(f s.agreement).outcome.1 ≠ s.agreement.state) : s.SameNotice .agreement s.discardCnvOffer :=
    s.reagreed_quiet f (mt differs.1 h)
  generalize s.discardCnvOffer = t at *
  have fields := reagreed.agreement
  have state : t.agreement.state = (f s.agreement).outcome.1 := by rw [fields]
  have flags : t.agreement.flags = (f s.agreement).outcome.2.1 := by rw [fields]
  refine ⟨?_, fun changed => ?_, fun same => ?_, reagreed.computed, reagreed.table, reagreed.quiet, ?_⟩
  · rw [fields, outcome]
    exact ⟨rfl, rfl, rfl, rfl, rfl, rfl, rfl, rfl, rfl⟩
  · rw [state] at changed ⊢
    rw [flags]
    exact posts changed
  · rw [state] at same
    exact still (not_not_intro same)
  · have choices : t.choices = s.choices := (congrArg State.choices reagreed.frame :)
    rw [choices]
    exact reagreed.frame

/-- R150: a trip after the offer was discarded. -/
theorem State.Discarded.trip (h : s.Discarded t) (k : TripCause) : s.Discarded (t.trip k) := by
  have agreement : (t.trip k).agreement = t.agreement := by simp
  have envelope : (t.trip k).envelope = t.envelope := by simp
  have quiet : t.SameNotice .agreement (t.trip k) := .trip (by decide) _ _
  refine ⟨agreement ▸ h.agreement, fun changed l => ?_, fun same l => ?_, h.computed.of_same agreement envelope (by simp) (by simp) (by simp), ?_, ?_, ?_⟩
  · rw [agreement] at changed ⊢
    exact (quiet l).trans (h.posts changed l)
  · rw [agreement] at same
    exact (quiet l).trans (h.still same l)
  · rw [agreement, envelope]
    exact h.table
  · rw [State.trip_quietLinks]
    exact h.quiet
  · have tripped : t.trip k = { t with permit := (t.trip k).permit, links := (t.trip k).links } := State.eq_iff.2 (by simp)
    generalize t.trip k = u at *
    rw [tripped, h.frame]

/-- R150: a trip before the offer was discarded. -/
theorem State.Discarded.tripped {k : TripCause} (h : (s.trip k).Discarded t) : s.Discarded t := by
  have agreement : (s.trip k).agreement = s.agreement := by simp
  have envelope : (s.trip k).envelope = s.envelope := by simp
  have quiet : s.SameNotice .agreement (s.trip k) := .trip (by decide) _ _
  obtain ⟨fields, posts, still, computed, table, links, frame⟩ := h
  rw [agreement] at fields posts still
  rw [envelope] at table
  refine ⟨fields, fun changed => State.posts_of_before quiet (posts changed), fun same => quiet.trans (still same), computed, table, ?_, ?_⟩
  · rw [links, State.trip_quietLinks]
  · rw [State.eq_iff] at frame ⊢
    simpa using frame

theorem State.Discarded.choices (h : s.Discarded t) (n : Nat) : s.Discarded { t with choices := n } := by
  obtain ⟨fields, posts, still, computed, table, links, frame⟩ := h
  refine ⟨fields, posts, still, computed.of_same (s := t) rfl rfl rfl rfl rfl, table, links, ?_⟩
  rw [frame]

/-- R135, R150: the CNV link's silence, its two hearers in either order. -/
theorem State.cnvSilence (s : State) :
    s.Discarded (s.reportSilence .cnv) ∧ (s.reportSilence .cnv).permit.state.connected = false := by
  have course : s.reportSilence .cnv = s.inAnyOrder [State.discardCnvOffer, fun t => t.trip .converterSilent] := rfl
  rw [course]
  obtain ⟨n, e | e⟩ := s.inAnyOrder_two State.discardCnvOffer fun t => t.trip .converterSilent
  · rw [e]
    exact ⟨.choices (t := s.discardCnvOffer.trip .converterSilent) (s.discardCnvOffer_discarded.trip _) n,
      State.trip_disconnects s.discardCnvOffer .converterSilent⟩
  · rw [e]
    refine ⟨.choices (t := (s.trip .converterSilent).discardCnvOffer) (.tripped (State.discardCnvOffer_discarded _)) n, ?_⟩
    have apart : (s.trip .converterSilent).discardCnvOffer.permit.state.connected ≠ true := fun on =>
      absurd (State.discardCnvOffer_connectsNone (s.trip .converterSilent) on) (Bool.eq_false_iff.1 (State.trip_disconnects s _))
    exact Bool.eq_false_iff.2 apart

/-- R164: a LIVE link falls SILENT. -/
theorem silenceTimeout_falls {l : Link} {x : Nat} {fallen : State} (live : (s.link l).silence = some x)
    (h : fallen = { s with
      uptime := max s.uptime x, links := s.links.mod l fun k => { k with silence := none, candidate := none } }) :
    exec (.silenceTimeout l) s = .next (fallen.reportSilence l) := by
  refine congrArg Host.Outcome.next ?_
  rw [silenceTimeout, live, h]
  rfl

theorem State.SameNotice.fallen {m : NoticeKind} {l : Link} {x : Nat} {fallen : State} (h : fallen = { s with
      uptime := max s.uptime x, links := s.links.mod l fun k => { k with silence := none, candidate := none } }) :
    s.SameNotice m fallen := fun k => by
  rw [h, State.link, PerLink.get_mod]
  split <;> rfl

/-- Settles O54. -/
theorem silence : Obligations.Silence := by
  unfold Obligations.Silence
  refine fun s => ⟨fun l none => ?_, fun x fallen hf => ⟨fun live => ?_, fun live => ?_, fun live => ?_, fun live => ?_⟩⟩
  · exact congrArg Host.Outcome.next (by rw [silenceTimeout, none])
  · exact silenceTimeout_falls live (hf _)
  · have mode : (fallen .svc).siteMode = s.siteMode ∧ (fallen .svc).serviceCap = s.serviceCap
        ∧ (fallen .svc).envelope = s.envelope ∧ (fallen .svc).config = s.config ∧ (fallen .svc).stationCap = s.stationCap := by
      rw [hf]
      exact ⟨rfl, rfl, rfl, rfl, rfl⟩
    obtain ⟨mode, cap, envelope, config, station⟩ := mode
    rw [silenceTimeout_falls live (hf _)]
    refine ⟨fun auto => congrArg _ (State.returnToAuto_auto (mode.trans auto)),
      fun kept high => congrArg _ (State.returnToAuto_high (mode.trans kept) (cap.trans high)), fun kept low => ?_⟩
    obtain ⟨table, quiet, frame⟩ := State.returnToAuto_course (mode.trans kept) (cap ▸ low : (fallen .svc).serviceCap < 4000)
    rw [envelope, config, station] at table
    exact ⟨_, rfl, table, quiet, frame⟩
  · have agreement : (fallen .stn).agreement = s.agreement := by rw [hf]
    have fields := (fallen .stn).stationLapse_agreement
    have table := (fallen .stn).stationLapse_table
    have posts := State.stationLapse_posts (s := fallen .stn)
    have still := State.stationLapse_quiet (s := fallen .stn)
    have computed := State.stationLapse_computed (s := fallen .stn)
    have lapsed := State.stationLapse_lapsed (s := fallen .stn)
    have quiet := State.stationLapse_quietLinks (fallen .stn)
    have frame : (fallen .stn).stationLapse = { fallen .stn with
        agreement := (fallen .stn).stationLapse.agreement, envelope := (fallen .stn).stationLapse.envelope
        links := (fallen .stn).stationLapse.links } := State.eq_iff.2 (by simp)
    have params : (fallen .stn).stationLapse.params = s.params := by
      rw [frame, hf]
      rfl
    have before := State.SameNotice.fallen (m := .agreement) (hf .stn)
    have envelope : (fallen .stn).envelope = s.envelope := by rw [hf]
    rw [agreement] at fields posts still computed lapsed
    rw [envelope] at table
    rw [silenceTimeout_falls live (hf _)]
    have course : (fallen .stn).reportSilence .stn = (fallen .stn).stationLapse := rfl
    rw [course]
    generalize (fallen .stn).stationLapse = t at *
    have kept : t.agreement.lapse = true
        ∧ t.agreement.state = (if s.agreement.state = .resolved then .lapsed else s.agreement.state)
        ∧ t.agreement.cnvOffer = s.agreement.cnvOffer ∧ t.agreement.stnOffer = s.agreement.stnOffer
        ∧ t.agreement.cnvToggle = s.agreement.cnvToggle ∧ t.agreement.stnToggle = s.agreement.stnToggle
        ∧ t.agreement.flags = s.agreement.flags ∧ t.agreement.resolved = s.agreement.resolved
        ∧ t.agreement.clock = s.agreement.clock := by
      rw [fields]
      exact ⟨rfl, rfl, rfl, rfl, rfl, rfl, rfl, rfl, rfl⟩
    obtain ⟨lapse, state, cnv, stn, cnvToggle, stnToggle, flags, values, clock⟩ := kept
    refine ⟨t, rfl, lapse, state, fun resolved => ⟨State.posts_of_before before (posts resolved), ?_⟩,
      fun other => before.trans (still other), cnv, stn, cnvToggle, stnToggle, flags, values, clock, computed,
      fun g => by rw [lapsed g, State.modAgreement, agreement], table, quiet, frame⟩
    rw [← params]
    exact (computed (by rw [resolved]; decide)).lapsed (by rw [state, if_pos resolved])
  · have before := State.SameNotice.fallen (m := .agreement) (hf .cnv)
    have agreement : (fallen .cnv).agreement = s.agreement := by rw [hf]
    have envelope : (fallen .cnv).envelope = s.envelope := by rw [hf]
    obtain ⟨discarded, apart⟩ := (fallen .cnv).cnvSilence
    rw [silenceTimeout_falls live (hf _)]
    generalize (fallen .cnv).reportSilence .cnv = t at *
    obtain ⟨fields, posts, still, computed, table, quiet, frame⟩ := discarded
    rw [agreement] at fields posts still
    rw [envelope] at table
    obtain ⟨cnv, cnvToggle, stn, lapse, stnToggle, clock, state, flags, values⟩ := fields
    exact ⟨t, rfl, cnv, cnvToggle, stn, lapse, stnToggle, clock, state, flags, values,
      fun changed => State.posts_of_before before (posts changed), fun same => before.trans (still same), computed, table, apart, quiet, frame⟩

end

end Sys2Proof.Machine
end

-- ==== Proofs: offers read and taken ====
section
namespace Sys2Proof.Machine

/-! ## Reading an offer (R129, R159) -/

theorem toggleOf_eq {b : Byte} {toggle : Bool} (h : b.toNat = toggle.toNat) : toggleOf b = some toggle := by
  cases toggle
  · rw [BitVec.eq_of_toNat_eq (y := 0#8) h]
    rfl
  · rw [BitVec.eq_of_toNat_eq (y := 1#8) h]
    rfl

theorem toggleOf_none {b : Byte} (h : 1 < b.toNat) : toggleOf b = none := by
  have zero : b ≠ 0 := by
    rintro rfl
    exact absurd h (by decide)
  have one : b ≠ 1 := by
    rintro rfl
    exact absurd h (by decide)
  rw [toggleOf, if_neg zero, if_neg one]

theorem conditionOf_eq {b : Byte} {c : RemoteCondition} (h : b.toNat = c.ctorIdx) : conditionOf b = some c := by
  rw [conditionOf, h]
  cases c <;> rfl

theorem conditionOf_none {b : Byte} (h : 3 < b.toNat) : conditionOf b = none := by
  unfold conditionOf
  split <;> first | omega | rfl

/-- R159: the segments an extension list carries. -/
theorem parseSegments_flatMap (raws : List (Byte × Byte × Byte × Byte × Byte × Byte)) :
    parseSegments (raws.flatMap fun (a, b, d, e, f, g) => [a, b, d, e, f, g]) = some (raws.map fun (a, b, d, e, f, g) =>
      ⟨256 * a.toNat + b.toNat, 256 * d.toNat + e.toNat, 256 * f.toNat + g.toNat⟩) := by
  induction raws with
  | nil => rfl
  | cons x rest ih =>
    obtain ⟨a, b, d, e, f, g⟩ := x
    rw [List.flatMap_cons]
    exact congrArg (Option.map (Segment.mk (number2 a b) (number2 d e) (number2 f g) :: ·)) ih

theorem segmentsAscend_iff (segments : List Segment) :
    segmentsAscend segments = true ↔ segments.Pairwise fun g h => g.start < h.start := by
  induction segments with
  | nil => simp [segmentsAscend]
  | cons p rest ih =>
    cases rest with
    | nil => simp [segmentsAscend]
    | cons q rest =>
      rw [segmentsAscend, Bool.and_eq_true, decide_eq_true_iff, ih, List.pairwise_cons (a := p)]
      refine ⟨fun ⟨first, later⟩ => ⟨fun x hx => ?_, later⟩, fun ⟨first, later⟩ => ⟨first q (List.mem_cons_self ..), later⟩⟩
      rcases List.mem_cons.1 hx with rfl | hx
      · exact first
      · exact first.trans ((List.pairwise_cons.1 later).1 x hx)

theorem parseCnvOffer_length {payload : List Byte} (h : payload.length ≠ 8) : parseCnvOffer payload = none := by
  unfold parseCnvOffer
  split
  · exact absurd rfl h
  · rfl

theorem parseStnOffer_length {payload : List Byte} (h : payload.length < 14) : parseStnOffer payload = none := by
  unfold parseStnOffer
  split
  · simp only [List.length_cons] at h
    omega
  · rfl

section
variable {t k i1 i2 e1 e2 r1 r2 n1 n2 flag m1 m2 count : Byte} {rest : List Byte} {toggle : Bool} {c : RemoteCondition}

/-- R129: a CNV offer's eight bytes. -/
theorem parseCnvOffer_eq (ht : t.toNat = toggle.toNat) (hk : k.toNat = c.ctorIdx) :
    parseCnvOffer [t, k, i1, i2, e1, e2, r1, r2] = some ⟨toggle, c, 256 * i1.toNat + i2.toNat, 256 * e1.toNat + e2.toNat,
      256 * r1.toNat + r2.toNat, 0, none, []⟩ := by
  simp only [parseCnvOffer, toggleOf_eq ht, conditionOf_eq hk]
  rfl

theorem parseCnvOffer_none (h : 1 < t.toNat ∨ 3 < k.toNat) : parseCnvOffer [t, k, i1, i2, e1, e2, r1, r2] = none := by
  rw [parseCnvOffer]
  split
  · next toggle condition =>
    rcases h with h | h
    · rw [toggleOf_none h] at toggle
      cases toggle
    · rw [conditionOf_none h] at condition
      cases condition
  · rfl

/-- R129: what an STN offer's bytes must satisfy. -/
theorem parseStnOffer_some {o : Offer}
    (h : parseStnOffer (t :: k :: i1 :: i2 :: e1 :: e2 :: r1 :: r2 :: n1 :: n2 :: flag :: m1 :: m2 :: count :: rest) = some o) :
    t.toNat ≤ 1 ∧ k.toNat ≤ 3 ∧ flag.toNat ≤ 1 ∧ count.toNat ≤ 6 ∧ rest.length = 6 * count.toNat
      ∧ (flag = 1 → 256 * m1.toNat + m2.toNat ≤ 1439) := by
  simp only [parseStnOffer] at h
  split at h
  · next tog cond present segs ht hk hf hs =>
    obtain ⟨⟨length, few, minute, -, -⟩, -⟩ := Option.ite_none_right_eq_some.1 h
    refine ⟨?_, ?_, ?_, length ▸ few, length ▸ parseSegments_length hs, fun one => ?_⟩
    · by_contra high
      rw [toggleOf_none (by omega)] at ht
      cases ht
    · by_contra high
      rw [conditionOf_none (by omega)] at hk
      cases hk
    · by_contra high
      rw [toggleOf_none (by omega)] at hf
      cases hf
    · subst one
      cases hf
      simpa [number2] using minute
  · cases h

/-- R129: an STN offer's bytes, its extension list read. -/
theorem parseStnOffer_eq {segments : List Segment} (ht : t.toNat = toggle.toNat) (hk : k.toNat = c.ctorIdx) (hf : flag.toNat ≤ 1)
    (hm : flag = 1 → 256 * m1.toNat + m2.toNat ≤ 1439) (hs : parseSegments rest = some segments)
    (length : segments.length = count.toNat) (few : count.toNat ≤ 6) :
    parseStnOffer (t :: k :: i1 :: i2 :: e1 :: e2 :: r1 :: r2 :: n1 :: n2 :: flag :: m1 :: m2 :: count :: rest)
      = if (∀ g ∈ segments, g.start ≤ 1439) ∧ segments.Pairwise (fun g h => g.start < h.start) then
          some ⟨toggle, c, 256 * i1.toNat + i2.toNat, 256 * e1.toNat + e2.toNat, 256 * r1.toNat + r2.toNat,
            256 * n1.toNat + n2.toNat, if flag = 1 then some (256 * m1.toNat + m2.toNat) else none, segments⟩
        else none := by
  have present : toggleOf flag = some (decide (flag = 1)) := by
    refine toggleOf_eq ?_
    by_cases one : flag = 1
    · rw [one]
      rfl
    · have zero : flag.toNat ≠ 1 := fun e => one (BitVec.eq_of_toNat_eq e)
      rw [decide_eq_false one]
      show flag.toNat = 0
      omega
  have minute : (if flag = 1 then some (256 * m1.toNat + m2.toNat) else none)
      = if decide (flag = 1) = true then some (number2 m1 m2) else none := if_congr decide_eq_true_iff.symm rfl rfl
  have within : ((if flag = 1 then some (256 * m1.toNat + m2.toNat) else none).all fun m => decide (m ≤ 1439)) = true := by
    split
    · next one => exact decide_eq_true (hm one)
    · rfl
  simp only [parseStnOffer, toggleOf_eq ht, conditionOf_eq hk, present, hs]
  rw [minute] at within ⊢
  generalize (if decide (flag = 1) = true then some (number2 m1 m2) else none) = read at *
  have good : (segments.length = count.toNat ∧ segments.length ≤ 6 ∧ (read.all fun m => decide (m ≤ 1439)) = true
      ∧ (segments.all fun g => decide (g.start ≤ 1439)) = true ∧ segmentsAscend segments = true)
      ↔ (∀ g ∈ segments, g.start ≤ 1439) ∧ segments.Pairwise fun g h => g.start < h.start := by
    rw [segmentsAscend_iff, List.all_eq_true, within]
    simp only [length, few, true_and, decide_eq_true_iff]
  exact if_congr good rfl rfl

end

/-! ## Taking an offer (R130 to R133) -/

section
variable {s : State} {l : Link} {q : Byte} {payload : List Byte} {raw o : Offer}

/-- R166: OFFER is served on CNV and STN alone. -/
theorem offer_port (d : s.delivers l ⟨7, q, payload⟩) : l = .cnv ∨ l = .stn := by
  have port : portRefusal 7 l s.siteMode = none := d.2
  cases l
  case cnv => exact .inl rfl
  case stn => exact .inr rfl
  all_goals cases port

/-- R129, R130: an offer in proper form is answered with the acceptance of the state it leaves. -/
theorem offer_read (d : s.delivers l ⟨7, q, payload⟩) (read : parseOffer l payload = some raw) (clamped : o = raw.clamp) :
    exec (.offer l q payload) s = .next ((if s.agreement.toggle l = some o.toggle then s else s.takeOffer l o).answerHead l
      ⟨7, q, payload⟩ (if o = raw then .done else .clamped)
      ((if s.agreement.toggle l = some o.toggle then s else s.takeOffer l o).acceptance o)) := by
  subst clamped
  exact congrArg Host.Outcome.next (State.serve_now d (by rw [offerBlock, read]))

end

/-- Settles O42. -/
theorem offerIsTaken : Obligations.OfferIsTaken := by
  unfold Obligations.OfferIsTaken
  intro l q payload s r hr d
  subst hr
  refine ⟨fun t k i1 i2 e1 e2 r1 r2 cnv hp => ?_, fun cnv wrong => ?_, fun stn short => ?_,
    fun t k i1 i2 e1 e2 r1 r2 n1 n2 flag m1 m2 count rest stn hp => ?_, fun bad => ?_, fun raw o code read ho hcode => ?_⟩
  · subst cnv hp
    exact ⟨parseCnvOffer_none, fun toggle c ht hk => parseCnvOffer_eq ht hk⟩
  · subst cnv
    exact parseCnvOffer_length wrong
  · subst stn
    exact parseStnOffer_length short
  · subst stn hp
    refine ⟨fun wrong => ?_, fun toggle c raws segments ht hk hf hm length few hrest hsegments => ?_⟩
    · cases h : parseOffer .stn (t :: k :: i1 :: i2 :: e1 :: e2 :: r1 :: r2 :: n1 :: n2 :: flag :: m1 :: m2 :: count :: rest) with
      | none => rfl
      | some o =>
        obtain ⟨toggle, condition, present, few, length, minute⟩ := parseStnOffer_some h
        rcases wrong with h | h | h | h | h | ⟨one, h⟩
        · omega
        · omega
        · omega
        · omega
        · exact absurd length h
        · exact absurd (minute one) (not_le.2 h)
    · have read : parseSegments rest = some segments := by
        rw [hrest, hsegments]
        exact parseSegments_flatMap raws
      have parsed := parseStnOffer_eq (i1 := i1) (i2 := i2) (e1 := e1) (e2 := e2) (r1 := r1) (r2 := r2) (n1 := n1) (n2 := n2)
        ht hk hf hm read (by rw [hsegments, List.length_map, length]) few
      refine ⟨fun bad => parsed.trans (if_neg ?_), fun within rising => parsed.trans (if_pos ⟨within, rising⟩)⟩
      rintro ⟨within, rising⟩
      rcases bad with ⟨g, member, late⟩ | falling
      · exact absurd (within g member) (not_le.2 late)
      · exact falling rising
  · exact congrArg Host.Outcome.next (State.serve_now d (by rw [offerBlock, bad]))
  have toggle : (if l = .cnv then s.agreement.cnvToggle else s.agreement.stnToggle) = s.agreement.toggle l := by
    rcases offer_port d with rfl | rfl <;> rfl
  have runs := offer_read d read (o := o) ho
  rw [toggle, hcode]
  refine ⟨fun again => ?_, fun new => ?_⟩
  · rw [runs, if_pos again]
  rw [if_neg new] at runs
  have reagreed : s.Reagreed (s.agreement.hold l o s.uptime) (s.takeOffer l o) :=
    (s.reagreed (fun a => a.hold l o s.uptime) True)
  have posts : s.posts (s.takeOffer l o) .agreement (.agreement (s.agreement.hold l o s.uptime).outcome.1 (s.agreement.hold l o s.uptime).outcome.2.1) :=
    s.reagreed_posts (fun a => a.hold l o s.uptime) (posted := True) trivial
  generalize s.takeOffer l o = t at *
  have fields := reagreed.agreement
  have stateHeld : (s.agreement.hold l o s.uptime).state = s.agreement.state := by
    rcases offer_port d with rfl | rfl <;> rfl
  have state : t.agreement.state = (s.agreement.hold l o s.uptime).outcome.1 := by rw [fields]
  have flags : t.agreement.flags = (s.agreement.hold l o s.uptime).outcome.2.1 := by rw [fields]
  have lost := reagreed.lost
  have stands := reagreed.stands
  rw [stateHeld, ← state] at lost stands
  rw [← state, ← flags] at posts
  refine ⟨_, runs, fun cnv => ?_, fun stn => ?_, ?_, fun k => ?_, fun changed gone => ?_, fun kept => ?_, ?_, reagreed.table, fun k => ?_, reagreed.answered ..⟩
  · subst cnv
    show t.agreement.cnvOffer = _ ∧ t.agreement.cnvToggle = _ ∧ t.agreement.stnOffer = _ ∧ t.agreement.stnToggle = _
      ∧ t.agreement.lapse = _ ∧ t.agreement.clock = _
    rw [fields]
    exact ⟨rfl, rfl, rfl, rfl, rfl, rfl⟩
  · subst stn
    have held : t.agreement.stnOffer = some o ∧ t.agreement.stnToggle = some o.toggle ∧ t.agreement.cnvOffer = s.agreement.cnvOffer
        ∧ t.agreement.cnvToggle = s.agreement.cnvToggle
        ∧ t.agreement.clock = (s.agreement.hold .stn o s.uptime).clock
        ∧ t.agreement.lapse = lapseAfter o s.agreement.state s.agreement.lapse := by
      rw [fields]
      exact ⟨rfl, rfl, rfl, rfl, rfl, rfl⟩
    obtain ⟨offer, toggle, cnv, cnvToggle, clock, lapse⟩ := held
    refine ⟨offer, toggle, cnv, cnvToggle, fun m minute => clock.trans ?_, fun none => clock.trans ?_, fun on => lapse.trans ?_,
      fun off held => lapse.trans ?_, fun off one two => lapse.trans ?_⟩
    · simp only [Agreement.hold, minute]
    · simp only [Agreement.hold, none]
    · exact if_neg on
    · rw [lapseAfter, if_pos off, if_pos held]
    · rw [lapseAfter, if_pos off, if_neg fun held => held.elim one two]
  · show (t.agreement.state, t.agreement.flags, t.agreement.resolved)
      = resolution t.agreement.cnvOffer t.agreement.stnOffer t.agreement.lapse
    rw [fields]
    rfl
  · exact (State.SameNotice.answerHead t l _ _ _ k).trans (posts k)
  · exact lost changed ((AgreementState.lost_iff _).2 gone)
  · refine stands fun both => ?_
    rcases kept with same | same | same
    · exact both.1 same
    · have stood : t.agreement.state = .resolved := same
      exact absurd both.2 (by rw [stood]; decide)
    · have stood : t.agreement.state = .lapsed := same
      exact absurd both.2 (by rw [stood]; decide)
  · exact reagreed.computed.of_same (s := t) rfl rfl rfl rfl rfl
  · rw [State.answerHead_out reagreed.quiet]
    rw [(by decide : answerKind 7 = 0x87)]
    rfl

end Sys2Proof.Machine
end

-- ==== Proofs: the plant's dwells and timers ====
section
namespace Sys2Proof.Machine

/-! ## The flow timer (R85) -/

theorem Plant.flowCondition_iff (q : Plant) : q.flowCondition = true ↔
    (q.flow = .ok ∧ 0 < q.pumpDuty ∧ q.flowInput = .noFlow) ∨ (q.flow = .pumpFault ∧ q.flowInput = .flow) := by
  rw [Plant.flowCondition]
  cases q.flow <;> simp

/-- R85: the flow timer runs on, starts or stops as the condition says. -/
theorem Plant.judgeFlow_eq (q : Plant) (now : Nat) : q.judgeFlow now = { q with
    flowTimer := if (q.flow = .ok ∧ 0 < q.pumpDuty ∧ q.flowInput = .noFlow) ∨ (q.flow = .pumpFault ∧ q.flowInput = .flow)
      then some (q.flowTimer.getD (now + 5000)) else none } := by
  rw [Plant.judgeFlow]
  simp only [q.flowCondition_iff]
  cases q.flowTimer <;> rfl

/-- R85: the timer of a condition that has just become the other one starts afresh or stops. -/
theorem Plant.judgeFlow_fault {q : Plant} (now : Nat) (flow : q.flow = .pumpFault) (stopped : q.flowTimer = none) :
    q.judgeFlow now = { q with flowTimer := if q.flowInput = .flow then some (now + 5000) else none } := by
  rw [Plant.judgeFlow_eq, flow, stopped]
  simp

theorem Plant.judgeFlow_ok {q : Plant} (now : Nat) (flow : q.flow = .ok) (stopped : q.flowTimer = none) :
    q.judgeFlow now =
      { q with flowTimer := if 0 < q.pumpDuty ∧ q.flowInput = .noFlow then some (now + 5000) else none } := by
  rw [Plant.judgeFlow_eq, flow, stopped]
  simp

section
variable {s : State}

/-- R85: the flow timer runs out under either flow state. -/
theorem State.flowExpired_ok (flow : s.plant.flow = .ok) : s.flowExpired = State.post { s with plant := { s.plant with
    flow := .pumpFault
    flowTimer := if s.plant.flowInput = .flow then some (s.uptime + 5000) else none } } .fault .pumpFault := by
  rw [State.flowExpired, flow]
  dsimp only
  rw [State.modPlant, Plant.judgeFlow_fault _ rfl rfl]

theorem State.flowExpired_fault (flow : s.plant.flow = .pumpFault) : s.flowExpired = { s with plant := { s.plant with
    flow := .ok
    flowTimer := if 0 < s.plant.pumpDuty ∧ s.plant.flowInput = .noFlow then some (s.uptime + 5000) else none } } := by
  rw [State.flowExpired, flow]
  dsimp only
  rw [State.modPlant, Plant.judgeFlow_ok _ rfl rfl]

end

/-! ## Expiries (R86, R87, R91) -/

section
variable {s : State}

theorem DwellOutput.expiry_chiller (o : DwellOutput) :
    o.expiry chillerDwell = o.lastChange + if o.on then 180000 else 300000 := rfl

theorem DwellOutput.free_iff (o : DwellOutput) (dwell : Bool → Nat) (now : Nat) :
    o.free dwell now = true ↔ o.lastChange + dwell o.on ≤ now := decide_eq_true_iff

theorem DwellOutput.free_max (o : DwellOutput) (dwell : Bool → Nat) (now : Nat) :
    o.free dwell (max now (o.expiry dwell)) = true := (o.free_iff dwell _).2 (Nat.le_max_right ..)

theorem chillerDwellExpiry_runs (running : s.phase = .running) (g : Stage) :
    exec (.chillerDwellExpiry g) s = .next ((s.atTime ((s.plant.stage g).expiry chillerDwell)).chillerExpired g) :=
  congrArg Host.Outcome.next (if_pos running)

theorem heaterDwellExpiry_runs (running : s.phase = .running) :
    exec .heaterDwellExpiry s = .next (s.atTime (s.plant.heater.expiry heaterDwellOf)).heaterExpired :=
  congrArg Host.Outcome.next (if_pos running)

end

section
variable {q : Plant} {now : Nat}

theorem Plant.expire1_none (h : q.chiller1.request = none) : q.expire1 now = q := by
  rw [Plant.expire1, h]

theorem Plant.expire1_on (h : q.chiller1.request = some true) (off : q.chiller1.on = false) :
    q.expire1 now = { q with chiller1 := .change true now } := by
  rw [Plant.expire1, h]
  simp [off]

theorem Plant.expire1_off (h : q.chiller1.request = some false) (on : q.chiller1.on = true) :
    q.expire1 now = q.stage1Off now := by
  rw [Plant.expire1, h]
  simp [on]

/-- R87: stage 1 goes OFF alone, with stage 2, or waits for it. -/
theorem Plant.stage1Off_alone (off : q.chiller2.on = false) : q.stage1Off now = { q with
    chiller1 := .change false now, chiller2 := { q.chiller2 with request := none }, chiller2Follows := false } := by
  simp [Plant.stage1Off, off]

theorem Plant.stage1Off_both (on : q.chiller2.on = true) (free : q.chiller2.free chillerDwell now = true) :
    q.stage1Off now =
      { q with chiller1 := .change false now, chiller2 := .change false now, chiller2Follows := false } := by
  simp [Plant.stage1Off, on, free]

theorem Plant.stage1Off_waits (on : q.chiller2.on = true) (busy : q.chiller2.free chillerDwell now = false) :
    q.stage1Off now = { q with
      chiller1 := { q.chiller1 with request := some false }
      chiller2 := { q.chiller2 with request := some false }
      chiller2Follows := q.chiller2Follows || q.chiller2.request != some false } := by
  simp [Plant.stage1Off, on, busy]

theorem Plant.expire2_on (h : q.chiller2.request = some true) (off : q.chiller2.on = false) (on : q.chiller1.on = true) :
    q.expire2 now = { q with chiller2 := .change true now } := by
  rw [Plant.expire2, h]
  simp [off, on]

theorem Plant.expire2_off (h : q.chiller2.request = some false) (on : q.chiller2.on = true) :
    q.expire2 now = q.stage2Off now := by
  rw [Plant.expire2, h]
  simp [on]

end

/-- Settles O31. -/
theorem plantTimers : Obligations.PlantTimers := by
  unfold Obligations.PlantTimers
  refine fun s => ⟨fun level same => ?_, fun level differs stopped => ?_, fun level differs running => ?_,
    fun stopped => ?_, fun x due flow => ?_, fun x due flow => ?_, fun running n1 n2 h1 h2 => ?_⟩
  · exact congrArg Host.Outcome.next (if_pos same)
  · exact congrArg Host.Outcome.next ((if_neg differs).trans (if_neg stopped))
  · refine (congrArg Host.Outcome.next ((if_neg differs).trans (if_pos running))).trans ?_
    rw [State.modPlant, Plant.judgeFlow_eq]
  · show Host.Outcome.next (flowTimerExpiry s) = _
    rw [flowTimerExpiry, stopped]
  · show Host.Outcome.next (flowTimerExpiry s) = _
    rw [flowTimerExpiry, due]
    exact congrArg Host.Outcome.next (State.flowExpired_ok (s := s.atTime x) flow)
  · show Host.Outcome.next (flowTimerExpiry s) = _
    rw [flowTimerExpiry, due]
    exact congrArg Host.Outcome.next (State.flowExpired_fault (s := s.atTime x) flow)
  · have one : exec (.chillerDwellExpiry .stage1) s = .next { s with uptime := n1, plant := s.plant.expire1 n1 } := by
      rw [chillerDwellExpiry_runs running, h1]
      rfl
    have two : exec (.chillerDwellExpiry .stage2) s = .next { s with uptime := n2, plant := s.plant.expire2 n2 } := by
      rw [chillerDwellExpiry_runs running, h2]
      rfl
    refine ⟨fun none => ?_, fun request off => ?_, fun request on off => ?_, fun request on on2 free => ?_,
      fun request on on2 busy => ?_, fun request off on => ?_, fun request on => ?_, fun b n hn => ⟨fun none => ?_, fun request differs => ?_⟩⟩
    · rw [one, Plant.expire1_none none]
    · rw [one, Plant.expire1_on request off]
      rfl
    · rw [one, Plant.expire1_off request on, Plant.stage1Off_alone off]
      rfl
    · rw [one, Plant.expire1_off request on, Plant.stage1Off_both on2 ((DwellOutput.free_iff ..).2 ?_)]
      · rfl
      · exact (le_of_le_of_eq (Nat.le_max_right ..) h2.symm).trans free
    · rw [one, Plant.expire1_off request on, Plant.stage1Off_waits on2 (Bool.eq_false_iff.2 fun free => ?_)]
      · have asked : s.plant.chiller1 = { s.plant.chiller1 with request := some false } := by rw [← request]
        rw [← asked]
      · have free := (DwellOutput.free_iff ..).1 free
        have later : s.uptime ≤ n1 := le_of_le_of_eq (Nat.le_max_left ..) h1.symm
        have : n2 ≤ n1 := h2 ▸ max_le later free
        omega
    · rw [two, Plant.expire2_on request off on]
      rfl
    · rw [two, Plant.expire2_off request on]
      have free : s.plant.chiller1.free chillerDwell n2 = true ↔ n1 ≤ n2 := by
        rw [DwellOutput.free_iff, h1, max_le_iff]
        exact (and_iff_right (le_of_le_of_eq (Nat.le_max_left ..) h2.symm)).symm
      rw [Plant.stage2Off]
      simp only [free]
      rfl
    · rw [heaterDwellExpiry_runs running, hn, State.heaterExpired, State.modPlant]
      have still : ∀ n, s.plant.expireHeater n = s.plant := fun n => by rw [Plant.expireHeater, none]
      exact congrArg (fun q => Host.Outcome.next { s with uptime := max s.uptime (s.plant.heater.lastChange + 60000), plant := q })
        (still _)
    · rw [heaterDwellExpiry_runs running, hn]
      have changes : ∀ n, s.plant.expireHeater n = { s.plant with heater := ⟨b, n, none⟩ } := fun n => by
        rw [Plant.expireHeater, request]
        simp only [if_neg (Ne.symm differs)]
        rfl
      exact congrArg (fun q => Host.Outcome.next { s with uptime := max s.uptime (s.plant.heater.lastChange + 60000), plant := q })
        (changes _)

/-! ## What a dwell keeps (R86, R87, R91) -/

/-- R86: an output is as it was, or its dwell had passed and the change is noted. -/
def DwellOutput.Respects (dwell : Bool → Nat) (now : Nat) (o o' : DwellOutput) : Prop :=
  (o'.on = o.on ∧ o'.lastChange = o.lastChange)
    ∨ (o'.on ≠ o.on ∧ o.free dwell now = true ∧ o'.lastChange = now)

/-- R91: an output is as it was, or its change is noted and it came ON only when its dwell had passed. -/
def DwellOutput.RespectsOn (dwell : Bool → Nat) (now : Nat) (o o' : DwellOutput) : Prop :=
  (o'.on = o.on ∧ o'.lastChange = o.lastChange)
    ∨ (o'.lastChange = now ∧ (o'.on = true → o.free dwell now = true))

/-- R86, R91: both stages and the heater. -/
structure Plant.Respects (now : Nat) (q q' : Plant) : Prop where
  one : q.chiller1.Respects chillerDwell now q'.chiller1
  two : q.chiller2.Respects chillerDwell now q'.chiller2
  heater : q.heater.RespectsOn heaterDwellOf now q'.heater

section
variable {dwell : Bool → Nat} {now : Nat} {o o' o'' : DwellOutput}

/-- An output that has just changed is not free. -/
theorem DwellOutput.busy_of_change (positive : ∀ b, 0 < dwell b) (h : o.lastChange = now) : o.free dwell now = false := by
  have := positive o.on
  exact decide_eq_false (by omega)

theorem DwellOutput.free_congr (h : o'.on = o.on ∧ o'.lastChange = o.lastChange) : o'.free dwell now = o.free dwell now := by
  rw [DwellOutput.free, DwellOutput.free, h.1, h.2]

theorem DwellOutput.Respects.trans (positive : ∀ b, 0 < dwell b) (h : o.Respects dwell now o')
    (h' : o'.Respects dwell now o'') : o.Respects dwell now o'' := by
  rcases h' with ⟨on, at_⟩ | ⟨differs, free, at_⟩
  · rcases h with ⟨on', at'⟩ | ⟨differs, free, at'⟩
    · exact .inl ⟨on.trans on', at_.trans at'⟩
    · exact .inr ⟨fun e => differs (on.symm.trans e), free, at_.trans at'⟩
  · rcases h with same | ⟨-, -, at'⟩
    · exact .inr ⟨fun e => differs (e.trans same.1.symm), DwellOutput.free_congr same ▸ free, at_⟩
    · rw [DwellOutput.busy_of_change positive at'] at free
      cases free

theorem DwellOutput.RespectsOn.trans (positive : ∀ b, 0 < dwell b) (h : o.RespectsOn dwell now o')
    (h' : o'.RespectsOn dwell now o'') : o.RespectsOn dwell now o'' := by
  rcases h' with ⟨on, at_⟩ | ⟨at_, free⟩
  · rcases h with ⟨on', at'⟩ | ⟨at', free⟩
    · exact .inl ⟨on.trans on', at_.trans at'⟩
    · exact .inr ⟨at_.trans at', fun e => free (on.symm.trans e)⟩
  · rcases h with same | ⟨at', -⟩
    · exact .inr ⟨at_, fun e => DwellOutput.free_congr same ▸ free e⟩
    · refine .inr ⟨at_, fun e => ?_⟩
      have free := free e
      rw [DwellOutput.busy_of_change positive at'] at free
      cases free

theorem DwellOutput.Respects.request (o : DwellOutput) (r : Option Bool) :
    o.Respects dwell now { o with request := r } := .inl ⟨rfl, rfl⟩

theorem DwellOutput.Respects.rfl' : o.Respects dwell now o := .inl ⟨rfl, rfl⟩

theorem DwellOutput.Respects.change {b : Bool} (differs : b ≠ o.on) (free : o.free dwell now = true) :
    o.Respects dwell now (.change b now) := .inr ⟨differs, free, rfl⟩

theorem DwellOutput.Respects.off (on : o.on = true) (free : o.free dwell now = true) :
    o.Respects dwell now (.change false now) := .change (by rw [on]; decide) free

theorem DwellOutput.Respects.ask (o : DwellOutput) (b : Bool) : o.Respects dwell now (o.ask dwell now b) := by
  unfold DwellOutput.ask
  split
  · exact .request o _
  · next differs =>
    split
    · next free => exact .change differs free
    · exact .request o _

/-- R86: what every output respects, the heater's turning ON respects. -/
theorem DwellOutput.Respects.turnsOn (h : o.Respects dwell now o') : o.RespectsOn dwell now o' :=
  h.imp id fun ⟨_, free, at_⟩ => ⟨at_, fun _ => free⟩

end

theorem chillerDwell_positive (b : Bool) : 0 < chillerDwell b := by cases b <;> decide

theorem heaterDwellOf_positive (b : Bool) : 0 < heaterDwellOf b := show 0 < heaterDwell by decide

section
variable {now : Nat} {q q' q'' : Plant}

theorem Plant.Respects.of_chillers (one : q.chiller1.Respects chillerDwell now q'.chiller1)
    (two : q.chiller2.Respects chillerDwell now q'.chiller2) (heater : q'.heater = q.heater) : q.Respects now q' :=
  ⟨one, two, .inl (by rw [heater]; exact ⟨rfl, rfl⟩)⟩

theorem Plant.Respects.of_heater (one : q'.chiller1 = q.chiller1) (two : q'.chiller2 = q.chiller2)
    (heater : q.heater.RespectsOn heaterDwellOf now q'.heater) : q.Respects now q' :=
  ⟨one ▸ .rfl', two ▸ .rfl', heater⟩

theorem Plant.Respects.of_same (one : q'.chiller1 = q.chiller1) (two : q'.chiller2 = q.chiller2)
    (heater : q'.heater = q.heater) : q.Respects now q' := .of_heater one two (heater ▸ .inl ⟨rfl, rfl⟩)

theorem Plant.Respects.trans (h : q.Respects now q') (h' : q'.Respects now q'') : q.Respects now q'' :=
  ⟨h.one.trans chillerDwell_positive h'.one, h.two.trans chillerDwell_positive h'.two,
    h.heater.trans heaterDwellOf_positive h'.heater⟩

/-- R87: stage 1 goes OFF only when its dwell has passed, and takes along stage 2 only when that one's has. -/
theorem Plant.Respects.stage1Off (on : q.chiller1.on = true) (free : q.chiller1.free chillerDwell now = true) :
    q.Respects now (q.stage1Off now) := by
  unfold Plant.stage1Off
  split
  · next on2 =>
    split
    · next free2 => exact .of_chillers (.off on free) (.off on2 free2) rfl
    · exact .of_chillers (.request _ _) (.request _ _) rfl
  · exact .of_chillers (.off on free) (.request _ _) rfl

theorem Plant.Respects.stage2Off (on : q.chiller2.on = true) (free : q.chiller2.free chillerDwell now = true) :
    q.Respects now (q.stage2Off now) := by
  refine .of_chillers ?_ (.off on free) rfl
  show q.chiller1.Respects chillerDwell now (if _ then _ else _)
  split
  · next follows => exact .off follows.1 follows.2.2
  · exact .rfl'

theorem Plant.Respects.ask1 (q : Plant) (on : Bool) : q.Respects now (q.ask1 now on) := by
  unfold Plant.ask1
  split
  · split
    · exact .of_chillers (.ask _ _) (.request _ _) rfl
    · exact .of_chillers (.ask _ _) .rfl' rfl
  · split
    · next takes => exact .stage1Off takes.1 takes.2
    · exact .of_chillers (.ask _ _) .rfl' rfl

theorem Plant.Respects.ask2 (q : Plant) (on : Bool) : q.Respects now (q.ask2 now on) := by
  unfold Plant.ask2
  split
  · split
    · exact .of_chillers .rfl' (.ask _ _) rfl
    · exact .of_same rfl rfl rfl
  · split
    · next takes => exact .stage2Off takes.1 takes.2
    · exact .of_chillers .rfl' (.ask _ _) rfl

theorem Plant.Respects.staging (q : Plant) (p : Params) : q.Respects now (q.staging p now) := by
  have one (r : Option Bool) : q.Respects now (q.askIf1 now r) := by
    cases r
    · exact .of_same rfl rfl rfl
    · exact .ask1 q _
  have two (q : Plant) (r : Option Bool) : q.Respects now (q.askIf2 now r) := by
    cases r
    · exact .of_same rfl rfl rfl
    · exact .ask2 q _
  exact (one _).trans (two _ _)

theorem Plant.Respects.chillerRule (q : Plant) (p : Params) (m : CoolingMode) : q.Respects now (q.chillerRule p now m) := by
  cases m with
  | run => exact .staging q p
  | idle | purge | fireHold => exact (Plant.Respects.ask1 q false).trans (.ask2 _ false)

/-- R82, R91: the heater comes ON by its rule alone. -/
theorem Plant.Respects.heaterIn (q : Plant) (p : Params) (coldest : Option Int) (m : CoolingMode) :
    q.Respects now (q.heaterIn p now coldest m) := by
  have rule : q.Respects now (q.heaterRule p now coldest) := by
    unfold Plant.heaterRule
    split
    · exact .of_heater rfl rfl (DwellOutput.Respects.ask _ _).turnsOn
    · exact .of_same rfl rfl rfl
  have held : q.Respects now { q with heater := q.heater.holdOff now } := by
    refine .of_heater rfl rfl ?_
    show q.heater.RespectsOn heaterDwellOf now (if _ then _ else _)
    split
    · exact .inr ⟨rfl, nofun⟩
    · exact .inl ⟨rfl, rfl⟩
  cases m with
  | idle | run => exact rule
  | purge | fireHold => exact held

theorem Plant.Respects.setOutputs (q : Plant) (p : Params) (coldest : Option Int) (m : CoolingMode) :
    q.Respects now (q.setOutputs p now coldest m) :=
  have noted : q.Respects now { q with
      mode := m
      prescaler := p.prescaler.toNat
      fanDuty := fanDutyOf p q.demand m
      pumpDuty := pumpDutyOf p m } := .of_same rfl rfl rfl
  have flow (r : Plant) : r.Respects now (r.judgeFlow now) := .of_same rfl rfl rfl
  ((noted.trans (.chillerRule _ p m)).trans (.heaterIn _ p coldest m)).trans (flow _)

/-- R86, R87: the end of a dwell carries out what the dwell held back. -/
theorem Plant.Respects.expire1 (free : q.chiller1.free chillerDwell now = true) : q.Respects now (q.expire1 now) := by
  unfold Plant.expire1
  split
  · refine .of_chillers ?_ .rfl' rfl
    dsimp only
    split
    · exact .request _ _
    · next off => exact .change (fun e => off e.symm) free
  · split
    · next on => exact .stage1Off on free
    · exact .of_chillers (.request _ _) .rfl' rfl
  · exact .of_same rfl rfl rfl

theorem Plant.Respects.expire2 (free : q.chiller2.free chillerDwell now = true) : q.Respects now (q.expire2 now) := by
  unfold Plant.expire2
  split
  · refine .of_chillers .rfl' ?_ rfl
    dsimp only
    split
    · next takes => exact .change (fun e => takes.2 e.symm) free
    · exact .request _ _
  · split
    · next on => exact .stage2Off on free
    · exact .of_chillers .rfl' (.request _ _) rfl
  · exact .of_same rfl rfl rfl

theorem Plant.Respects.expireHeater (free : q.heater.free heaterDwellOf now = true) :
    q.Respects now (q.expireHeater now) := by
  unfold Plant.expireHeater
  split
  · refine .of_heater rfl rfl (DwellOutput.Respects.turnsOn ?_)
    dsimp only
    split
    · exact .request _ _
    · next differs => exact .change differs free
  · exact .of_same rfl rfl rfl

end

/-! ## Every command but a fire evaluation and a reset -/

/-- The part's time stands and its plant respects the dwells. -/
def State.Respects (s t : State) : Prop := t.uptime = s.uptime ∧ s.plant.Respects s.uptime t.plant

section
variable {s t u : State}

theorem State.Respects.of_same (time : t.uptime = s.uptime) (plant : t.plant = s.plant) : s.Respects t :=
  ⟨time, plant ▸ .of_same rfl rfl rfl⟩

theorem State.Respects.trans (h : s.Respects t) (h' : t.Respects u) : s.Respects u :=
  ⟨h'.1.trans h.1, h.2.trans (h.1 ▸ h'.2)⟩

theorem State.Respects.modeChoice (s : State) : s.Respects s.modeChoice := ⟨rfl, .setOutputs _ _ _ _⟩

/-- R162: of all the codes taken, one from PNL alone has a mode chosen. -/
theorem State.Respects.judgeStatus (s : State) (l : Link) (code : Byte) : s.Respects (s.judgeStatus l code) := by
  unfold State.judgeStatus
  split
  · unfold State.showCode
    dsimp only
    split
    · unfold State.takeChange
      cases l with
      | pnl => exact .trans (.of_same (by simp [State.hear]) (by simp [State.hear])) (.modeChoice _)
      | cnv | stn => exact .of_same (by simp [State.hear]) (by simp [State.hear])
      | svc =>
        dsimp only
        split <;> exact .of_same (by simp [State.hear]) (by simp [State.hear])
    · exact .of_same rfl rfl
  · exact .of_same rfl rfl

theorem State.Respects.receiveOne (s : State) (l : Link) (r : Received) : s.Respects (s.receiveOne l r) := by
  cases r with
  | bad => exact .of_same rfl rfl
  | good kind seq payload =>
    unfold State.receiveOne State.offerRequest
    dsimp only
    split <;> exact .of_same rfl rfl
  | status code => exact .judgeStatus s l code

theorem State.Respects.receive (l : Link) (found : List Received) (s : State) :
    s.Respects (found.foldl (fun t r => t.receiveOne l r) s) := by
  induction found generalizing s with
  | nil => exact .of_same rfl rfl
  | cons r rest ih => exact .trans (.receiveOne s l r) (ih _)

/-- R80: the sample notes its inputs, chooses a mode and delivers CD. -/
theorem State.storeInputs_plant (s : State) (inlet outlet container outside : Int) :
    (s.storeInputs inlet outlet container outside).plant = { s.plant with
      inlet := plantInput inlet
      outlet := plantInput outlet
      container := plantInput container
      outside := plantInput outside } := by
  simp only [State.storeInputs, State.inputFault_frame]
  rfl

theorem State.Respects.sample (s : State) (inlet outlet container outside : Int) :
    s.Respects ((s.storeInputs inlet outlet container outside).formDemand.modeChoice).deliverCd := by
  have noted : s.Respects (s.storeInputs inlet outlet container outside) :=
    ⟨by simp, by rw [State.storeInputs_plant]; exact .of_same rfl rfl rfl⟩
  have formed (u : State) : u.Respects u.formDemand := ⟨rfl, .of_same rfl rfl rfl⟩
  exact ((noted.trans (formed _)).trans (.modeChoice _)).trans (.of_same (by simp [State.deliverCd]) (by simp [State.deliverCd]))

end

/-! ## A change of stage that forces nothing (R112, R113) -/

section
variable {s : State} {old g : FireStage}

/-- R113: where no entry forces the part apart, a change of stage hands on the FS update and a mode choice. -/
theorem State.stageEffects_plain (plain : confirmedEntry old s.fire.stage = false) :
    s.stageEffects old = [s.fsEffect, (.plant, State.modeChoice)] := by
  rw [State.stageEffects, plain]
  rfl

theorem State.changeStage_plain (plain : confirmedEntry s.fire.stage g = false) :
    ∃ n, s.changeStage g = { ((s.enterStage g).updateFs (fsRow s.params g s.fire.degraded)).modeChoice with choices := n }
      ∨ s.changeStage g = { ((s.enterStage g).modeChoice).updateFs (fsRow s.params g s.fire.degraded) with choices := n } := by
  have entered : (s.enterStage g).fire = s.fire.enter g s.uptime := s.enterStage_fire g
  have params : (s.enterStage g).params = s.params := by simp [State.params]
  have row : fsRow (s.enterStage g).params (s.enterStage g).fire.stage (s.enterStage g).fire.degraded
      = fsRow s.params g s.fire.degraded := by rw [entered, params]; rfl
  rw [State.changeStage, State.stageEffects_plain (by rw [entered]; exact plain), State.fsEffect, row]
  exact State.inAnyOrder_two _ _ _

/-- R110: a return to NORMAL forces nothing. -/
theorem confirmedEntry_normal (old : FireStage) : confirmedEntry old .normal = false := by cases old <;> rfl

theorem State.Respects.resetFireBlock (s : State) : s.Respects (resetFireBlock s).1 := by
  rcases resetFireBlock_cases s with same | ⟨-, -, e⟩
  · rw [same]
    exact .of_same rfl rfl
  · rw [e]
    have course {u : State} {n : Nat} (h : s.Respects u) : s.Respects { u with choices := n } := h
    have entered : s.Respects (s.enterStage .normal) := .of_same (by simp) (by simp)
    obtain ⟨n, e | e⟩ := State.changeStage_plain (confirmedEntry_normal s.fire.stage) <;> rw [e]
    · exact course ((entered.trans (.of_same (by simp) (by simp))).trans (.modeChoice _))
    · exact course ((entered.trans (.modeChoice _)).trans (.of_same (by simp) (by simp)))

end

/-- What a plant that respects the dwells says of a state. -/
theorem Plant.Respects.dwells {q q' : Plant} {now : Nat} (h : q.Respects now q') :
    (q'.chiller1.on ≠ q.chiller1.on →
      (q.chiller1.lastChange + if q.chiller1.on then 180000 else 300000) ≤ now ∧ q'.chiller1.lastChange = now)
    ∧ (q'.chiller2.on ≠ q.chiller2.on →
      (q.chiller2.lastChange + if q.chiller2.on then 180000 else 300000) ≤ now ∧ q'.chiller2.lastChange = now)
    ∧ (q.heater.on = false → q'.heater.on = true → q.heater.lastChange + 60000 ≤ now ∧ q'.heater.lastChange = now) := by
  have chiller {o o' : DwellOutput} (h : o.Respects chillerDwell now o') (differs : o'.on ≠ o.on) :
      (o.lastChange + if o.on then 180000 else 300000) ≤ now ∧ o'.lastChange = now := by
    rcases h with ⟨on, -⟩ | ⟨-, free, at_⟩
    · exact absurd on differs
    · exact ⟨(o.free_iff ..).1 free, at_⟩
  refine ⟨chiller h.one, chiller h.two, fun off on => ?_⟩
  rcases h.heater with ⟨same, -⟩ | ⟨at_, free⟩
  · rw [same, off] at on
    cases on
  · exact ⟨(q.heater.free_iff ..).1 (free on), at_⟩

/-- R86, R91: every command but a fire evaluation and a reset respects the dwells, at the time it leaves. -/
theorem exec_respects {c : Instr} {s t : State} (h : exec c s = .next t) (running : s.phase = .running)
    (stays : t.phase = .running) (calm : ∀ loops g1 g2, c ≠ .fireEvaluation loops g1 g2) (noReset : c ≠ .siteResetStart) :
    s.plant.Respects t.uptime t.plant := by
  have of_state {t : State} (h : s.Respects t) : s.plant.Respects t.uptime t.plant := by
    rw [h.1]
    exact h.2
  by_cases mentions : Part.plant ∈ changedBy c
  · cases c
    case analogSample inlet outlet container outside =>
      obtain rfl := Host.Outcome.next.inj h
      rw [Machine.analogSample, if_pos running]
      have sampled := State.Respects.sample { s.atTime s.clocks.sample with
        clocks := { s.clocks with sample := s.clocks.sample + 500 } } inlet outlet container outside
      rw [sampled.1]
      exact sampled.2
    case chillerDwellExpiry g =>
      rw [chillerDwellExpiry_runs running] at h
      obtain rfl := Host.Outcome.next.inj h
      cases g
      · exact .expire1 (DwellOutput.free_max ..)
      · exact .expire2 (DwellOutput.free_max ..)
    case heaterDwellExpiry =>
      rw [heaterDwellExpiry_runs running] at h
      obtain rfl := Host.Outcome.next.inj h
      exact .expireHeater (DwellOutput.free_max ..)
    case flowSwitchChange level =>
      obtain rfl := Host.Outcome.next.inj h
      unfold flowSwitchChange
      repeat' split
      all_goals exact .of_same rfl rfl rfl
    case flowTimerExpiry =>
      obtain rfl := Host.Outcome.next.inj h
      unfold flowTimerExpiry State.flowExpired
      repeat' split
      all_goals exact .of_same rfl rfl rfl
    case statusWord l code =>
      obtain rfl := Host.Outcome.next.inj h
      rw [Machine.statusWord, if_pos running]
      exact of_state (.judgeStatus s l code)
    case telegram l raw =>
      obtain rfl := Host.Outcome.next.inj h
      rw [Machine.telegram, if_pos running]
      exact of_state (.receive l _ s)
    case resetFire l q payload =>
      obtain rfl := Host.Outcome.next.inj h
      refine of_state (State.serve_keeps (P := s.Respects) (fun t l f ht => ht) (.of_same rfl rfl) ?_)
      unfold noPayload
      split
      · exact .resetFireBlock s
      · exact .of_same rfl rfl
    case fireEvaluation loops g1 g2 => exact absurd rfl (calm loops g1 g2)
    case siteResetStart => exact absurd rfl noReset
    case powerOn =>
      obtain rfl := Host.Outcome.next.inj h
      rw [Machine.powerOn, if_neg (by rw [running]; decide)]
      exact .of_same rfl rfl rfl
    case startUpLoadComplete =>
      obtain rfl := Host.Outcome.next.inj h
      rw [Machine.startUpLoadComplete, if_neg (by rw [running]; decide)]
      exact .of_same rfl rfl rfl
    case lossOfSupply =>
      obtain rfl := Host.Outcome.next.inj h
      rw [Machine.lossOfSupply, if_neg (by rw [running]; decide)] at stays
      cases stays
    case resetLineAssert =>
      obtain rfl := Host.Outcome.next.inj h
      revert stays
      rw [Machine.resetLineAssert, if_neg (c := s.phase = .off) (by rw [running]; decide)]
      split
      · exact fun _ => .of_same rfl rfl rfl
      · exact fun stays => by cases stays
    all_goals simp [changedBy] at mentions
  · have same : t.plant = s.plant := exec_same h (p := .plant) mentions
    rw [same]
    exact .of_same rfl rfl rfl

/-- Settles O32. -/
theorem dwellsAreRespected : Obligations.DwellsAreRespected := by
  unfold Obligations.DwellsAreRespected
  exact fun c s t h running stays calm noReset => (exec_respects h running stays calm noReset).dwells

end Sys2Proof.Machine
end

-- ==== Proofs: the cooling mode and the analog sample ====
section
namespace Sys2Proof.Machine

/-! ## The requests of the stages (R86, R87) -/

section
variable {q : Plant} {now : Nat}

/-- R86: a request, by the output's state and dwell. -/
theorem DwellOutput.ask_eq (o : DwellOutput) (dwell : Bool → Nat) (now : Nat) (b : Bool) :
    o.ask dwell now b = if o.on = b then { o with request := none }
      else if o.free dwell now then ⟨b, now, none⟩ else { o with request := some b } := by
  rw [DwellOutput.ask]
  exact if_congr eq_comm rfl rfl

theorem DwellOutput.free_eq {o : DwellOutput} {free : Bool}
    (h : free = true ↔ (o.lastChange + if o.on then 180000 else 300000) ≤ now) : o.free chillerDwell now = free := by
  rw [Bool.eq_iff_iff, DwellOutput.free_iff, h]
  rfl

/-- R86, R87: a request ON for stage 1. -/
theorem Plant.ask1_true : q.ask1 now true = { q with
    chiller1 := q.chiller1.ask chillerDwell now true
    chiller2 := if q.chiller1.on ∧ q.chiller2Follows then { q.chiller2 with request := none } else q.chiller2
    chiller2Follows := if q.chiller1.on ∧ q.chiller2Follows then false else q.chiller2Follows } := by
  simp only [Plant.ask1, if_true]
  split <;> rfl

/-- R86, R87: a request OFF for stage 1, which goes OFF with stage 2 or waits for it. -/
theorem Plant.ask1_false_one : (q.ask1 now false).chiller1 =
    if q.chiller1.on = false then { q.chiller1 with request := none }
    else if q.chiller1.free chillerDwell now ∧ (q.chiller2.on → q.chiller2.free chillerDwell now) then ⟨false, now, none⟩
    else { q.chiller1 with request := some false } := by
  simp only [Plant.ask1, Plant.stage1Off, DwellOutput.ask_eq, DwellOutput.change]
  grind

theorem Plant.ask1_false_two : (q.ask1 now false).chiller2 =
    if q.chiller1.on = true ∧ q.chiller1.free chillerDwell now = true then
      if q.chiller2.on = false then { q.chiller2 with request := none }
      else if q.chiller2.free chillerDwell now then ⟨false, now, none⟩
      else { q.chiller2 with request := some false }
    else q.chiller2 := by
  simp only [Plant.ask1, Plant.stage1Off, DwellOutput.change]
  grind

/-- R86, R87: a request for stage 2 takes along a stage 1 that waited for it. -/
theorem Plant.ask2_one (on : Bool) : (q.ask2 now on).chiller1 =
    if on = false ∧ q.chiller2.on = true ∧ q.chiller2.free chillerDwell now = true ∧ q.chiller1.on = true
      ∧ q.chiller1.request = some false ∧ q.chiller1.free chillerDwell now = true then ⟨false, now, none⟩
    else q.chiller1 := by
  simp only [Plant.ask2, Plant.stage2Off, DwellOutput.change]
  grind

theorem Plant.ask2_two (on : Bool) : (q.ask2 now on).chiller2 =
    if on = true ∧ q.chiller1.on = false then q.chiller2 else q.chiller2.ask chillerDwell now on := by
  simp only [Plant.ask2, Plant.stage2Off, DwellOutput.change, DwellOutput.ask_eq]
  grind

end

/-! ## The staging rule and the requests OFF (R89, R90) -/

section
variable {r : Plant} {p : Params} {now : Nat} {d : Int}

theorem stageRequest_on {onAt offBelow : Int} (h : onAt ≤ d) : stageRequest onAt offBelow (some d) = some true := if_pos h

theorem stageRequest_off {onAt offBelow : Int} (h : d < onAt) (h' : d < offBelow) :
    stageRequest onAt offBelow (some d) = some false := (if_neg (not_le.2 h)).trans (if_pos h')

theorem stageRequest_none {onAt offBelow : Int} (h : d < onAt) (h' : offBelow ≤ d) :
    stageRequest onAt offBelow (some d) = none := (if_neg (not_le.2 h)).trans (if_neg (not_lt.2 h'))

/-- R89: without a demand temperature neither stage is asked. -/
theorem Plant.staging_none (h : r.demand = none) : r.staging p now = r := by
  rw [Plant.staging, h]
  rfl

/-- R89: stage 1 is asked by its thresholds, then stage 2 by its own. -/
theorem Plant.staging_some (h : r.demand = some d) : r.staging p now =
    (r.askIf1 now (stageRequest p.chiller1On p.chiller1Off (some d))).askIf2 now
      (stageRequest p.chiller2On p.chiller2Off (some d)) := by
  rw [Plant.staging, h]

/-- R87: what a request for stage 2 makes of a stage 1 that did not wait for it. -/
theorem Plant.askIf2_one {q : Plant} (h : ¬(q.chiller2.on = true ∧ q.chiller2.free chillerDwell now = true
    ∧ q.chiller1.on = true ∧ q.chiller1.request = some false ∧ q.chiller1.free chillerDwell now = true))
    (request : Option Bool) : (q.askIf2 now request).chiller1 = q.chiller1 := by
  cases request with
  | none => rfl
  | some on => rw [Plant.askIf2, Plant.ask2_one, if_neg fun takes => h takes.2]

/-- R86, R87: stage 1 asked ON. -/
theorem Plant.staging_one_on (demand : r.demand = some d) (one : p.chiller1On ≤ d) :
    (r.staging p now).chiller1 = r.chiller1.ask chillerDwell now true := by
  rw [Plant.staging_some demand, stageRequest_on one, Plant.askIf1, Plant.ask1_true]
  refine Plant.askIf2_one (fun takes => ?_) _
  have waits : (r.chiller1.ask chillerDwell now true).request = some false := takes.2.2.2.1
  rw [DwellOutput.ask_eq] at waits
  grind

/-- R86, R87: stage 1 asked OFF, with the stage 2 it leaves. -/
theorem Plant.ask1_false_waits : ¬((r.ask1 now false).chiller2.on = true ∧ (r.ask1 now false).chiller2.free chillerDwell now = true
    ∧ (r.ask1 now false).chiller1.on = true ∧ (r.ask1 now false).chiller1.request = some false
    ∧ (r.ask1 now false).chiller1.free chillerDwell now = true) := by
  rw [Plant.ask1_false_one, Plant.ask1_false_two]
  simp only [DwellOutput.free]
  grind

theorem Plant.staging_one_off (demand : r.demand = some d) (one : d < p.chiller1On) (one' : d < p.chiller1Off) :
    (r.staging p now).chiller1 = (r.ask1 now false).chiller1 := by
  rw [Plant.staging_some demand, stageRequest_off one one', Plant.askIf1]
  exact Plant.askIf2_one Plant.ask1_false_waits _

/-- R87: stage 1 not asked, and taken along where it waited for stage 2. -/
theorem Plant.staging_one_kept (demand : r.demand = some d) (one : p.chiller1Off ≤ d) (one' : d < p.chiller1On) :
    (r.staging p now).chiller1 = if d < p.chiller2On ∧ d < p.chiller2Off ∧ r.chiller2.on = true
        ∧ r.chiller2.free chillerDwell now = true ∧ r.chiller1.on = true ∧ r.chiller1.request = some false
        ∧ r.chiller1.free chillerDwell now = true then ⟨false, now, none⟩ else r.chiller1 := by
  rw [Plant.staging_some demand, stageRequest_none one' one, Plant.askIf1]
  by_cases on : p.chiller2On ≤ d
  · rw [stageRequest_on on, Plant.askIf2, Plant.ask2_one, if_neg (by simp), if_neg (by omega)]
  · by_cases off : d < p.chiller2Off
    · rw [stageRequest_off (by omega) off, Plant.askIf2, Plant.ask2_one]
      grind
    · rw [stageRequest_none (by omega) (by omega), Plant.askIf2, if_neg (by omega)]

/-- R87: what a request for stage 1 leaves of a later request OFF for stage 2. -/
theorem Plant.askIf1_then_off (request : Option Bool) :
    (r.askIf1 now request).chiller2.ask chillerDwell now false = r.chiller2.ask chillerDwell now false := by
  rcases request with - | - | -
  · rfl
  · rw [Plant.askIf1, Plant.ask1_false_two]
    simp only [DwellOutput.ask_eq, DwellOutput.free]
    grind
  · rw [Plant.askIf1, Plant.ask1_true]
    simp only [DwellOutput.ask_eq, DwellOutput.free]
    grind

/-- R87: and of a request ON, where stage 1 is ON. -/
theorem Plant.askIf1_then_on (request : Option Bool) (on : (r.askIf1 now request).chiller1.on = true) :
    (r.askIf1 now request).chiller2.ask chillerDwell now true = r.chiller2.ask chillerDwell now true := by
  rcases request with - | - | -
  · rfl
  · rw [Plant.askIf1, Plant.ask1_false_one] at on
    rw [Plant.askIf1, Plant.ask1_false_two]
    simp only [DwellOutput.ask_eq, DwellOutput.free] at *
    grind
  · rw [Plant.askIf1, Plant.ask1_true]
    simp only [DwellOutput.ask_eq, DwellOutput.free]
    grind

/-- R87: a stage 1 that is OFF and stays it leaves stage 2 as it is. -/
theorem Plant.askIf1_idle (request : Option Bool) (off : r.chiller1.on = false) :
    (r.askIf1 now request).chiller2 = r.chiller2 := by
  rcases request with - | - | -
  · rfl
  · rw [Plant.askIf1, Plant.ask1_false_two, if_neg (by simp [off])]
  · rw [Plant.askIf1, Plant.ask1_true]
    simp [off]

/-- R87: stage 2 asked ON. -/
theorem Plant.staging_two_on (demand : r.demand = some d) (two : p.chiller2On ≤ d)
    (on : (r.staging p now).chiller1.on = true) :
    (r.staging p now).chiller2 = r.chiller2.ask chillerDwell now true := by
  rw [Plant.staging_some demand, stageRequest_on two] at *
  rw [Plant.askIf2, Plant.ask2_one, if_neg (by simp)] at on
  rw [Plant.askIf2, Plant.ask2_two, if_neg (by simp [on])]
  exact Plant.askIf1_then_on _ on

theorem Plant.staging_two_unasked (demand : r.demand = some d) (two : p.chiller2On ≤ d) (off : r.chiller1.on = false)
    (off' : (r.staging p now).chiller1.on = false) : (r.staging p now).chiller2 = r.chiller2 := by
  rw [Plant.staging_some demand, stageRequest_on two] at *
  rw [Plant.askIf2, Plant.ask2_one, if_neg (by simp)] at off'
  rw [Plant.askIf2, Plant.ask2_two, if_pos ⟨rfl, off'⟩]
  exact Plant.askIf1_idle _ off

/-- R86: stage 2 asked OFF. -/
theorem Plant.staging_two_off (demand : r.demand = some d) (two : d < p.chiller2On) (two' : d < p.chiller2Off) :
    (r.staging p now).chiller2 = r.chiller2.ask chillerDwell now false := by
  rw [Plant.staging_some demand, stageRequest_off two two', Plant.askIf2, Plant.ask2_two, if_neg (by simp)]
  exact Plant.askIf1_then_off _

/-- R87: stage 2 not asked, its pending OFF gone where a request ON for stage 1 cancels what R87 placed. -/
theorem Plant.staging_two_kept (demand : r.demand = some d) (two : p.chiller2Off ≤ d) (two' : d < p.chiller2On)
    (one : p.chiller1Off ≤ d ∨ r.chiller1.on = false) : (r.staging p now).chiller2 =
      if p.chiller1On ≤ d ∧ r.chiller1.on = true ∧ r.chiller2Follows = true then { r.chiller2 with request := none }
      else r.chiller2 := by
  rw [Plant.staging_some demand, stageRequest_none two' two, Plant.askIf2]
  by_cases on : p.chiller1On ≤ d
  · rw [stageRequest_on on, Plant.askIf1, Plant.ask1_true]
    grind
  · rw [if_neg fun takes => on takes.1]
    rcases one with off | idle
    · rw [stageRequest_none (by omega) off, Plant.askIf1]
    · exact Plant.askIf1_idle _ idle

/-- R87: stage 2 with a stage 1 that goes OFF, where stage 2's own rule does not ask for another thing. -/
theorem Plant.staging_two_alone (demand : r.demand = some d) (one : d < p.chiller1On) (one' : d < p.chiller1Off)
    (on : r.chiller1.on = true) (free : r.chiller1.free chillerDwell now = true) (off : r.chiller2.on = false) :
    (r.staging p now).chiller2 = { r.chiller2 with request := none } := by
  rw [Plant.staging_some demand, stageRequest_off one one', Plant.askIf1]
  have first := Plant.ask1_false_one (q := r) (now := now)
  have second := Plant.ask1_false_two (q := r) (now := now)
  rcases stageRequest p.chiller2On p.chiller2Off (some d) with - | - | -
  · rw [Plant.askIf2, second]
    grind
  · rw [Plant.askIf2, Plant.ask2_two, second, DwellOutput.ask_eq]
    grind
  · rw [Plant.askIf2, Plant.ask2_two, first, second, DwellOutput.ask_eq]
    grind

theorem Plant.staging_two_both (demand : r.demand = some d) (one : d < p.chiller1On) (one' : d < p.chiller1Off)
    (on : r.chiller1.on = true) (free : r.chiller1.free chillerDwell now = true) (on2 : r.chiller2.on = true)
    (free2 : r.chiller2.free chillerDwell now = true) : (r.staging p now).chiller2 = ⟨false, now, none⟩ := by
  rw [Plant.staging_some demand, stageRequest_off one one', Plant.askIf1]
  have first := Plant.ask1_false_one (q := r) (now := now)
  have second := Plant.ask1_false_two (q := r) (now := now)
  rcases stageRequest p.chiller2On p.chiller2Off (some d) with - | - | -
  · rw [Plant.askIf2, second]
    grind
  · rw [Plant.askIf2, Plant.ask2_two, second, DwellOutput.ask_eq]
    grind
  · rw [Plant.askIf2, Plant.ask2_two, first, second, DwellOutput.ask_eq]
    grind

theorem Plant.staging_two_waits (demand : r.demand = some d) (one : d < p.chiller1On) (one' : d < p.chiller1Off)
    (on : r.chiller1.on = true) (free : r.chiller1.free chillerDwell now = true) (on2 : r.chiller2.on = true)
    (busy : r.chiller2.free chillerDwell now = false) (two : d < p.chiller2On) :
    (r.staging p now).chiller2 = { r.chiller2 with request := some false } := by
  by_cases two' : d < p.chiller2Off
  · rw [Plant.staging_two_off demand two two', DwellOutput.ask_eq]
    simp [on2, busy]
  · rw [Plant.staging_some demand, stageRequest_off one one', Plant.askIf1, stageRequest_none two (by omega), Plant.askIf2,
      Plant.ask1_false_two]
    simp [on, free, on2, busy]

/-- R90: both asked OFF. -/
theorem Plant.chillersOff_one : (r.chillersOff now).chiller1 = (r.ask1 now false).chiller1 := by
  rw [Plant.chillersOff, Plant.ask2_one, if_neg fun takes => Plant.ask1_false_waits takes.2]

theorem Plant.chillersOff_two : (r.chillersOff now).chiller2 = r.chiller2.ask chillerDwell now false := by
  rw [Plant.chillersOff, Plant.ask2_two, if_neg (by simp)]
  exact Plant.askIf1_then_off (some false)

end

/-! ## The mode (R81) -/

theorem Criterion.recent_iff (k : Criterion) (now : Nat) : k.recent now = true ↔
    k.active = true ∨ ∃ x, k.cleared = some x ∧ now < x + 120000 := by
  rw [Criterion.recent]
  cases h : k.cleared <;> simp [confirmationWindow]
  exact or_congr Iff.rfl decide_eq_true_iff

section
variable (s : State)

theorem State.venting_iff : s.venting = true ↔ s.links.pnl.taken = some .ventRequest := decide_eq_true_iff

theorem State.runWanted_iff : s.runWanted = true ↔
    s.strings.one.state.apart = false ∨ s.strings.two.state.apart = false
      ∨ (∃ d, s.plant.demand = some d ∧ s.params.runThreshold ≤ d) ∨ ∃ x, s.coldest = some x ∧ x < s.params.heaterOn := by
  rw [State.runWanted]
  cases demand : s.plant.demand <;> cases cold : s.coldest <;> simp [or_assoc]

/-- R81: the mode table, its rows for a fire and the others. -/
theorem State.chosenMode_burning {s : State} (fire : s.fire.stage.fire = true) :
    s.chosenMode = if s.venting then .purge else .fireHold := if_pos fire

theorem State.chosenMode_calm {s : State} (calm : s.fire.stage.fire = false) : s.chosenMode =
    if (s.fire.stage = .alert ∧ s.fire.gas.recent s.uptime = true) ∨ s.venting = true then .purge
    else if s.runWanted then .run else .idle := if_neg (by simp [calm])

end

/-! ## The outputs (R82 to R85, R89 to R91) -/

section
variable (q : Plant) (p : Params) (now : Nat) (coldest : Option Int) (m : CoolingMode)

/-- R82: a mode noted, with the duties that go with it. -/
def Plant.noted : Plant :=
  { q with mode := m, prescaler := p.prescaler.toNat, fanDuty := fanDutyOf p q.demand m, pumpDuty := pumpDutyOf p m }

theorem Plant.ask1_frame (on : Bool) : q.ask1 now on = { q with
    chiller1 := (q.ask1 now on).chiller1, chiller2 := (q.ask1 now on).chiller2
    chiller2Follows := (q.ask1 now on).chiller2Follows } := by
  unfold Plant.ask1 Plant.stage1Off
  repeat' split
  all_goals rfl

theorem Plant.ask2_frame (on : Bool) : q.ask2 now on = { q with
    chiller1 := (q.ask2 now on).chiller1, chiller2 := (q.ask2 now on).chiller2
    chiller2Follows := (q.ask2 now on).chiller2Follows } := by
  unfold Plant.ask2 Plant.stage2Off
  repeat' split
  all_goals rfl

/-- R82: the requests of a mode change the stages alone. -/
theorem Plant.chillerRule_frame : q.chillerRule p now m = { q with
    chiller1 := (q.chillerRule p now m).chiller1, chiller2 := (q.chillerRule p now m).chiller2
    chiller2Follows := (q.chillerRule p now m).chiller2Follows } := by
  have one (r : Option Bool) (q : Plant) : q.askIf1 now r = { q with
      chiller1 := (q.askIf1 now r).chiller1, chiller2 := (q.askIf1 now r).chiller2
      chiller2Follows := (q.askIf1 now r).chiller2Follows } := by
    cases r
    · rfl
    · exact Plant.ask1_frame q now _
  have two (r : Option Bool) (q : Plant) : q.askIf2 now r = { q with
      chiller1 := (q.askIf2 now r).chiller1, chiller2 := (q.askIf2 now r).chiller2
      chiller2Follows := (q.askIf2 now r).chiller2Follows } := by
    cases r
    · rfl
    · exact Plant.ask2_frame q now _
  have both (r r' : Option Bool) : (q.askIf1 now r).askIf2 now r' = { q with
      chiller1 := ((q.askIf1 now r).askIf2 now r').chiller1, chiller2 := ((q.askIf1 now r).askIf2 now r').chiller2
      chiller2Follows := ((q.askIf1 now r).askIf2 now r').chiller2Follows } := by
    rw [two r' (q.askIf1 now r), one r q]
  cases m with
  | run => exact both _ _
  | idle | purge | fireHold => exact both (some false) (some false)

/-- R82, R91: the heater of a mode. -/
def DwellOutput.heaterIn (o : DwellOutput) (p : Params) (now : Nat) (coldest : Option Int) : CoolingMode → DwellOutput
  | .idle | .run => match heaterRequest p coldest with
    | some b => o.ask heaterDwellOf now b
    | none => o
  | _ => o.holdOff now

theorem Plant.heaterIn_eq : q.heaterIn p now coldest m = { q with heater := q.heater.heaterIn p now coldest m } := by
  unfold Plant.heaterIn Plant.heaterRule DwellOutput.heaterIn
  cases m <;> dsimp only <;> cases heaterRequest p coldest <;> rfl

/-- R82 to R85: every output that a mode sets. -/
theorem Plant.setOutputs_eq : q.setOutputs p now coldest m = { q with
    mode := m
    prescaler := p.prescaler.toNat
    fanDuty := fanDutyOf p q.demand m
    pumpDuty := pumpDutyOf p m
    chiller1 := ((q.noted p m).chillerRule p now m).chiller1
    chiller2 := ((q.noted p m).chillerRule p now m).chiller2
    chiller2Follows := ((q.noted p m).chillerRule p now m).chiller2Follows
    heater := q.heater.heaterIn p now coldest m
    flowTimer := if (q.flow = .ok ∧ 0 < pumpDutyOf p m ∧ q.flowInput = .noFlow)
        ∨ (q.flow = .pumpFault ∧ q.flowInput = .flow) then some (q.flowTimer.getD (now + 5000)) else none } := by
  show (((q.noted p m).chillerRule p now m).heaterIn p now coldest m).judgeFlow now = _
  rw [Plant.judgeFlow_eq, Plant.heaterIn_eq, Plant.chillerRule_frame]
  rfl

/-- R91: the heater's request, by the coldest cell. -/
theorem heaterRequest_some {b : Bool} (cold : b = true ↔ ∃ x, coldest = some x ∧ x < p.heaterOn)
    (asks : b = true ∨ coldest = none ∨ ∃ x, coldest = some x ∧ p.heaterOff ≤ x) : heaterRequest p coldest = some b := by
  cases coldest with
  | none =>
    have off : b = false := by simpa using cold
    rw [off]
    rfl
  | some x =>
    rw [heaterRequest]
    simp only [Option.some.injEq, exists_eq_left', reduceCtorEq, false_or] at cold asks
    grind

theorem heaterRequest_none {x : Int} (h : p.heaterOn ≤ x) (h' : x < p.heaterOff) : heaterRequest p (some x) = none := by
  rw [heaterRequest, if_neg (by omega), if_neg (by omega)]

end

/-! ## Notices posted one after the other (R167) -/

section
variable {n : NoticeKind} {s t u : State}

/-- R167: what a posting makes of a kind depends on that kind alone. -/
theorem LinkState.post_notice_congr {k j : LinkState} (h : k.notice n = j.notice n) (d : NoticeDetail) :
    (k.post n d).notice n = (j.post n d).notice n := by
  simp only [LinkState.notice, LinkState.post, vmod_same] at h ⊢
  rw [h]

theorem LinkState.posts_notice_congr {k j : LinkState} (h : k.notice n = j.notice n) (details : List NoticeDetail) :
    (details.foldl (fun k d => k.post n d) k).notice n = (details.foldl (fun k d => k.post n d) j).notice n := by
  induction details generalizing k j with
  | nil => exact h
  | cons d rest ih => exact ih (LinkState.post_notice_congr h d)

theorem State.postsAll.none (h : s.SameNotice n t) : s.postsAll t n [] := h

theorem State.postsAll.one (s : State) (n : NoticeKind) (d : NoticeDetail) : s.postsAll (s.post n d) n [d] := fun l => by
  rw [State.post_link]
  rfl

theorem State.postsAll.append {details details' : List NoticeDetail} (h : s.postsAll t n details)
    (h' : t.postsAll u n details') : s.postsAll u n (details ++ details') := fun l => by
  rw [List.foldl_append]
  exact (h' l).trans (LinkState.posts_notice_congr (h l) details')

theorem State.postsAll.of_same {details : List NoticeDetail} (h : s.postsAll t n details) (same : t.SameNotice n u) :
    s.postsAll u n details := fun l => (same l).trans (h l)

theorem State.postsAll.of_before {details : List NoticeDetail} (same : s.SameNotice n t) (h : t.postsAll u n details) :
    s.postsAll u n details := (State.postsAll.none same).append h

/-- A posting made only in some case. -/
theorem State.postsAll.ite {c : Prop} [Decidable c] (s : State) (n : NoticeKind) (d : NoticeDetail) :
    s.postsAll (if c then s.post n d else s) n (if c then [d] else []) := by
  split
  · exact .one s n d
  · exact .none (.of_links rfl)

end

/-! ## The analog sample (R80) -/

section
variable {s : State} {inlet outlet container outside : Int}

/-- R80: the part at the sample, its inputs noted and its demand temperature formed. -/
def State.sampleNoted (s : State) (inlet outlet container outside : Int) : State :=
  ({ s.atTime s.clocks.sample with clocks := { s.clocks with sample := s.clocks.sample + 500 } }.storeInputs inlet outlet
    container outside).formDemand

theorem analogSample_runs (running : s.phase = .running) : exec (.analogSample inlet outlet container outside) s =
    .next ((s.sampleNoted inlet outlet container outside).modeChoice).deliverCd :=
  congrArg Host.Outcome.next (if_pos running)

theorem State.sampleNoted_frame (s : State) (inlet outlet container outside : Int) :
    s.sampleNoted inlet outlet container outside = { s with
      uptime := max s.uptime s.clocks.sample
      clocks := { s.clocks with sample := s.clocks.sample + 500 }
      plant := (s.sampleNoted inlet outlet container outside).plant
      links := (s.sampleNoted inlet outlet container outside).links } := by
  refine State.eq_iff.2 ?_
  simp [State.sampleNoted, State.atTime]

theorem State.sampleNoted_plant (s : State) (inlet outlet container outside : Int) :
    (s.sampleNoted inlet outlet container outside).plant = { s.plant with
      inlet := plantInput inlet
      outlet := plantInput outlet
      container := plantInput container
      outside := plantInput outside
      demand := higher (plantInput outlet).value? s.hottest } := by
  have chains (u : State) : (u.storeInputs inlet outlet container outside).hottest = u.hottest := by
    simp [State.hottest, State.chain]
  rw [State.sampleNoted, State.formDemand, State.modPlant, chains, State.storeInputs_plant]
  rfl

theorem State.sampleNoted_quietLinks (s : State) (inlet outlet container outside : Int) :
    (s.sampleNoted inlet outlet container outside).quietLinks = s.quietLinks := by
  rw [State.sampleNoted, State.formDemand_quietLinks, State.storeInputs_quietLinks]
  rfl

theorem State.sampleNoted_posts (s : State) (inlet outlet container outside : Int) :
    s.postsAll (s.sampleNoted inlet outlet container outside) .fault
      ((if plantInput inlet = .fault ∧ s.plant.inlet ≠ .fault then [.inputFault .inlet] else [])
        ++ (if plantInput outlet = .fault ∧ s.plant.outlet ≠ .fault then [.inputFault .outlet] else [])
        ++ (if plantInput container = .fault ∧ s.plant.container ≠ .fault then [.inputFault .container] else [])
        ++ (if plantInput outside = .fault ∧ s.plant.outside ≠ .fault then [.inputFault .outside] else [])) :=
  (((((State.postsAll.ite _ _ _).append (.ite _ _ _)).append (.ite _ _ _)).append (.ite _ _ _)).of_same
    (.of_links rfl)).of_before (.of_links rfl)

/-- R80 to R85: the plant after the sample. -/
theorem State.sampled_plant (u : State) : u.modeChoice.deliverCd.plant
    = u.plant.setOutputs u.params u.uptime u.coldest u.chosenMode := by
  rw [State.deliverCd, State.updateCd, (State.updateTable_frame _ _).2.2.2.2.2.2.2.2.2.1]
  rfl

/-- R93: CD after the sample. -/
theorem State.sampled_table (u : State) : u.modeChoice.deliverCd.envelope.table = { u.envelope.table with
    cd := .all (coolantDerate u.params u.plant.inlet u.plant.flow) } := by
  rw [State.deliverCd, State.updateCd, State.updateTable_table]
  have plant : u.modeChoice.plant = u.plant.setOutputs u.params u.uptime u.coldest u.chosenMode := rfl
  rw [plant, Plant.setOutputs_eq]
  rfl

/-- R82, R93: what the end of the sample changes. -/
theorem State.sampled_frame (u : State) : u.modeChoice.deliverCd = { u with
    plant := u.modeChoice.deliverCd.plant
    envelope := u.modeChoice.deliverCd.envelope
    links := u.modeChoice.deliverCd.links } := by
  refine State.eq_iff.2 ?_
  simp [State.deliverCd]

/-- R93: the coolant derate, by the inlet stored. -/
theorem coolantDerate_eq {p : Params} {flow : FlowState} {n : Nat} (fault : plantInput inlet = .fault → n = 0)
    (value : ∀ v d, plantInput inlet = .value v → d = interpolate v [⟨p.derateStart, 4000⟩, ⟨p.derateStop, 0⟩] →
      n = (match flow with
        | .ok => d.toNat
        | .pumpFault => (min d p.pumpFaultCap).toNat)) : coolantDerate p (plantInput inlet) flow = n := by
  revert fault value
  rw [plantInput]
  split
  · intro fault value
    rw [value _ _ rfl rfl]
    cases flow <;> rfl
  · intro fault value
    exact (fault rfl).symm

end

/-- Settles O30. -/
theorem Settled.analogSample : Obligations.AnalogSample := by
  unfold Obligations.AnalogSample
  intro inlet outlet container outside s running p vent purge wanted now hp hnow hvent hpurge
  refine ⟨_, analogSample_runs running, ?_⟩
  have frame := s.sampleNoted_frame inlet outlet container outside
  have noted := s.sampleNoted_plant inlet outlet container outside
  have quiet := s.sampleNoted_quietLinks inlet outlet container outside
  have posts := s.sampleNoted_posts inlet outlet container outside
  generalize s.sampleNoted inlet outlet container outside = u at *
  have params : u.params = p := by rw [hp, frame]; rfl
  have time : u.uptime = now := by rw [hnow, frame]
  have cold : u.coldest = s.coldest := by rw [frame]; rfl
  have fire : u.fire = s.fire := by rw [frame]
  have strings : u.strings = s.strings := by rw [frame]
  have table := u.sampled_table
  have plant := u.sampled_plant
  have vents : u.venting = true ↔ vent := by
    rw [hvent, State.venting_iff, show u.links.pnl.taken = s.links.pnl.taken from
      LinkState.taken_of_quiet (State.quiet_link quiet .pnl)]
  have wants := u.runWanted_iff
  have burning := u.chosenMode_burning
  have calm := u.chosenMode_calm
  have gas := u.fire.gas.recent_iff u.uptime
  have base : u.envelope.table = s.envelope.table := by rw [frame]
  rw [params, time, cold, Plant.setOutputs_eq] at plant
  rw [params, base] at table
  rw [params, cold, strings] at wants
  rw [fire, time] at gas
  rw [fire] at burning
  rw [fire, time] at calm
  have sent : s.postsAll u.modeChoice.deliverCd .fault _ :=
    posts.of_same (.trans (t := u.modeChoice) (.of_links rfl) (.updateTable (by decide) _ _))
  have eq := u.sampled_frame
  generalize u.modeChoice.deliverCd = t at *
  rw [frame] at eq
  have now' : max s.uptime s.clocks.sample = now := hnow.symm
  rw [now'] at eq
  generalize u.chosenMode = m at *
  generalize hr : u.plant.noted p m = r at *
  have mode : t.plant.mode = m := by rw [plant]
  have fans : t.plant.fanDuty = fanDutyOf p u.plant.demand m := by rw [plant]
  have pump : t.plant.pumpDuty = pumpDutyOf p m := by rw [plant]
  have inlet' : t.plant.inlet = plantInput inlet := by rw [plant, noted]
  have outlet' : t.plant.outlet = plantInput outlet := by rw [plant, noted]
  have container' : t.plant.container = plantInput container := by rw [plant, noted]
  have outside' : t.plant.outside = plantInput outside := by rw [plant, noted]
  have demand : t.plant.demand = u.plant.demand := by rw [plant]
  have demand' : t.plant.demand = higher (plantInput outlet).value? s.hottest := by rw [plant, noted]
  have heater : t.plant.heater = s.plant.heater.heaterIn p now s.coldest m := by rw [plant, noted]
  have one : t.plant.chiller1 = (r.chillerRule p now m).chiller1 := by rw [plant]
  have two : t.plant.chiller2 = (r.chillerRule p now m).chiller2 := by rw [plant]
  have flows : t.plant.flow = s.plant.flow ∧ t.plant.flowInput = s.plant.flowInput := by rw [plant, noted]; exact ⟨rfl, rfl⟩
  have timer : t.plant.flowTimer = if (s.plant.flow = .ok ∧ 0 < pumpDutyOf p m ∧ s.plant.flowInput = .noFlow)
      ∨ (s.plant.flow = .pumpFault ∧ s.plant.flowInput = .flow) then some (s.plant.flowTimer.getD (now + 5000)) else none := by
    rw [plant, noted]
  have prescaler : t.plant.prescaler = p.prescaler.toNat := by rw [plant]
  have stage1 : r.chiller1 = s.plant.chiller1 := by rw [← hr, noted]; rfl
  have stage2 : r.chiller2 = s.plant.chiller2 := by rw [← hr, noted]; rfl
  have follows : r.chiller2Follows = s.plant.chiller2Follows := by rw [← hr, noted]; rfl
  have asked : r.demand = t.plant.demand := by rw [← hr, demand]; rfl
  rw [noted] at table
  clear plant hr
  generalize t.plant = q at *
  refine ⟨inlet', outlet', container', outside', demand'.trans ?_, fun hwanted => ?_, prescaler, fun m' => ?_, fun m' => ?_,
    fun m' => ?_, fun m' => ?_, fun m' => ?_, fun m' => ⟨fun b hb asks => ?_, fun x hx low high => ?_⟩,
    fun free1 free2 hf1 hf2 => ⟨fun m' none => ?_, fun d m' hd => ?_, fun m' => ?_⟩, flows.1, flows.2, ?_, fun n fault value => ?_,
    ?_, eq⟩
  · rw [plantInput]
    by_cases valid : -400 ≤ outlet ∧ outlet ≤ 1500
    · rw [if_pos valid, if_pos (show tempLow ≤ outlet ∧ outlet ≤ tempHigh from valid)]
      cases s.hottest <;> rfl
    · rw [if_neg valid, if_neg (show ¬(tempLow ≤ outlet ∧ outlet ≤ tempHigh) from valid)]
      rfl
  · rw [mode]
    have wants := wants.trans ((demand ▸ hwanted).symm)
    have purges : ((s.fire.stage = .alert ∧ s.fire.gas.recent now = true) ∨ u.venting = true) ↔ purge := by
      rw [hpurge, vents, gas]
      exact or_comm
    refine ⟨fun fire vent => ?_, fun fire vent => ?_, fun fire purge => ?_, fun fire purge wanted => ?_, fun fire purge wanted => ?_⟩
    · rw [burning fire, if_pos (vents.2 vent)]
    · rw [burning fire, if_neg fun v => vent (vents.1 v)]
    · rw [calm fire, if_pos (purges.2 purge)]
    · rw [calm fire, if_neg fun v => purge (purges.1 v), if_pos (wants.2 wanted)]
    · rw [calm fire, if_neg fun v => purge (purges.1 v), if_neg fun v => wanted (wants.1 v)]
  · rw [fans, pump, mode.symm.trans m']
    exact ⟨rfl, rfl⟩
  · rw [fans, pump, mode.symm.trans m']
    exact ⟨rfl, rfl⟩
  · rw [fans, pump, mode.symm.trans m']
    exact ⟨rfl, rfl⟩
  · rw [fans, pump, mode.symm.trans m', demand]
    refine ⟨rfl, fun none => by rw [none]; rfl, fun d v hd hv => ?_⟩
    rw [hd, hv]
    rfl
  · rw [heater]
    rcases m' with m' | m' <;> rw [mode.symm.trans m'] <;> rfl
  · have rule : s.plant.heater.heaterIn p now s.coldest m = s.plant.heater.ask heaterDwellOf now b := by
      rcases m' with m' | m' <;> rw [mode.symm.trans m', DwellOutput.heaterIn, heaterRequest_some p s.coldest hb asks]
    rw [heater, rule, DwellOutput.ask_eq]
    simp only [DwellOutput.free_iff]
    rfl
  · rw [heater, hx]
    rcases m' with m' | m' <;> rw [mode.symm.trans m', DwellOutput.heaterIn, heaterRequest_none p low high]
  · rw [one, two, mode.symm.trans m', ← stage1, ← stage2]
    have still : r.chillerRule p now .run = r := Plant.staging_none (asked.trans none)
    rw [still]
    exact ⟨rfl, rfl⟩
  · have run : r.chillerRule p now m = r.staging p now := by rw [mode.symm.trans m']; rfl
    have free1' : r.chiller1.free chillerDwell now = free1 := DwellOutput.free_eq (stage1 ▸ hf1)
    have free2' : r.chiller2.free chillerDwell now = free2 := DwellOutput.free_eq (stage2 ▸ hf2)
    have d' := asked.trans hd
    rw [run] at one two
    rw [one, two, ← stage1, ← stage2, ← follows, ← free1', ← free2']
    refine ⟨fun on => ?_, fun off off' => ⟨fun idle => ?_, fun runs => ?_, fun runs free idle => ?_, fun runs free runs2 free2 => ?_,
      fun runs free runs2 busy low => ?_⟩, fun high low => ?_, fun on runs => ?_, fun on idle idle' => ?_, fun off off' => ?_,
      fun high low one => ?_⟩
    · exact (Plant.staging_one_on d' on).trans (DwellOutput.ask_eq ..)
    · rw [Plant.staging_one_off d' off off', Plant.ask1_false_one, if_pos idle]
    · rw [Plant.staging_one_off d' off off', Plant.ask1_false_one, if_neg (by simp [runs])]
    · exact Plant.staging_two_alone d' off off' runs free idle
    · exact Plant.staging_two_both d' off off' runs free runs2 free2
    · exact Plant.staging_two_waits d' off off' runs free runs2 busy low
    · exact Plant.staging_one_kept d' high low
    · exact (Plant.staging_two_on d' on runs).trans (DwellOutput.ask_eq ..)
    · exact Plant.staging_two_unasked d' on idle idle'
    · exact (Plant.staging_two_off d' off off').trans (DwellOutput.ask_eq ..)
    · exact Plant.staging_two_kept d' high low one
  · have off : r.chillerRule p now m = r.chillersOff now := by
      rw [mode] at m'
      cases m <;> first | rfl | exact absurd rfl m'
    have free1' : r.chiller1.free chillerDwell now = free1 := DwellOutput.free_eq (stage1 ▸ hf1)
    have free2' : r.chiller2.free chillerDwell now = free2 := DwellOutput.free_eq (stage2 ▸ hf2)
    rw [one, two, off, ← stage1, ← stage2, ← free1', ← free2', Plant.chillersOff_one, Plant.ask1_false_one,
      Plant.chillersOff_two, DwellOutput.ask_eq]
    exact ⟨rfl, rfl⟩
  · rw [timer, pump]
  · rw [table]
    rw [inlet'] at fault value
    rw [coolantDerate_eq fault value]
    rfl
  · rw [inlet', outlet', container', outside']
    exact sent

end Sys2Proof.Machine
end

-- ==== Proofs: the isolation timer and the return to NORMAL ====
section
namespace Sys2Proof.Machine

section
variable {s : State}

/-- R108: what keeps the container from being isolated, and when nothing does. -/
theorem State.isolationGaps_nil : s.isolationGaps = [] ↔ ∀ c, (s.string c).state.apart = true ∧ (s.string c).mainInput = .opened
    ∧ (s.string c).prechargeInput = .opened ∧ s.permit.breaker = .opened := by
  have input (x : Contact) (g : IsolationGap) : (if x = .closed then [g] else []) = [] ↔ x = .opened := by cases x <;> simp
  have closed (k : StringController) (c : Str) :
      k.closedInputs c = [] ↔ k.mainInput = .opened ∧ k.prechargeInput = .opened := by
    rw [StringController.closedInputs, List.append_eq_nil_iff, input, input]
  have apart (k : StringController) (c : Str) : k.stringIn c = [] ↔ k.state.apart = true := by
    rw [StringController.stringIn]
    split <;> simp_all
  simp only [State.isolationGaps, List.append_eq_nil_iff, closed, apart, input]
  refine ⟨fun ⟨⟨⟨⟨one, two⟩, one'⟩, two'⟩, breaker⟩ c => ?_, fun h => ?_⟩
  · cases c
    · exact ⟨one', one.1, one.2, breaker⟩
    · exact ⟨two', two.1, two.2, breaker⟩
  · exact ⟨⟨⟨⟨⟨(h .one).2.1, (h .one).2.2.1⟩, (h .two).2.1, (h .two).2.2.1⟩, (h .one).1⟩, (h .two).1⟩, (h .one).2.2.2⟩

/-- R103, R110: no class is recent and the panel shows no alarm. -/
theorem FireUnit.recentClasses_nil (f : FireUnit) (now : Nat) : f.recentClasses now = [] ↔
    ∀ k, (f.criterion k).active = false ∧ ∀ x, (f.criterion k).cleared = some x → x + 120000 ≤ now := by
  rw [List.eq_nil_iff_forall_not_mem]
  refine forall_congr' fun k => ?_
  rw [FireUnit.mem_recentClasses]
  grind

theorem FireUnit.resetConditions_iff (f : FireUnit) (now : Nat) : f.resetConditions now = true ↔
    f.panelCode ≠ some .panelAlarm
      ∧ ∀ k, (f.criterion k).active = false ∧ ∀ x, (f.criterion k).cleared = some x → x + 120000 ≤ now := by
  rw [FireUnit.resetConditions, Bool.and_eq_true, List.isEmpty_iff, FireUnit.recentClasses_nil, decide_eq_true_eq]
  exact and_comm

/-- R103: an active class is recent. -/
theorem FireUnit.activeClasses_nil {f : FireUnit} {now : Nat} (h : f.recentClasses now = []) : f.activeClasses = [] := by
  rw [FireUnit.recentClasses_nil] at h
  rw [List.eq_nil_iff_forall_not_mem]
  intro k active
  rw [FireUnit.mem_activeClasses, (h k).1] at active
  cases active

/-- R81: a mode choice sets the mode it chose. -/
theorem State.modeChoice_mode (s : State) : s.modeChoice.plant.mode = s.chosenMode := by
  have plant : s.modeChoice.plant = s.plant.setOutputs s.params s.uptime s.coldest s.chosenMode := rfl
  rw [plant, Plant.setOutputs_eq]

/-- R81: what the row RUN looks at. -/
theorem State.runWanted_congr {t : State} (strings : t.strings = s.strings) (demand : t.plant.demand = s.plant.demand)
    (config : t.config = s.config) (cold : t.coldest = s.coldest) : t.runWanted = s.runWanted := by
  rw [State.runWanted, State.runWanted, strings, demand, cold, State.params, State.params, config]

/-- R104: a return to NORMAL freezes nothing and empties no set. -/
theorem State.enterStage_normal (s : State) :
    s.enterStage .normal = (s.modFire fun f => f.enter .normal s.uptime).postStage s.fire.stage := by
  have freeze (u : State) : u.orderFreeze s s.fire.stage .normal = u := by
    cases h : s.fire.stage <;> rfl
  have raises : raised s.fire.stage .normal = false := by cases s.fire.stage <;> rfl
  rw [State.enterStage, raises, freeze]
  rfl

/-- R110: what the mode choice of a return to NORMAL sees. -/
theorem State.chosenMode_normal {t : State} (stage : t.fire.stage = .normal)
    (links : t.links.pnl.taken = s.links.pnl.taken) (wanted : t.runWanted = s.runWanted) : t.chosenMode =
    if s.links.pnl.taken = some .ventRequest then .purge else if s.runWanted then .run else .idle := by
  rw [State.chosenMode_calm (by rw [stage]; rfl), wanted, stage]
  refine if_congr ?_ rfl rfl
  rw [State.venting_iff, links]
  simp

theorem fsRow_normal (p : Params) (degraded : Bool) : fsRow p .normal degraded =
    if degraded then .both (min 4000 p.degradedCap.toNat) (min 4000 p.degradedCap.toNat) else .both 4000 4000 := rfl

section
variable (s)

theorem State.changeStage_normal_table : (s.changeStage .normal).envelope.table =
    { s.envelope.table with fs := fsRow s.params .normal s.fire.degraded } := by
  obtain ⟨n, e | e⟩ := State.changeStage_plain (confirmedEntry_normal s.fire.stage) <;> rw [e]
  · simp [State.updateFs]
  · simp [State.updateFs]

theorem State.changeStage_normal_mode : (s.changeStage .normal).plant.mode =
    if s.links.pnl.taken = some .ventRequest then .purge else if s.runWanted then .run else .idle := by
  have stage : (s.enterStage .normal).fire.stage = .normal := by rw [State.enterStage_fire]; rfl
  have taken (u : State) (quiet : u.quietLinks = s.quietLinks) : u.links.pnl.taken = s.links.pnl.taken :=
    LinkState.taken_of_quiet (State.quiet_link quiet .pnl)
  have wanted (u : State) (strings : u.strings = s.strings) (plant : u.plant = s.plant) (config : u.config = s.config)
      (chains : u.chains = s.chains) : u.runWanted = s.runWanted :=
    State.runWanted_congr strings (by rw [plant]) config (by simp only [State.coldest, State.chain, chains])
  have chains : (s.enterStage .normal).chains = s.chains := by rw [State.enterStage_normal]; simp [State.modFire]
  obtain ⟨n, e | e⟩ := State.changeStage_plain (confirmedEntry_normal s.fire.stage) <;> rw [e]
  · exact (State.modeChoice_mode _).trans (State.chosenMode_normal (by simpa using stage) (taken _ (by simp [State.updateFs]))
      (wanted _ (by simp) (by simp) (by simp) (by simpa using chains)))
  · have kept (u : State) (row : Row) : (u.updateFs row).plant = u.plant := by simp
    show ((State.modeChoice _).updateFs _).plant.mode = _
    rw [kept]
    exact (State.modeChoice_mode _).trans (State.chosenMode_normal stage (taken _ (by simp))
      (wanted _ (by simp) (by simp) (by simp) chains))

theorem State.changeStage_normal_frame : s.changeStage .normal = { s with
    fire := (s.changeStage .normal).fire
    envelope := (s.changeStage .normal).envelope
    plant := (s.changeStage .normal).plant
    links := (s.changeStage .normal).links
    choices := (s.changeStage .normal).choices } := by
  obtain ⟨n, e | e⟩ := State.changeStage_plain (confirmedEntry_normal s.fire.stage) <;>
    refine State.eq_iff.2 ?_ <;> rw [e, State.enterStage_normal] <;> simp [State.modFire]

/-- R104: the notice of a return to NORMAL. -/
theorem State.changeStage_normal_posts (calm : s.fire.recentClasses s.uptime = []) :
    s.posts (s.changeStage .normal) .fireStage (.fireStage .normal s.fire.stage [] []) := by
  have entered : s.enterStage .normal = (s.modFire fun f => f.enter .normal s.uptime).post .fireStage
      (.fireStage .normal s.fire.stage s.fire.activeClasses (s.fire.recentClasses s.uptime)) := s.enterStage_normal
  rw [calm, FireUnit.activeClasses_nil calm] at entered
  have posted {u : State} {n : Nat} (h : (s.enterStage .normal).SameNotice .fireStage u) :
      s.posts { u with choices := n } .fireStage (.fireStage .normal s.fire.stage [] []) := by
    rw [entered] at h
    exact State.posts_of_before (.of_links rfl) (State.posts_of_same h)
  have chosen (u : State) : u.SameNotice .fireStage u.modeChoice := .of_links rfl
  have noted (u : State) (row : Row) : u.SameNotice .fireStage (u.updateFs row) := .updateTable (by decide) _ _
  obtain ⟨n, e | e⟩ := State.changeStage_plain (confirmedEntry_normal s.fire.stage) <;> rw [e] <;> refine posted ?_
  · exact (noted _ _).trans (chosen _)
  · exact (chosen _).trans (noted _ _)

end

end

/-- Settles O37. -/
theorem fireReturn : Obligations.FireReturn := by
  unfold Obligations.FireReturn
  refine fun s => ⟨fun stopped => ?_, fun x due => ⟨fun done => ?_, fun confirmed first => ?_⟩, State.isolationGaps_nil,
    fun l q r conditions hr d hc => ?_⟩
  · show Host.Outcome.next (isolationTimerExpiry s) = _
    rw [isolationTimerExpiry, stopped]
  · show Host.Outcome.next (isolationTimerExpiry s) = _
    rw [isolationTimerExpiry, due]
    refine congrArg Host.Outcome.next (if_neg ?_)
    rintro ⟨confirmed, first⟩
    rcases done with below | reported
    · exact below confirmed
    · exact first reported
  · show Host.Outcome.next (isolationTimerExpiry s) = _
    rw [isolationTimerExpiry, due]
    exact congrArg Host.Outcome.next (if_pos ⟨confirmed, by rw [show (s.atTime x).fire = s.fire from rfl, first]; decide⟩)
  · subst hr
    have ready : s.fire.resetConditions s.uptime = true ↔ conditions := (s.fire.resetConditions_iff _).trans hc.symm
    have serves {t : State} {code : AnswerCode} (h : resetFireBlock s = (t, .now code [])) :
        exec (.resetFire l q []) s = .next (t.answerHead l ⟨13, q, []⟩ code []) :=
      congrArg Host.Outcome.next (State.serve_now d ((noPayload_nil _ s).trans h))
    have judged (fire : s.fire.stage.fire = true) : resetFireBlock s =
        if s.fire.resetConditions s.uptime then (s.changeStage .normal, .now .done []) else (s, .now .refusedState []) := by
      rw [resetFireBlock]
      cases stage : s.fire.stage with
      | normal | preAlert | alert =>
        rw [stage] at fire
        cases fire
      | confirmed | isolated => rfl
    refine ⟨fun stage => serves ?_, fun stage => serves ?_, fun fire refused => serves ?_, fun fire met => ?_⟩
    · rw [resetFireBlock, stage]
    · rcases stage with stage | stage <;> rw [resetFireBlock, stage]
    · exact (judged fire).trans (if_neg fun conditions => refused (ready.1 conditions))
    · have changed : (s.changeStage .normal).fire = { s.fire with
          stage := .normal, entered := s.uptime, quietSince := none, isolationTimer := none, incompleteReported := false } := by
        rw [State.changeStage_fire, State.enterStage_fire]
        rfl
      have answered (u : State) : (u.answerHead l ⟨13, q, []⟩ .done []).fire = u.fire := rfl
      have calm : s.fire.recentClasses s.uptime = [] := (FireUnit.recentClasses_nil ..).2 (hc.1 met).2
      refine ⟨_, serves (t := s.changeStage .normal) (code := .done) ?_, ?_, s.changeStage_normal_table, s.changeStage_normal_mode,
        fun k => (State.SameNotice.answerHead _ l _ _ _ k).trans (s.changeStage_normal_posts calm k),
        State.answerHead_quietLinks (by simp) l _ _ _, ?_⟩
      · exact (judged fire).trans (if_pos (ready.2 met))
      · exact (answered _).trans changed
      · have frame := s.changeStage_normal_frame
        have answered : (s.changeStage .normal).answerHead l ⟨13, q, []⟩ .done [] = { s.changeStage .normal with
            links := ((s.changeStage .normal).answerHead l ⟨13, q, []⟩ .done []).links } := rfl
        generalize (s.changeStage .normal).answerHead l ⟨13, q, []⟩ .done [] = t at answered ⊢
        generalize s.changeStage .normal = u at frame answered
        rw [frame] at answered
        rw [answered]

end Sys2Proof.Machine
end

-- ==== Proofs: the passes of a fire evaluation ====
section
namespace Sys2Proof.Machine

/-! ## What a decision posts (R104, R111) -/

section
variable (s : State) (v : FireView) (code : Option Code)

theorem State.emptyAllSets_links : s.emptyAllSets.links = s.links := by
  simp [State.emptyAllSets]

/-- R109: a freeze order posts SNAPSHOT and no other kind. -/
theorem State.SameNotice.orderFreeze {m : NoticeKind} (h : m ≠ .snapshot) (decided : State) (old new : FireStage) :
    s.SameNotice m (s.orderFreeze decided old new) := by
  have freeze (order : Nat → Snapshot) : s.SameNotice m (s.freeze order) := .trans (.of_links rfl) (.post _ h _)
  unfold State.orderFreeze
  dsimp only
  split
  · exact freeze _
  · split
    · exact freeze _
    · exact .of_links rfl

/-- R104: a change of stage posts FIRE-STAGE once, and at most a SNAPSHOT beside it. -/
theorem State.enterStage_postsAll {m : NoticeKind} (h : m ≠ .snapshot) (g : FireStage) :
    (s.modFire fun f => f.enter g s.uptime).postStage s.fire.stage |>.SameNotice m (s.enterStage g) := by
  unfold State.enterStage
  dsimp only
  split
  · exact .trans (.orderFreeze _ h _ _ _) (.of_links (State.emptyAllSets_links _))
  · exact .orderFreeze _ h _ _ _

/-- R105: the update of quiet since changes that alone. -/
theorem FireUnit.updateQuiet_same {α : Type} (F : FireUnit → α) (hF : ∀ f q, F { f with quietSince := q } = F f) (f : FireUnit)
    (p : Params) (now : Nat) : F (f.updateQuiet p v now) = F f := by
  unfold FireUnit.updateQuiet
  split
  · exact hF _ _
  · exact hF _ _
  · rfl

/-- R97: the unit judged, before a change of stage. -/
def State.judged : State := ((s.judgeClasses v code).updateDegraded).judgeQuiet v

theorem State.judged_degraded : (s.judged v code).fire.degraded = decide ((s.judgeClasses v code).outOfService.length ≥ 2)
    ∧ (s.judged v code).fire.counted = (s.judgeClasses v code).outOfService := by
  obtain ⟨fire, -, -⟩ := State.updateDegraded_fire (s.judgeClasses v code)
  constructor
  · refine (FireUnit.updateQuiet_same v FireUnit.degraded (fun _ _ => rfl) _ _ _).trans ?_
    rw [fire]
  · refine (FireUnit.updateQuiet_same v FireUnit.counted (fun _ _ => rfl) _ _ _).trans ?_
    rw [fire]

/-- R111: a decision posts DEGRADED on its change from NO to YES. -/
theorem State.judged_fault : s.postsAll (s.judged v code) .fault (s.fire.degradedDetails (s.judged v code).fire) := by
  obtain ⟨degraded, counted⟩ := s.judged_degraded v code
  rw [FireUnit.degradedDetails, degraded, counted]
  exact ((State.postsAll.ite _ _ _).of_same (.of_links rfl)).of_before (.of_links rfl)

theorem State.judged_notice {m : NoticeKind} (h : m ≠ .fault) : s.SameNotice m (s.judged v code) := by
  refine .trans (t := (s.judgeClasses v code).updateDegraded) ?_ (.of_links rfl)
  unfold State.updateDegraded
  dsimp only
  split
  · exact .trans (.of_links rfl) (.post _ h _)
  · exact .of_links rfl

/-- R97: the decision of a pass, in terms of the unit judged. -/
theorem State.decidePass_judged : (∃ g, g ≠ (s.judged v code).fire.stage
      ∧ g = (s.judged v code).fire.nextStage (s.judged v code).params v (s.judged v code).uptime code
      ∧ s.decidePass v code = ((s.judged v code).enterStage g,
        ((s.judged v code).enterStage g).stageEffects (s.judged v code).fire.stage))
    ∨ s.decidePass v code = (s.judged v code,
        if (s.judged v code).fire.degraded ≠ s.fire.degraded then [(s.judged v code).fsEffect] else []) := by
  unfold State.decidePass
  dsimp only
  split
  · next changed => exact .inl ⟨_, changed, rfl, rfl⟩
  · exact .inr rfl

theorem State.judged_keeps_stage : (s.judged v code).fire.stage = s.fire.stage := s.judged_stage v code

theorem State.judged_uptime : (s.judged v code).uptime = s.uptime := by simp [State.judged]

/-- R104, R111: what a decision posts, kind by kind. -/
theorem State.decidePass_fault :
    s.postsAll (s.decidePass v code).1 .fault (s.fire.degradedDetails (s.decidePass v code).1.fire) := by
  have judged := s.judged_fault v code
  rcases s.decidePass_judged v code with ⟨g, -, -, e⟩ | e <;> rw [e]
  · dsimp only
    have details : s.fire.degradedDetails ((s.judged v code).enterStage g).fire
        = s.fire.degradedDetails (s.judged v code).fire := by rw [State.enterStage_fire]; rfl
    rw [details]
    exact judged.of_same (.trans (t := ((s.judged v code).modFire fun f => f.enter g (s.judged v code).uptime).postStage
      (s.judged v code).fire.stage) (.trans (.of_links rfl) (.post _ (by decide) _)) (State.enterStage_postsAll _ (by decide) g))
  · exact judged

theorem State.decidePass_fireStage :
    s.postsAll (s.decidePass v code).1 .fireStage (s.fire.stageDetails (s.decidePass v code).1.fire s.uptime) := by
  have judged := State.postsAll.none (s.judged_notice v code (m := .fireStage) (by decide))
  have stage := s.judged_keeps_stage v code
  have time := s.judged_uptime v code
  rcases s.decidePass_judged v code with ⟨g, changed, -, e⟩ | e <;> rw [e]
  · dsimp only
    have details : s.fire.stageDetails ((s.judged v code).enterStage g).fire s.uptime
        = [.fireStage g (s.judged v code).fire.stage ((s.judged v code).modFire fun f => f.enter g
            (s.judged v code).uptime).fire.activeClasses (((s.judged v code).modFire fun f => f.enter g
            (s.judged v code).uptime).fire.recentClasses (s.judged v code).uptime)] := by
      rw [State.enterStage_fire, FireUnit.stageDetails, stage, time, if_neg]
      · rfl
      · rw [stage] at changed
        exact changed
    rw [details]
    have posted : State.postsAll ((s.judged v code).modFire fun f => f.enter g (s.judged v code).uptime)
        ((s.judged v code).enterStage g) .fireStage _ :=
      (State.postsAll.one _ _ _).of_same (State.enterStage_postsAll _ (by decide) g)
    exact posted.of_before (.trans judged (.of_links rfl))
  · have details : s.fire.stageDetails (s.judged v code).fire s.uptime = [] := if_pos stage
    rw [details]
    exact judged

/-- R113: what is handed on posts neither FAULT nor FIRE-STAGE nor SNAPSHOT. -/
theorem State.fireEffect_notice {m : NoticeKind} (h : m ≠ .envelopeChanged) (h' : m ≠ .breaker) (h'' : m ≠ .stringState)
    {e : FireEffect} (he : e ∈ (s.decidePass v code).2) (t : State) : t.SameNotice m (e.2 t) := by
  obtain ⟨u, entry, rfl | ⟨c, rfl⟩ | rfl | rfl⟩ := State.mem_decidePass_effects he
  · exact .updateTable h t _
  · dsimp only
    unfold State.forceOpen
    split
    · exact .of_links rfl
    · exact .setString h h' h'' t c _
  · dsimp only
    unfold State.forcedTrip State.unpermittedClose
    repeat' split
    · exact .trip h' t _
    · exact .trans (.of_links rfl) (.post _ h' _)
    · exact .of_links rfl
  · exact .of_links (by simp)

end

/-! ## The effect that a receiver takes last (R113) -/

section
variable {p q : List FireEffect} {i : Nat} {order : List (Nat × FireEffect)} {r : FireReceiver} {W H : State → Prop}
  {s t : State} (woven : order ∈ weave ((p.drop i).map (Prod.mk 1)) (q.map (Prod.mk 2)))
  (stands : ∀ e, e ∈ p ∨ e ∈ q → ∀ w, W w → W (e.2 w))
  (keeps : ∀ e, e ∈ p ∨ e ∈ q → e.1 ≠ r → ∀ w, H w → H (e.2 w))

include woven in
theorem mem_of_woven {x : Nat × FireEffect} (hx : x ∈ order) : x.1 = 1 ∧ x.2 ∈ p.drop i ∨ x.2 ∈ q := by
  rcases mem_of_mem_weave woven hx with h | h <;> obtain ⟨y, hy, rfl⟩ := List.mem_map.1 h
  · exact .inl ⟨rfl, hy⟩
  · exact .inr hy

include woven stands keeps in
/-- A receiver told by the second pass is left as that pass tells it. -/
theorem State.take_second_last (ordered : receiversInOrder order = true) {e : FireEffect} (he : e ∈ q) (hr : e.1 = r)
    (est : ∀ e ∈ q, e.1 = r → ∀ w, W w → H (e.2 w)) (hs : W s) : H (s.take (order.map Prod.snd)) := by
  have from_ {x : Nat × FireEffect} (hx : x ∈ order) : x.2 ∈ p ∨ x.2 ∈ q :=
    (mem_of_woven woven hx).imp (fun h => List.mem_of_mem_drop h.2) id
  have hx : (2, e) ∈ order := mem_weave woven (.inr (List.mem_map_of_mem he))
  refine State.take_woven ordered (fun x hx => stands x.2 (from_ hx)) hx (fun x hx => ?_) (est e he hr) hs
  by_cases same : x.2.1 = r
  · rcases mem_of_woven woven hx with ⟨one, -⟩ | h
    · exact .inr ⟨one, same.trans hr.symm⟩
    · exact .inl fun w hw _ => est _ h same w hw
  · exact .inl fun w _ => keeps x.2 (from_ hx) same w

include woven stands keeps in
/-- A receiver told by the first pass alone is left as that pass tells it, be it before the second decision or after. -/
theorem State.take_first_last (told : ∀ e ∈ q, e.1 ≠ r) {e : FireEffect} (he : e ∈ p) (hr : e.1 = r)
    (est : ∀ e ∈ p, e.1 = r → ∀ w, W w → H (e.2 w)) (hs : W s) (ht : W t) (decided : H (s.take (p.take i)) → H t) :
    H (t.take (order.map Prod.snd)) := by
  have from_ {x : Nat × FireEffect} (hx : x ∈ order) : x.2 ∈ p ∨ x.2 ∈ q :=
    (mem_of_woven woven hx).imp (fun h => List.mem_of_mem_drop h.2) id
  have either {e : FireEffect} (h : e ∈ p ∨ e ∈ q) (w : State) (hw : W w ∧ H w) : W (e.2 w) ∧ H (e.2 w) := by
    refine ⟨stands e h w hw.1, ?_⟩
    by_cases same : e.1 = r
    · exact est e (h.resolve_right fun hq => told e hq same) same w hw.1
    · exact keeps e h same w hw.2
  have after (w : State) (hw : W w ∧ H w) : W (w.take (order.map Prod.snd)) ∧ H (w.take (order.map Prod.snd)) := by
    refine State.take_keeps (P := fun w => W w ∧ H w) (fun x hx w hw => ?_) hw
    obtain ⟨y, hy, rfl⟩ := List.mem_map.1 hx
    exact either (from_ hy) w hw
  rw [← List.take_append_drop i p] at he
  rcases List.mem_append.1 he with he | he
  · refine (after t ⟨ht, decided ?_⟩).2
    refine State.through_establishes (P := H) (Q := W) (List.mem_map_of_mem he) ?_ (est e (List.mem_of_mem_take he) hr) ?_ hs
    · intro g hg w hw
      obtain ⟨x, hx, rfl⟩ := List.mem_map.1 hg
      exact stands x (.inl (List.mem_of_mem_take hx)) w hw
    · intro g hg w hw h
      obtain ⟨x, hx, rfl⟩ := List.mem_map.1 hg
      exact (either (.inl (List.mem_of_mem_take hx)) w ⟨hw, h⟩).2
  · have hx : e ∈ order.map Prod.snd := List.mem_map_of_mem (f := Prod.snd) (mem_weave woven (.inl (List.mem_map_of_mem he)))
    refine State.through_establishes (P := H) (Q := W) (List.mem_map_of_mem hx) ?_ (est e (List.mem_of_mem_drop he) hr) ?_ ht
    · intro g hg w hw
      obtain ⟨x, hx, rfl⟩ := List.mem_map.1 hg
      obtain ⟨y, hy, rfl⟩ := List.mem_map.1 hx
      exact stands y.2 (from_ hy) w hw
    · intro g hg w hw h
      obtain ⟨x, hx, rfl⟩ := List.mem_map.1 hg
      obtain ⟨y, hy, rfl⟩ := List.mem_map.1 hx
      exact (either (from_ hy) w ⟨hw, h⟩).2

end

/-! ## A decision that changes no stage, and what follows one that does -/

section
variable {s t u : State} {v : FireView} {code : Option Code} {e : FireEffect}

/-- The fire unit, the envelope, the links and the count of choices apart, all is as it was. -/
def State.StageKept (s t : State) : Prop :=
  t = { s with fire := t.fire, links := t.links, envelope := t.envelope, choices := t.choices }

theorem State.StageKept.trans (h : s.StageKept t) (h' : t.StageKept u) : s.StageKept u := by
  unfold State.StageKept at *
  rw [h', h]

theorem State.StageKept.choices (h : s.StageKept t) (n : Nat) : s.StageKept { t with choices := n } := by
  unfold State.StageKept at *
  rw [h]

theorem State.StageKept.judged (s : State) (v : FireView) (code : Option Code) : s.StageKept (s.judged v code) := by
  refine State.eq_iff.2 ?_
  simp [State.judged]

theorem State.StageKept.fsEffect (u t : State) : t.StageKept (u.fsEffect.2 t) := by
  refine State.eq_iff.2 ?_
  simp [State.fsEffect]

/-- R97: a decision after which the stage is as before has changed none. -/
theorem State.decidePass_still (h : (s.decidePass v code).1.fire.stage = s.fire.stage) : s.decidePass v code =
    (s.judged v code, if (s.judged v code).fire.degraded ≠ s.fire.degraded then [(s.judged v code).fsEffect] else []) := by
  rcases s.decidePass_judged v code with ⟨g, changed, -, e⟩ | e
  · rw [e, State.enterStage_fire] at h
    rw [s.judged_keeps_stage] at changed
    exact absurd h changed
  · exact e

/-- R97: and one after which it is another has changed it. -/
theorem State.decidePass_changed (h : (s.decidePass v code).1.fire.stage ≠ s.fire.stage) : ∃ g,
    s.decidePass v code = ((s.judged v code).enterStage g, ((s.judged v code).enterStage g).stageEffects s.fire.stage) := by
  rcases s.decidePass_judged v code with ⟨g, -, -, e⟩ | e
  · rw [s.judged_keeps_stage] at e
    exact ⟨g, e⟩
  · exact absurd ((congrArg (fun d => d.1.fire.stage) e).trans (s.judged_keeps_stage v code)) h

theorem State.decidePass_idle (h : (s.decidePass v code).1.fire.stage = s.fire.stage)
    (h' : (s.decidePass v code).1.fire.degraded = s.fire.degraded) : s.decidePass v code = (s.judged v code, []) := by
  have still := State.decidePass_still h
  rw [still] at h'
  rw [still, if_neg (not_not.2 h')]

/-- R112: the FS update is handed on where the stage or DEGRADED changed, and not otherwise. -/
theorem State.decidePass_fs : (s.decidePass v code).1.fire.stage ≠ s.fire.stage
      ∨ (s.decidePass v code).1.fire.degraded ≠ s.fire.degraded ↔
    ∃ e ∈ (s.decidePass v code).2, e.1 = .envelope := by
  by_cases h : (s.decidePass v code).1.fire.stage = s.fire.stage
  · have still := State.decidePass_still h
    generalize s.decidePass v code = d at *
    subst still
    by_cases same : (s.judged v code).fire.degraded = s.fire.degraded
    · simp [same, s.judged_keeps_stage v code]
    · simp [same, State.fsEffect]
  · obtain ⟨g, e⟩ := State.decidePass_changed h
    refine iff_of_true (.inl h) ?_
    rw [e]
    exact ⟨_, List.mem_append_left _ (List.mem_append_left _ (List.mem_singleton_self _)), rfl⟩

/-- R113: the plant is told where the stage changed, and not otherwise. -/
theorem State.decidePass_plant : (s.decidePass v code).1.fire.stage ≠ s.fire.stage ↔
    ∃ e ∈ (s.decidePass v code).2, e.1 = .plant := by
  by_cases h : (s.decidePass v code).1.fire.stage = s.fire.stage
  · refine iff_of_false (not_not.2 h) ?_
    rw [State.decidePass_still h]
    split <;> simp [State.fsEffect]
  · obtain ⟨g, e⟩ := State.decidePass_changed h
    refine iff_of_true h ?_
    rw [e]
    exact ⟨_, List.mem_append_right _ (List.mem_singleton_self _), rfl⟩

/-- R112: the FS update that is handed on. -/
theorem State.fireEffect_fs (he : e ∈ (s.decidePass v code).2) (env : e.1 = .envelope) (w : State) :
    (e.2 w).envelope.table.fs = fsRow (s.decidePass v code).1.params (s.decidePass v code).1.fire.stage
      (s.decidePass v code).1.fire.degraded := by
  rw [State.fireEffect_envelope he env]
  simp [State.fsEffect, State.updateFs]

/-- R112: no other receiver changes the FS entries. -/
theorem State.fireEffect_fs_same (he : e ∈ (s.decidePass v code).2) (other : e.1 ≠ .envelope) (w : State) :
    (e.2 w).envelope.table.fs = w.envelope.table.fs := by
  obtain ⟨u, entry, rfl | ⟨c, rfl⟩ | rfl | rfl⟩ := State.mem_decidePass_effects he
  · exact absurd rfl other
  · dsimp only
    unfold State.forceOpen
    split
    · rfl
    · exact State.setString_keeps (P := fun t => t.envelope.table.fs = w.envelope.table.fs) (fun t n h => h)
        (fun t n d h => by simpa using h) (fun t h => by simpa [State.downward] using h)
        (fun t h => by simpa [State.computeGa_table] using h) (fun t h => by simpa using h) rfl
  · simp
  · simp

/-- R81: the mode of the plant in a fire. -/
def State.fireMode (t : State) : Prop :=
  t.plant.mode = if t.links.pnl.taken = some .ventRequest then .purge else .fireHold

/-- R81: a mode choice in CONFIRMED or ISOLATED. -/
theorem State.modeChoice_fireMode (fire : s.fire.stage.fire = true) : s.modeChoice.fireMode := by
  have mode := s.modeChoice_mode
  rw [State.chosenMode_burning fire] at mode
  refine mode.trans (if_congr s.venting_iff rfl rfl)

theorem State.fireEffect_mode (he : e ∈ (s.decidePass v code).2) (plant : e.1 = .plant) {w : State}
    (fire : w.fire.stage.fire = true) : (e.2 w).fireMode := by
  obtain ⟨u, entry, rfl | ⟨c, rfl⟩ | rfl | rfl⟩ := State.mem_decidePass_effects he
  · cases plant
  · cases plant
  · cases plant
  · cases entry
    · exact State.modeChoice_fireMode fire
    · exact State.modeChoice_fireMode (s := w.modPlant _) fire

theorem State.fireEffect_quiet (he : e ∈ (s.decidePass v code).2) (w : State) : (e.2 w).quietLinks = w.quietLinks := by
  obtain ⟨u, entry, he⟩ := State.mem_decidePass_effects he
  exact FireEffect.quietLinks he w

theorem State.fireMode_congr {t : State} (quiet : t.quietLinks = s.quietLinks) (plant : t.plant.mode = s.plant.mode)
    (h : s.fireMode) : t.fireMode := by
  rw [State.fireMode, plant, show t.links.pnl.taken = s.links.pnl.taken from
    LinkState.taken_of_quiet (State.quiet_link quiet .pnl)]
  exact h

theorem State.fireEffect_mode_same (he : e ∈ (s.decidePass v code).2) (other : e.1 ≠ .plant) {w : State}
    (h : w.fireMode) : (e.2 w).fireMode := by
  refine State.fireMode_congr (State.fireEffect_quiet he w) ?_ h
  obtain ⟨u, entry, rfl | ⟨c, rfl⟩ | rfl | rfl⟩ := State.mem_decidePass_effects he
  · simp [State.fsEffect]
  · simp
  · simp
  · exact absurd rfl other

/-- R151: the trip records of an evaluation, beside those of `s`. -/
def State.ringOf (s t : State) : Prop :=
  ∀ r ∈ t.permit.ring, r ∈ s.permit.ring ∨ r.cause = .noString ∨ (r.cause = .fire ∧ r.stage = .confirmed)

theorem State.ringOf_of_same {t u : State} (same : u.permit = t.permit) (h : s.ringOf t) : s.ringOf u := by
  unfold State.ringOf
  rw [same]
  exact h

theorem mem_appendRing {α : Type} {most : Nat} {l : List α} {x y : α} (h : y ∈ appendRing most l x) : y ∈ l ∨ y = x := by
  unfold appendRing at h
  rcases List.mem_append.1 h with h | h
  · split at h
    · exact .inl (List.mem_of_mem_drop h)
    · exact .inl h
  · exact .inr (List.mem_singleton.1 h)

theorem State.trip_ringOf {t : State} {k : TripCause} (ok : k = .noString ∨ (k = .fire ∧ t.fire.stage = .confirmed))
    (h : s.ringOf t) : s.ringOf (t.trip k) := by
  unfold State.trip
  split
  · intro r hr
    rcases mem_appendRing hr with hr | rfl
    · exact h r hr
    · exact .inr ok
  · exact h

theorem State.fireEffect_ringOf {t : State} (he : e ∈ (t.decidePass v code).2) {w : State}
    (stage : e.1 = .permit → w.fire.stage = (t.decidePass v code).1.fire.stage) (h : s.ringOf w) : s.ringOf (e.2 w) := by
  have quiet : ∀ {u : State}, e = u.fsEffect → s.ringOf (e.2 w) := fun e => by
    subst e
    exact State.ringOf_of_same (by simp [State.fsEffect]) h
  obtain ⟨u, -, ⟨g, -, -, d⟩ | ⟨-, d | d⟩⟩ := t.decidePass_cases v code
  · rw [d] at he stage
    rcases State.mem_stageEffects he with fs | ⟨entry, ⟨c, rfl⟩ | rfl⟩ | rfl
    · exact quiet fs
    · dsimp only
      unfold State.forceOpen
      split
      · exact h
      · refine State.setString_keeps (P := s.ringOf) (fun t n h => h) (fun t n d h => h)
          (fun t h => State.ringOf_of_same (by simp) h) (fun t h => State.ringOf_of_same (by simp) h) (fun t h => ?_) h
        unfold State.noStringTrip
        split
        · exact State.trip_ringOf (.inl rfl) h
        · exact h
    · have confirmed : w.fire.stage = .confirmed := (stage rfl).trans (by
        simp only [confirmedEntry, Bool.and_eq_true, beq_iff_eq] at entry
        exact entry.1.1)
      dsimp only
      unfold State.forcedTrip
      split
      · exact State.trip_ringOf (.inr ⟨rfl, confirmed⟩) h
      · split
        · exact h
        · exact h
    · exact State.ringOf_of_same (by simp) h
  · rw [d] at he
    exact quiet (List.mem_singleton.1 he)
  · rw [d] at he
    cases he

end

/-! ## What the passes of one evaluation leave -/

/-- R97 to R113, R151: from `s`, with the fire unit `first` after the first pass, to `t`. -/
structure State.Passed (s : State) (first : FireUnit) (t : State) : Prop where
  fault : s.postsAll t .fault (s.fire.degradedDetails first ++ first.degradedDetails t.fire)
  fireStage : s.postsAll t .fireStage (s.fire.stageDetails first s.uptime ++ first.stageDetails t.fire s.uptime)
  still : first.stage = s.fire.stage → t.fire.stage = first.stage → s.StageKept t
    ∧ (first.degraded = s.fire.degraded → t.fire.degraded = first.degraded → t.envelope = s.envelope ∧ t.choices = s.choices)
  fs : first.stage ≠ s.fire.stage ∨ first.degraded ≠ s.fire.degraded ∨ t.fire.stage ≠ first.stage
    ∨ t.fire.degraded ≠ first.degraded → t.envelope.table.fs = fsRow s.params t.fire.stage t.fire.degraded
  mode : first.stage ≠ s.fire.stage ∨ t.fire.stage ≠ first.stage → t.fire.stage.fire = true → t.fireMode
  ring : s.ringOf t

section
variable {s t : State} {v : FireView} {code : Option Code} {p : List FireEffect}

theorem FireUnit.degradedDetails_self (f : FireUnit) : f.degradedDetails f = [] := by
  rw [FireUnit.degradedDetails, if_neg fun both => both.2 both.1]

theorem FireUnit.stageDetails_self (f : FireUnit) (now : Nat) : f.stageDetails f now = [] := if_pos rfl

/-- R113: effects taken one after the other post no FAULT, FIRE-STAGE or SNAPSHOT. -/
theorem State.take_notice {m : NoticeKind} (h : m ≠ .envelopeChanged) (h' : m ≠ .breaker) (h'' : m ≠ .stringState)
    (hp : ∀ e ∈ p, ∃ (u : State) (c : Option Code), e ∈ (u.decidePass v c).2) (t : State) : t.SameNotice m (t.take p) :=
  State.take_keeps (P := t.SameNotice m) (fun e he w hw => by
    obtain ⟨u, c, he⟩ := hp e he
    exact hw.trans (State.fireEffect_notice u v c h h' h'' he w)) (.of_links rfl)

theorem State.take_fire_same (hp : ∀ e ∈ p, ∃ (u : State) (c : Option Code), e ∈ (u.decidePass v c).2) (t : State) :
    (t.take p).fire = t.fire :=
  State.take_fire (fun e he => by
    obtain ⟨u, c, he⟩ := hp e he
    exact State.fireEffect_fire he) t

end

/-- R113: of effects of a decision, those of one receiver bring about what the others keep. -/
theorem State.take_establishes_one {d : State} {v : FireView} {code : Option Code} {p : List FireEffect} {r : FireReceiver}
    {W H : State → Prop} (hp : p.Perm (d.decidePass v code).2) (told : ∃ e ∈ (d.decidePass v code).2, e.1 = r)
    (stands : ∀ e ∈ (d.decidePass v code).2, ∀ w, W w → W (e.2 w))
    (est : ∀ e ∈ (d.decidePass v code).2, e.1 = r → ∀ w, W w → H (e.2 w))
    (keeps : ∀ e ∈ (d.decidePass v code).2, e.1 ≠ r → ∀ w, H w → H (e.2 w)) {s : State} (hs : W s) : H (s.take p) := by
  obtain ⟨e, he, hr⟩ := told
  refine State.through_establishes (P := H) (Q := W) (List.mem_map_of_mem (hp.mem_iff.2 he)) (fun g hg w hw => ?_)
    (est e he hr) (fun g hg w hw h => ?_) hs
  · obtain ⟨x, hx, rfl⟩ := List.mem_map.1 hg
    exact stands x (hp.mem_iff.1 hx) w hw
  · obtain ⟨x, hx, rfl⟩ := List.mem_map.1 hg
    by_cases same : x.1 = r
    · exact est x (hp.mem_iff.1 hx) same w hw
    · exact keeps x (hp.mem_iff.1 hx) same w h

theorem State.decidePass_params (s : State) (v : FireView) (code : Option Code) :
    (s.decidePass v code).1.params = s.params := by simp [State.params]

/-- R113: what a decision without a change of stage hands on keeps the stage. -/
theorem State.StageKept.effect {s : State} {v : FireView} {code : Option Code} {e : FireEffect}
    (same : (s.decidePass v code).1.fire.stage = s.fire.stage) (he : e ∈ (s.decidePass v code).2) (w : State) :
    w.StageKept (e.2 w) := by
  rw [State.decidePass_still same] at he
  dsimp only at he
  split at he
  · rw [List.mem_singleton.1 he]
    exact .fsEffect _ w
  · cases he

theorem State.StageKept.decision {s : State} {v : FireView} {code : Option Code}
    (same : (s.decidePass v code).1.fire.stage = s.fire.stage) : s.StageKept (s.decidePass v code).1 := by
  rw [State.decidePass_still same]
  exact .judged s v code

/-- R97: one pass. -/
theorem State.onePass_passed (s : State) (v : FireView) (code : Option Code) :
    s.Passed (s.decidePass v code).1.fire (s.onePass v code) := by
  obtain ⟨p, hp, n, e⟩ := (s.decidePass v code).1.takeAll_cases (s.decidePass v code).2
  have fire := s.onePass_fire v code
  have members : ∀ e ∈ p, ∃ (u : State) (c : Option Code), e ∈ (u.decidePass v c).2 :=
    fun e he => ⟨s, code, hp.mem_iff.1 he⟩
  have taken : s.onePass v code = { (s.decidePass v code).1.take p with choices := n } := e
  have noticed {m : NoticeKind} (h : m ≠ .envelopeChanged) (h' : m ≠ .breaker) (h'' : m ≠ .stringState) :
      (s.decidePass v code).1.SameNotice m (s.onePass v code) := by
    rw [taken]
    exact State.take_notice h h' h'' members _
  constructor
  case fault =>
    rw [fire, FireUnit.degradedDetails_self, List.append_nil]
    exact (s.decidePass_fault v code).of_same (noticed (by decide) (by decide) (by decide))
  case fireStage =>
    rw [fire, FireUnit.stageDetails_self, List.append_nil]
    exact (s.decidePass_fireStage v code).of_same (noticed (by decide) (by decide) (by decide))
  case still =>
    intro same _
    refine ⟨?_, fun degraded _ => ?_⟩
    · rw [taken]
      exact State.StageKept.choices (State.take_keeps (P := s.StageKept) (fun e he w hw =>
        hw.trans (.effect same (hp.mem_iff.1 he) w)) (.decision same)) n
    · have idle := State.decidePass_idle same degraded
      have course : s.onePass v code = s.judged v code := by
        rw [State.onePass, idle]
        rfl
      rw [course]
      simp [State.judged]
  case fs =>
    intro changed
    rw [fire] at changed ⊢
    have changed := changed.imp_right fun h => h.resolve_right fun h => h.elim (absurd rfl) (absurd rfl)
    rw [taken, ← s.decidePass_params v code]
    exact State.take_establishes_one (W := fun _ => True)
      (H := fun t => t.envelope.table.fs = fsRow (s.decidePass v code).1.params (s.decidePass v code).1.fire.stage
        (s.decidePass v code).1.fire.degraded) hp (State.decidePass_fs.1 changed) (fun _ _ _ _ => trivial)
      (fun e he hr w _ => State.fireEffect_fs he hr w)
      (fun e he hr w h => (State.fireEffect_fs_same he hr w).trans h) trivial
  case mode =>
    intro changed
    rw [fire] at changed ⊢
    intro burning
    have changed := changed.resolve_right (absurd rfl)
    have held : ((s.decidePass v code).1.take p).fireMode :=
      State.take_establishes_one (W := fun t => t.fire.stage.fire = true) (H := State.fireMode) hp
        (State.decidePass_plant.1 changed) (fun e he w hw => by rw [State.fireEffect_fire he]; exact hw)
        (fun e he hr w hw => State.fireEffect_mode he hr hw) (fun e he hr w h => State.fireEffect_mode_same he hr h) burning
    rw [taken]
    exact held
  case ring =>
    rw [taken]
    have start : s.ringOf (s.decidePass v code).1 := State.ringOf_of_same (t := s) (by simp) fun r hr => .inl hr
    have kept : ((s.decidePass v code).1.take p).fire.stage = (s.decidePass v code).1.fire.stage
        ∧ s.ringOf ((s.decidePass v code).1.take p) :=
      State.take_keeps (P := fun w => w.fire.stage = (s.decidePass v code).1.fire.stage ∧ s.ringOf w)
        (fun e he w hw => ⟨by rw [State.fireEffect_fire (hp.mem_iff.1 he)]; exact hw.1,
          State.fireEffect_ringOf (hp.mem_iff.1 he) (fun _ => hw.1) hw.2⟩) ⟨rfl, start⟩
    exact kept.2

/-! ## Two passes (R97, R117) -/

/-- R97: the free choices of two passes that hand nothing on are none. -/
theorem State.twoPasses_idle {s u : State} {v : FireView} {a b : Code} (first : (s.decidePass v (some a)) = (u, []))
    (second : (u.decidePass v (some b)).2 = []) : s.twoPasses v a b = (u.decidePass v (some b)).1 := by
  have inOrder : receiversInOrder [] = true := rfl
  have only : u.secondPass v b [] = [(u.decidePass v (some b)).1] := by
    simp [State.secondPass, second, State.take, State.through, weave, tripTaken, inOrder]
  simp [State.twoPasses, first, only, State.oneOf]

/-- R97: two passes, the first deciding from `s` and the second from a state that the first left. -/
theorem State.twoPasses_passed (s : State) (v : FireView) (a b : Code) :
    s.Passed (s.decidePass v (some a)).1.fire (s.twoPasses v a b)
      ∧ ∃ m : State, m.fire = (s.decidePass v (some a)).1.fire ∧ m.params = s.params ∧ m.uptime = s.uptime
        ∧ m.quietLinks = s.quietLinks ∧ (s.twoPasses v a b).fire = (m.decidePass v (some b)).1.fire := by
  obtain ⟨p, q, i, order, n, hp, trip, hq, woven, ordered, t, left⟩ := s.twoPasses_cases v a b
  generalize course : s.twoPasses v a b = t' at *
  generalize between : s.betweenPasses v a p i = m at *
  have between' : (s.decidePass v (some a)).1.take (p.take i) = m := between
  have decision {e : FireEffect} (h : e ∈ p ∨ e ∈ q) : ∃ (u : State) (c : Option Code), e ∈ (u.decidePass v c).2 :=
    h.elim (fun h => ⟨s, some a, hp.mem_iff.1 h⟩) fun h => ⟨m, some b, hq.mem_iff.1 h⟩
  have early : ∀ e ∈ p.take i, ∃ (u : State) (c : Option Code), e ∈ (u.decidePass v c).2 :=
    fun e h => decision (.inl (List.mem_of_mem_take h))
  have late : ∀ e ∈ order.map Prod.snd, ∃ (u : State) (c : Option Code), e ∈ (u.decidePass v c).2 := fun e h => by
    obtain ⟨x, hx, rfl⟩ := List.mem_map.1 h
    exact decision ((mem_of_woven woven hx).imp (fun h => List.mem_of_mem_drop h.2) id)
  have mid : m.fire = (s.decidePass v (some a)).1.fire := between' ▸ State.take_fire_same early _
  have fire : t'.fire = (m.decidePass v (some b)).1.fire := by
    rw [left]
    exact State.take_fire_same late _
  have kept {α : Type} (F : State → α) (hd : ∀ (u : State) c, F (u.decidePass v c).1 = F u)
      (he : ∀ (u w : State) c, ∀ e ∈ (u.decidePass v c).2, F (e.2 w) = F w) : F m = F s := by
    rw [← between', ← hd s (some a)]
    exact State.take_keeps (P := fun w => F w = F (s.decidePass v (some a)).1) (fun e h w hw => by
      obtain ⟨u, c, h⟩ := early e h
      exact (he u w c e h).trans hw) rfl
  have params : m.params = s.params := by
    have same := kept State.config (fun u c => by simp) fun u w c e h => Part.same_fireEffect (p := .config) (by decide) h w
    rw [State.params, State.params, same]
  have uptime : m.uptime = s.uptime := kept State.uptime (fun u c => by simp) fun u w c e h => by
    obtain ⟨x, entry, rfl | ⟨d, rfl⟩ | rfl | rfl⟩ := State.mem_decidePass_effects h <;> simp [State.fsEffect]
  have quiet : m.quietLinks = s.quietLinks := kept State.quietLinks (fun u c => by simp) fun u w c e h => State.fireEffect_quiet h w
  refine ⟨?_, m, mid, params, uptime, quiet, fire⟩
  have members : ∀ e ∈ p.drop i, ∃ (u : State) (c : Option Code), e ∈ (u.decidePass v c).2 :=
    fun e h => decision (.inl (List.mem_of_mem_drop h))
  have before {k : NoticeKind} (h : k ≠ .envelopeChanged) (h' : k ≠ .breaker) (h'' : k ≠ .stringState) :
      (s.decidePass v (some a)).1.SameNotice k m := between' ▸ State.take_notice h h' h'' early _
  have after {k : NoticeKind} (h : k ≠ .envelopeChanged) (h' : k ≠ .breaker) (h'' : k ≠ .stringState) :
      (m.decidePass v (some b)).1.SameNotice k t' := by
    rw [left]
    exact State.take_notice h h' h'' late _
  constructor
  case fault =>
    have second := m.decidePass_fault v (some b)
    rw [mid, ← fire] at second
    exact ((s.decidePass_fault v (some a)).of_same (before (by decide) (by decide) (by decide))).append
      (second.of_same (after (by decide) (by decide) (by decide)))
  case fireStage =>
    have second := m.decidePass_fireStage v (some b)
    rw [mid, ← fire, uptime] at second
    exact ((s.decidePass_fireStage v (some a)).of_same (before (by decide) (by decide) (by decide))).append
      (second.of_same (after (by decide) (by decide) (by decide)))
  case still =>
    intro same same'
    have same' : (m.decidePass v (some b)).1.fire.stage = m.fire.stage := by rw [mid, ← fire]; exact same'
    have effect {e : FireEffect} (h : e ∈ p ∨ e ∈ q) (w : State) : w.StageKept (e.2 w) :=
      h.elim (fun h => .effect same (hp.mem_iff.1 h) w) fun h => .effect same' (hq.mem_iff.1 h) w
    have reached : s.StageKept m := between' ▸ State.take_keeps (P := s.StageKept)
      (fun e he w hw => hw.trans (effect (.inl (List.mem_of_mem_take he)) w)) (.decision same)
    refine ⟨?_, fun degraded degraded' => ?_⟩
    · rw [left]
      refine State.StageKept.choices (State.take_keeps (P := s.StageKept) (fun e he w hw => ?_)
        (reached.trans (.decision same'))) n
      obtain ⟨x, hx, rfl⟩ := List.mem_map.1 he
      exact hw.trans (effect ((mem_of_woven woven hx).imp (fun h => List.mem_of_mem_drop h.2) id) w)
    · have idle := State.decidePass_idle same degraded
      have none : p = [] := List.Perm.eq_nil (by rw [idle] at hp; exact hp)
      have middle : s.judged v (some a) = m := by
        rw [← between', none, idle, List.take_nil]
        rfl
      have idle' := State.decidePass_idle same' (by rw [mid, ← fire]; exact degraded')
      rw [middle] at idle
      have whole := State.twoPasses_idle idle (congrArg Prod.snd idle')
      rw [← course, whole, idle', ← middle]
      simp [State.judged]
  case fs =>
    intro changed
    have goal : ((m.decidePass v (some b)).1.take (order.map Prod.snd)).envelope.table.fs
        = fsRow s.params t'.fire.stage t'.fire.degraded := by
      by_cases told : (m.decidePass v (some b)).1.fire.stage ≠ m.fire.stage
          ∨ (m.decidePass v (some b)).1.fire.degraded ≠ m.fire.degraded
      · obtain ⟨e, he, env⟩ := State.decidePass_fs.1 told
        refine State.take_second_last (W := fun _ => True) (r := .envelope)
          (H := fun w => w.envelope.table.fs = fsRow s.params t'.fire.stage t'.fire.degraded) woven (fun _ _ _ _ => trivial)
          (fun e he hr w h => ?_) ordered (hq.mem_iff.2 he) env (fun e he hr w _ => ?_) trivial
        · obtain ⟨u, c, he⟩ := decision he
          exact (State.fireEffect_fs_same he hr w).trans h
        · rw [State.fireEffect_fs (hq.mem_iff.1 he) hr w, m.decidePass_params, params, fire]
      · have quiet : ∀ e ∈ q, e.1 ≠ .envelope := fun e he env => told (State.decidePass_fs.2 ⟨e, hq.mem_iff.1 he, env⟩)
        obtain ⟨stage, degraded⟩ := not_or.1 told
        rw [not_not, ← fire, mid] at stage degraded
        have first := changed.imp_right fun h => h.resolve_right fun h => h.elim (absurd stage) (absurd degraded)
        obtain ⟨e, he, env⟩ := State.decidePass_fs.1 first
        refine State.take_first_last (W := fun _ => True) (r := .envelope)
          (H := fun w => w.envelope.table.fs = fsRow s.params t'.fire.stage t'.fire.degraded) woven (fun _ _ _ _ => trivial)
          (fun e he hr w h => ?_) quiet (hp.mem_iff.2 he) env (fun e he hr w _ => ?_) trivial trivial (fun h => ?_)
          (s := (s.decidePass v (some a)).1)
        · obtain ⟨u, c, he⟩ := decision he
          exact (State.fireEffect_fs_same he hr w).trans h
        · rw [State.fireEffect_fs (hp.mem_iff.1 he) hr w, s.decidePass_params, stage, degraded]
        · rw [between'] at h
          simpa using h
    generalize fsRow s.params t'.fire.stage t'.fire.degraded = row at goal ⊢
    rw [left]
    exact goal
  case mode =>
    intro changed burning
    have stands (e : FireEffect) (h : e ∈ p ∨ e ∈ q) (w : State) (hw : w.fire.stage.fire = true) :
        (e.2 w).fire.stage.fire = true := by
      obtain ⟨u, c, h⟩ := decision h
      rw [State.fireEffect_fire h]
      exact hw
    have keeps (e : FireEffect) (h : e ∈ p ∨ e ∈ q) (hr : e.1 ≠ .plant) (w : State) (hw : w.fireMode) : (e.2 w).fireMode := by
      obtain ⟨u, c, h⟩ := decision h
      exact State.fireEffect_mode_same h hr hw
    have goal : ((m.decidePass v (some b)).1.take (order.map Prod.snd)).fireMode := by
      rw [fire] at burning
      by_cases told : (m.decidePass v (some b)).1.fire.stage ≠ m.fire.stage
      · obtain ⟨e, he, plant⟩ := State.decidePass_plant.1 told
        exact State.take_second_last woven stands keeps ordered (hq.mem_iff.2 he) plant
          (fun e he hr w hw => State.fireEffect_mode (hq.mem_iff.1 he) hr hw) burning
      · have quiet : ∀ e ∈ q, e.1 ≠ .plant := fun e he plant => told (State.decidePass_plant.2 ⟨e, hq.mem_iff.1 he, plant⟩)
        rw [not_not] at told
        have same : (m.decidePass v (some b)).1.fire.stage = (s.decidePass v (some a)).1.fire.stage := told.trans (by rw [mid])
        have first := changed.resolve_right fun h => h (by rw [fire]; exact same)
        obtain ⟨e, he, plant⟩ := State.decidePass_plant.1 first
        refine State.take_first_last woven stands keeps quiet (hp.mem_iff.2 he) plant
          (fun e he hr w hw => State.fireEffect_mode (hp.mem_iff.1 he) hr hw) (s := (s.decidePass v (some a)).1)
          (by rw [← same]; exact burning) burning (fun h => ?_)
        rw [between'] at h
        exact State.fireMode_congr (by simp) (by simp) h
    rw [left]
    exact goal
  case ring =>
    have start : s.ringOf (s.decidePass v (some a)).1 := State.ringOf_of_same (t := s) (by simp) fun r hr => .inl hr
    have reached : m.fire.stage = (s.decidePass v (some a)).1.fire.stage ∧ s.ringOf m := between' ▸
      State.take_keeps (P := fun w => w.fire.stage = (s.decidePass v (some a)).1.fire.stage ∧ s.ringOf w)
        (fun e he w hw => by
          have he := hp.mem_iff.1 (List.mem_of_mem_take he)
          exact ⟨by rw [State.fireEffect_fire he]; exact hw.1, State.fireEffect_ringOf he (fun _ => hw.1) hw.2⟩) ⟨rfl, start⟩
    have decided : s.ringOf (m.decidePass v (some b)).1 := State.ringOf_of_same (t := m) (by simp) reached.2
    have goal := State.take_keeps (effects := order.map Prod.snd)
      (P := fun w => w.fire.stage = (m.decidePass v (some b)).1.fire.stage ∧ s.ringOf w) (fun e he w hw => by
        obtain ⟨x, hx, rfl⟩ := List.mem_map.1 he
        rcases mem_of_woven woven hx with ⟨-, later⟩ | second
        · have he := hp.mem_iff.1 (List.mem_of_mem_drop later)
          have none : x.2.1 ≠ .permit := of_decide_eq_true (List.all_eq_true.1 trip _ later)
          exact ⟨by rw [State.fireEffect_fire he]; exact hw.1, State.fireEffect_ringOf he (fun same => absurd same none) hw.2⟩
        · have he := hq.mem_iff.1 second
          exact ⟨by rw [State.fireEffect_fire he]; exact hw.1, State.fireEffect_ringOf he (fun _ => hw.1) hw.2⟩)
      ⟨rfl, decided⟩
    rw [left]
    exact goal.2

end Sys2Proof.Machine
end

-- ==== Proofs: a fire evaluation ====
section
namespace Sys2Proof.Machine

/-! ## The samples (R98 to R100) -/

/-- R167: postings made in some of several cases, one after the other. -/
theorem State.postsAll.foldl {α : Type} (n : NoticeKind) (c : α → Bool) (d : α → NoticeDetail) (l : List α) (s : State) :
    s.postsAll (l.foldl (fun t i => if c i then t.post n (d i) else t) s) n
      (l.filterMap fun i => if c i then some (d i) else Option.none) := by
  induction l generalizing s with
  | nil => exact State.postsAll.none (.of_links rfl)
  | cons i rest ih =>
    have one : s.postsAll (if c i then s.post n (d i) else s) n (if c i then [d i] else []) := .ite s n (d i)
    have both := one.append (ih _)
    rw [List.filterMap_cons]
    cases h : c i <;> simpa [h] using both

theorem State.SameNotice.foldl {α : Type} {m n : NoticeKind} (h : m ≠ n) (c : α → Bool) (d : α → NoticeDetail) (l : List α)
    (s : State) : s.SameNotice m (l.foldl (fun t i => if c i then t.post n (d i) else t) s) := by
  induction l generalizing s with
  | nil => exact .of_links rfl
  | cons i rest ih =>
    refine State.SameNotice.trans (t := if c i then s.post n (d i) else s) ?_ (ih _)
    split
    · exact .post s h _
    · exact .of_links rfl

section
variable (s : State) (ohms : Vector Nat 8) (g1 g2 : Int)

/-- R97: the part with the samples of an evaluation taken. -/
def State.fireSampled : State :=
  (({ s.atTime s.clocks.fire with clocks := { s.clocks with fire := s.clocks.fire + 100 } }).sampleLoops ohms).sampleGas g1 g2

theorem fireEvaluation_runs (running : s.phase = .running) : exec (.fireEvaluation ohms g1 g2) s =
    .next (s.fireSampled ohms g1 g2).passes :=
  congrArg Host.Outcome.next (if_pos running)

theorem State.fireSampled_frame : s.fireSampled ohms g1 g2 = { s with
    uptime := max s.uptime s.clocks.fire
    clocks := { s.clocks with fire := s.clocks.fire + 100 }
    fire := (s.fireSampled ohms g1 g2).fire
    links := (s.fireSampled ohms g1 g2).links } := by
  refine State.eq_iff.2 ?_
  simp [State.fireSampled, State.atTime]

theorem State.sampleLoops_fire : (s.sampleLoops ohms).fire =
    { s.fire with loops := sampledLoops s.params s.fire.loops ohms } :=
  State.foldl_post_keeps (P := fun t => t.fire = { s.fire with loops := sampledLoops s.params s.fire.loops ohms })
    (fun _ _ _ ht => ht) _ _ _ _ rfl

theorem State.fireSampled_fire : (s.fireSampled ohms g1 g2).fire = { s.fire with
    loops := sampledLoops s.params s.fire.loops ohms, gas1 := gasSample g1, gas2 := gasSample g2 } := by
  have gas (u : State) : (u.sampleGas g1 g2).fire = { u.fire with gas1 := gasSample g1, gas2 := gasSample g2 } := by
    simp [State.sampleGas, State.modFire]
  rw [State.fireSampled, gas, State.sampleLoops_fire]
  rfl

theorem State.fireSampled_quietLinks : (s.fireSampled ohms g1 g2).quietLinks = s.quietLinks := by
  simp only [State.fireSampled, State.sampleGas_quietLinks, State.sampleLoops_quietLinks]
  rfl

/-- R99: the notices of the loops sampled. -/
theorem State.sampleLoops_posts : s.postsAll (s.sampleLoops ohms) .fault ((List.finRange 8).filterMap fun i =>
    if loopFaulted s.fire.loops[i] (sampledLoops s.params s.fire.loops ohms)[i] then
      some (.loopFault (i.val + 1) ((sampledLoops s.params s.fire.loops ohms)[i]).state) else none) := by
  have sampled : s.SameNotice .fault (s.modFire fun f => { f with loops := sampledLoops s.params s.fire.loops ohms }) :=
    .of_links rfl
  exact State.postsAll.of_before sampled (State.postsAll.foldl _ _ _ _ _)

/-- R99, R100: the notices of the samples. -/
theorem State.fireSampled_posts : s.postsAll (s.fireSampled ohms g1 g2) .fault
    (((List.finRange 8).filterMap fun i =>
        if loopFaulted s.fire.loops[i] (sampledLoops s.params s.fire.loops ohms)[i] then
          some (.loopFault (i.val + 1) ((sampledLoops s.params s.fire.loops ohms)[i]).state) else none)
      ++ (if gasSample g1 = .fault ∧ s.fire.gas1 ≠ .fault then [.gasFault 1] else [])
      ++ (if gasSample g2 = .fault ∧ s.fire.gas2 ≠ .fault then [.gasFault 2] else [])) := by
  have gasPosted (w : State) (n : Nat) (before after : GasChannel) : w.postsAll (w.gasFault n before after) .fault
      (if after = .fault ∧ before ≠ .fault then [.gasFault n] else []) := .ite w .fault _
  have gas (u : State) : u.postsAll (u.sampleGas g1 g2) .fault
      ((if gasSample g1 = .fault ∧ u.fire.gas1 ≠ .fault then [.gasFault 1] else [])
        ++ (if gasSample g2 = .fault ∧ u.fire.gas2 ≠ .fault then [.gasFault 2] else [])) :=
    ((gasPosted _ 1 _ _).append (gasPosted _ 2 _ _)).of_before (.of_links rfl)
  have both := (State.sampleLoops_posts { s.atTime s.clocks.fire with clocks := { s.clocks with fire := s.clocks.fire + 100 } } ohms).append (gas _)
  rw [State.sampleLoops_fire, ← List.append_assoc] at both
  exact both.of_before (.of_links rfl)

/-- R98 to R100: the samples post FAULT alone. -/
theorem State.fireSampled_notice {m : NoticeKind} (h : m ≠ .fault) : s.SameNotice m (s.fireSampled ohms g1 g2) := by
  have gasFault (w : State) (n : Nat) (before after : GasChannel) : w.SameNotice m (w.gasFault n before after) := by
    unfold State.gasFault
    split
    · exact .post w h _
    · exact .of_links rfl
  have loops (w : State) : w.SameNotice m (w.sampleLoops ohms) :=
    .trans (t := w.modFire fun f => { f with loops := sampledLoops w.params w.fire.loops ohms }) (.of_links rfl) (.foldl h _ _ _ _)
  have gas (w : State) : w.SameNotice m (w.sampleGas g1 g2) :=
    .trans (t := w.modFire fun f => { f with gas1 := gasSample g1, gas2 := gasSample g2 }) (.of_links rfl)
      (.trans (gasFault _ _ _ _) (gasFault _ _ _ _))
  exact .trans (t := { s.atTime s.clocks.fire with clocks := { s.clocks with fire := s.clocks.fire + 100 } }) (.of_links rfl)
    (.trans (loops _) (gas _))

end

/-- R99: a loop that posts LOOP-FAULT. -/
theorem loopFaulted_iff (before after : DetectorLoop) : loopFaulted before after = true ↔
    after.seenType ≠ .unused ∧ (after.state = .opened ∨ after.state = .short)
      ∧ (after.state ≠ before.state ∨ before.seenType = .unused) := by
  have used (x : LoopType) : x.used = true ↔ x ≠ .unused := by cases x <;> decide
  have broken (x : LoopState) : x.broken = true ↔ x = .opened ∨ x = .short := by cases x <;> decide
  simp only [loopFaulted, Bool.and_eq_true, Bool.or_eq_true, Bool.not_eq_true', ← Bool.not_eq_true, used, broken, bne_iff_ne,
    not_not, and_assoc]

/-- R112: the FS row of a stage, entry by entry. -/
theorem fsRow_eq (p : Params) (g : FireStage) (degraded : Bool) (charge discharge : Nat) :
    charge = (match g with
      | .normal => 4000
      | .preAlert => p.preAlertCap.toNat
      | _ => 0) →
    discharge = (match g with
      | .normal => 4000
      | .preAlert | .alert => p.preAlertCap.toNat
      | _ => 0) →
    fsRow p g degraded = if degraded then .both (min charge p.degradedCap.toNat) (min discharge p.degradedCap.toNat)
      else .both charge discharge := by
  intro hc hd
  subst hc hd
  cases g <;> rfl

/-! ## What every pass sees alike (R97) -/

theorem Supervision.any_iff (k : Supervision) (q : RiseFlag → Bool) :
    (k.sensors.toList.any fun m => m.toList.any fun t => q t.flag) = true
      ↔ ∃ (a : Addr) (i : Fin 4), q ((k.sensors[a])[i]).flag = true := by
  simp only [List.any_eq_true, Vector.mem_toList_iff, Vector.mem_iff_getElem]
  constructor
  · rintro ⟨m, ⟨a, ha, rfl⟩, t, ⟨i, hi, rfl⟩, flag⟩
    exact ⟨⟨a, ha⟩, ⟨i, hi⟩, flag⟩
  · rintro ⟨a, i, flag⟩
    exact ⟨_, ⟨a.val, a.isLt, rfl⟩, _, ⟨i.val, i.isLt, rfl⟩, flag⟩

section
variable {s : State}

theorem exists_str {q : Str → Prop} : (∃ c, q c) ↔ q .one ∨ q .two :=
  ⟨fun ⟨c, h⟩ => by cases c <;> simp [h], fun h => h.elim (⟨_, ·⟩) (⟨_, ·⟩)⟩

theorem State.isolated_iff : s.isolated = true ↔ ∀ c, (s.string c).state.apart = true ∧ (s.string c).mainInput = .opened
    ∧ (s.string c).prechargeInput = .opened ∧ s.permit.breaker = .opened := by
  simp only [State.isolated, StringController.isolated, Bool.and_eq_true, beq_iff_eq]
  constructor
  · rintro ⟨⟨⟨⟨a, m⟩, p⟩, ⟨a', m'⟩, p'⟩, b⟩ c
    cases c
    · exact ⟨a, m, p, b⟩
    · exact ⟨a', m', p', b⟩
  · intro h
    obtain ⟨a, m, p, b⟩ := h .one
    obtain ⟨a', m', p', -⟩ := h .two
    exact ⟨⟨⟨⟨a, m⟩, p⟩, ⟨a', m'⟩, p'⟩, b⟩

/-- R97: the view of an evaluation, by its three entries. -/
theorem State.fireView_eq {v : FireView}
    (isolated : v.isolated = true ↔ ∀ c, (s.string c).state.apart = true ∧ (s.string c).mainInput = .opened
      ∧ (s.string c).prechargeInput = .opened ∧ s.permit.breaker = .opened)
    (heat : v.heatRise = true ↔ ∃ c, (s.string c).state.apart = false
      ∧ ∃ (a : Addr) (k : Fin 4), (((s.cells c).sensors[a])[k]).flag = .heat)
    (any : v.anyRise = true ↔ ∃ c, ∃ (a : Addr) (k : Fin 4), (((s.cells c).sensors[a])[k]).flag ≠ .none) :
    s.fireView = v := by
  have heats : s.fireView.heatRise = v.heatRise := by
    rw [Bool.eq_iff_iff, heat, exists_str]
    have one := s.supervision.one.any_iff (· == .heat)
    have two := s.supervision.two.any_iff (· == .heat)
    simp only [beq_iff_eq] at one two
    simp only [State.fireView, Supervision.anyHeat, Bool.or_eq_true, Bool.and_eq_true, Bool.not_eq_true', one, two]
    rfl
  have rises : s.fireView.anyRise = v.anyRise := by
    rw [Bool.eq_iff_iff, any, exists_str]
    have one := s.supervision.one.any_iff (· != .none)
    have two := s.supervision.two.any_iff (· != .none)
    simp only [bne_iff_ne] at one two
    simp only [State.fireView, Supervision.anyRise, Bool.or_eq_true, one, two]
    rfl
  have apart : s.fireView.isolated = v.isolated := by
    rw [Bool.eq_iff_iff, isolated]
    exact State.isolated_iff
  cases v
  simp only [State.fireView, FireView.mk.injEq] at heats rises apart ⊢
  exact ⟨heats, rises, apart⟩

end

/-! ## The evaluation -/

section
variable {s : State}

/-- R97: what no pass of an evaluation changes. -/
theorem State.passes_frame (s : State) : s.passes = { s with
    chains := s.passes.chains, strings := s.passes.strings, envelope := s.passes.envelope, plant := s.passes.plant
    fire := s.passes.fire, store := s.passes.store, agreement := s.passes.agreement, permit := s.passes.permit
    links := s.passes.links, choices := s.passes.choices } := by
  have kept := State.passes_keeps (s := s)
    (P := fun t => t.phase = s.phase ∧ t.resetLine = s.resetLine ∧ t.resetKind = s.resetKind ∧ t.siteResetDue = s.siteResetDue
      ∧ t.uptime = s.uptime ∧ t.clocks = s.clocks ∧ t.supervision = s.supervision ∧ t.siteMode = s.siteMode
      ∧ t.stationCap = s.stationCap ∧ t.serviceCap = s.serviceCap ∧ t.config = s.config ∧ t.pending = s.pending)
    (fun t n h => h) (fun t v code h => by simpa using h) (fun t v code e he u h => by
      obtain ⟨w, entry, rfl | ⟨c, rfl⟩ | rfl | rfl⟩ := State.mem_decidePass_effects he
      all_goals simpa [State.fsEffect] using h)
    (fun t h => h) ⟨rfl, rfl, rfl, rfl, rfl, rfl, rfl, rfl, rfl, rfl, rfl, rfl⟩
  obtain ⟨phase, line, kind, due, uptime, clocks, cells, mode, station, service, config, pending⟩ := kept
  refine State.eq_iff.2 ?_
  simp [phase, line, kind, due, uptime, clocks, cells, mode, station, service, config, pending]

/-- R97, R101: the codes that the passes of an evaluation take, one each; and what they leave. -/
theorem State.passes_passed (s : State) {t : State} (ht : s.modLink .pnl LinkState.emptyBuffer = t) :
    ∃ first, t.Passed first s.passes ∧ (match s.links.pnl.firstChange, s.links.pnl.latestChange with
      | some a, some b => first = (t.decidePass t.fireView (some a)).1.fire
        ∧ ∃ m : State, m.fire = first ∧ m.params = t.params ∧ m.uptime = t.uptime
          ∧ m.quietLinks = t.quietLinks ∧ s.passes.fire = (m.decidePass t.fireView (some b)).1.fire
      | a, b => first = (t.decidePass t.fireView (a.or b)).1.fire ∧ s.passes.fire = first) := by
  subst ht
  unfold State.passes
  dsimp only
  cases s.links.pnl.firstChange <;> cases s.links.pnl.latestChange
  case some.some a b =>
    obtain ⟨passed, course⟩ := State.twoPasses_passed (s.modLink .pnl LinkState.emptyBuffer)
      (s.modLink .pnl LinkState.emptyBuffer).fireView a b
    exact ⟨_, passed, rfl, course⟩
  all_goals exact ⟨_, State.onePass_passed _ _ _, rfl, State.onePass_fire _ _ _⟩

/-- R163: an evaluation empties the PNL change buffer. -/
theorem State.emptied_quiet {u : State} (quiet : u.quietLinks = s.quietLinks) (l : Link) :
    ((u.modLink .pnl LinkState.emptyBuffer).link l).quiet = (if l = .pnl then
      { (s.link l).quiet with firstChange := none, latestChange := none } else (s.link l).quiet) := by
  have same := State.quiet_link quiet l
  rw [State.modLink_link]
  split
  · rw [← same]
    rfl
  · exact same

end

/-- Settles O35. -/
theorem Settled.fireEvaluation : Obligations.FireEvaluation := by
  unfold Obligations.FireEvaluation
  intro ohms g1 g2 s running p now silent v sampled hp hnow hsilent isolated heat any hsampled hloops
  have frame := s.fireSampled_frame ohms g1 g2
  have fire := s.fireSampled_fire ohms g1 g2
  have quiet := s.fireSampled_quietLinks ohms g1 g2
  have posts := s.fireSampled_posts ohms g1 g2
  have stages := s.fireSampled_notice ohms g1 g2 (m := .fireStage) (by decide)
  have runs := fireEvaluation_runs s ohms g1 g2 running
  have loops : sampledLoops s.params s.fire.loops ohms = sampled.loops := by
    refine Vector.ext fun i hi => ?_
    have entry := hloops ⟨i, hi⟩
    rw [hp] at entry
    exact (vmapIdx_get _ _ ⟨i, hi⟩).trans entry.symm
  have samples : (s.fireSampled ohms g1 g2).fire = sampled := by
    rw [fire, hsampled, loops]
    rfl
  generalize s.fireSampled ohms g1 g2 = u at *
  rw [runs]
  have sent := u.passes_quietLinks
  have left := u.passes_frame
  have links := State.emptied_quiet quiet
  generalize ht : u.modLink .pnl LinkState.emptyBuffer = t0 at *
  obtain ⟨first, passed, course⟩ := u.passes_passed ht
  generalize u.passes = t at *
  have base : t0 = { u with links := t0.links } := by rw [← ht]; rfl
  have buffers : u.links.pnl.firstChange = s.links.pnl.firstChange ∧ u.links.pnl.latestChange = s.links.pnl.latestChange := by
    have pnl := State.quiet_link quiet .pnl
    exact ⟨show (u.link .pnl).quiet.firstChange = (s.link .pnl).quiet.firstChange by rw [pnl],
      show (u.link .pnl).quiet.latestChange = (s.link .pnl).quiet.latestChange by rw [pnl]⟩
  have quietly (m : State) (h : m.quietLinks = t0.quietLinks) : m.links.pnl.silent = silent := by
    have same : (m.link .pnl).quiet = _ := (State.quiet_link h .pnl).trans (links .pnl)
    have silence : m.links.pnl.silence = s.links.pnl.silence := by
      show (m.link .pnl).quiet.silence = _
      rw [same]
      rfl
    rw [LinkState.silent, silence, hsilent]
    cases s.links.pnl.silence <;> rfl
  rw [frame, samples, ← hnow] at base
  rw [frame, ← hnow] at left
  have view : t0.fireView = v := by
    refine State.fireView_eq ?_ ?_ ?_
    · rw [base]
      exact isolated
    · rw [base]
      exact heat
    · rw [base]
      exact any
  have fire0 : t0.fire = sampled := by rw [base]
  have stage : sampled.stage = s.fire.stage := by rw [hsampled]
  have degraded0 : sampled.degraded = s.fire.degraded := by rw [hsampled]
  have unposted {m : NoticeKind} : u.SameNotice m t0 := fun l => by
    rw [← ht, State.modLink_link]
    split <;> rfl
  have uptime0 : t0.uptime = now := by rw [base]
  have params0 : t0.params = p := by rw [base, hp]; rfl
  have pass (m : State) (code : Option Code) (h : m.quietLinks = t0.quietLinks) (h' : m.params = t0.params)
      (h'' : m.uptime = t0.uptime) : FirePass p v silent now code m.fire (m.decidePass v code).1.fire := by
    have pass := m.decidePass_pass v code
    rw [quietly m h, h', h'', params0, uptime0] at pass
    exact pass
  refine ⟨t, first, rfl, ?_, ?_, ?_, ?_, ?_, ?_, ?_, ?_, ?_, ?_, ?_⟩
  · rw [left]
  · rw [left]
  · rw [buffers.1, buffers.2, view] at course
    revert course
    cases s.links.pnl.firstChange <;> cases s.links.pnl.latestChange
    case some.some a b =>
      rintro ⟨one, m, fire, params, uptime, quiet, two⟩
      have second := pass m (some b) quiet params uptime
      have first' := pass t0 (some a) rfl rfl rfl
      rw [fire0, ← one] at first'
      rw [fire, ← two] at second
      exact ⟨first', second⟩
    all_goals
      rintro ⟨one, same⟩
      refine ⟨?_, same⟩
      rw [one, ← fire0]
      exact pass t0 _ rfl rfl rfl
  · have before : s.postsAll t0 .fault _ := posts.of_same unposted
    have all := before.append passed.fault
    rw [fire0, ← List.append_assoc] at all
    have faults : ((List.finRange 8).filterMap fun i =>
          if loopFaulted s.fire.loops[i] (sampledLoops s.params s.fire.loops ohms)[i] then
            some (NoticeDetail.loopFault (i.val + 1) ((sampledLoops s.params s.fire.loops ohms)[i]).state) else none)
        = (List.finRange 8).filterMap fun i =>
          if p.loopTypes[i] ≠ .unused ∧ ((sampled.loops[i]).state = .opened ∨ (sampled.loops[i]).state = .short)
              ∧ ((sampled.loops[i]).state ≠ (s.fire.loops[i]).state ∨ (s.fire.loops[i]).seenType = .unused) then
            some (.loopFault (i.val + 1) (sampled.loops[i]).state) else none := by
      refine congrArg (fun f => List.filterMap f _) (funext fun i => ?_)
      have seen : (sampled.loops[i]).seenType = p.loopTypes[i] := by rw [hloops i]
      rw [loops, ← seen]
      exact if_congr (loopFaulted_iff _ _) rfl rfl
    have gas : gasSample g1 = sampled.gas1 ∧ gasSample g2 = sampled.gas2 := by
      rw [hsampled]
      exact ⟨rfl, rfl⟩
    rw [faults, gas.1, gas.2] at all
    exact all
  · have posted := passed.fireStage
    rw [fire0, uptime0] at posted
    exact posted.of_before (stages.trans unposted)
  · exact fun l => (State.quiet_link sent l).trans (links l)
  · intro same same'
    have still := passed.still (by rw [fire0, stage]; exact same) same'
    rw [fire0, base] at still
    refine ⟨?_, fun degraded degraded' => ?_⟩
    · have kept := still.1
      unfold State.StageKept at kept
      rw [kept]
    · exact still.2 (by rw [degraded0]; exact degraded) degraded'
  · intro changed charge discharge hcharge hdischarge
    rw [passed.fs (by rw [fire0, stage, degraded0]; exact changed), params0]
    exact fsRow_eq p _ _ _ _ hcharge hdischarge
  · intro changed burning
    have mode := passed.mode (by rw [fire0, stage]; exact changed) burning
    have taken : t.links.pnl.taken = s.links.pnl.taken := by
      have same := (State.quiet_link sent .pnl).trans (links .pnl)
      show (t.link .pnl).quiet.taken = _
      rw [same]
      rfl
    rw [State.fireMode, taken] at mode
    exact mode
  · have ring := passed.ring
    rw [base] at ring
    exact ring
  · rw [left]

end Sys2Proof.Machine
end

-- ==== Proofs: the entry into ALERT with a set requested of an address that is not fitted ====
section
namespace Sys2Proof.Machine

/-- A part in NORMAL whose string 1 scans address 1 alone, with cell 1 requested of address 12, which is not fitted. No run
reaches it: a record that leaves the range is cleared. -/
def setRequestedUnfitted : State :=
  State.reset.modChain .one fun k =>
    { k with range := ⟨1, 1⟩, modules := k.modules.set 11 { k.modules[11] with requested := [1] } }

/-- R36: gas at the high threshold enters ALERT, which empties every requested set, that of address 12 among them. -/
theorem alert_empties_unfitted :
    let t := fireEvaluation (Vector.replicate 8 5000) 2000 0 setRequestedUnfitted
    t.fire.stage = .alert ∧ ((t.chain .one).modules[11]).requested = [] := by decide +kernel

theorem setRequestedUnfitted_facts :
    setRequestedUnfitted.links.pnl.firstChange = none ∧ setRequestedUnfitted.fire.stage = .normal
      ∧ (setRequestedUnfitted.chain .one).fitted 11 = false
      ∧ ((setRequestedUnfitted.chain .one).modules[11]).requested = [1] := by decide

/-- Refutes O36: the entry into ALERT empties the requested sets of every address, and the statement has the record of an
address that is not fitted stay as it was, whatever its set. -/
theorem not_alertOrConfirmedEntry : ¬ Obligations.AlertOrConfirmedEntry := by
  unfold Obligations.AlertOrConfirmedEntry
  intro h
  obtain ⟨alert, emptied⟩ := alert_empties_unfitted
  obtain ⟨single, normal, unfitted, requested⟩ := setRequestedUnfitted_facts
  obtain ⟨-, entries⟩ := h (Vector.replicate 8 5000) 2000 0 setRequestedUnfitted _ rfl
  obtain ⟨-, -, snapshot⟩ := entries (.inl single)
  obtain ⟨-, -, -, sets⟩ := snapshot .alertEntry (.inr ⟨rfl, .inl normal, alert⟩)
  have kept := (sets (by rw [normal]; decide) .one).2 11
  rw [unfitted, if_neg (by decide)] at kept
  have stands := (congrArg ModuleRecord.requested kept).trans requested
  exact absurd (emptied.symm.trans stands) (by decide)

end Sys2Proof.Machine
end

-- ==== Proofs: the evaluation of a cycle complete ====
section
namespace Sys2Proof.Machine

/-! ## Readings of the modules (R22, R25, R38) -/

theorem Vector.exists_mem_get {α : Type} {n : Nat} {v : Vector α n} {q : α → Prop} :
    (∃ x, x ∈ v ∧ q x) ↔ ∃ i : Fin n, q v[i] := by
  simp only [Vector.mem_iff_getElem]
  constructor
  · rintro ⟨_, ⟨i, hi, rfl⟩, h⟩
    exact ⟨⟨i, hi⟩, h⟩
  · rintro ⟨i, h⟩
    exact ⟨_, ⟨i.val, i.isLt, rfl⟩, h⟩

theorem Vector.mem_filterMap_id {α : Type} {n : Nat} {v : Vector (Option α) n} {x : α} :
    x ∈ v.toList.filterMap id ↔ ∃ i : Fin n, v[i] = some x := by
  simp only [List.mem_filterMap, Vector.mem_toList_iff, Vector.exists_mem_get, id]

section
variable {k : Chain} {p : Params}

theorem Chain.mem_currentModules {m : ModuleRecord} : m ∈ k.currentModules ↔
    ∃ a, (k.fitted a = true ∧ (k.modules[a]).status = .current) ∧ m = k.modules[a] := by
  simp only [Chain.currentModules, List.mem_filter, List.mem_map, Prod.exists, Chain.mem_fittedModules, beq_iff_eq]
  constructor
  · rintro ⟨⟨a, m, ⟨fitted, rfl⟩, rfl⟩, current⟩
    exact ⟨a, ⟨fitted, current⟩, rfl⟩
  · rintro ⟨a, ⟨fitted, current⟩, rfl⟩
    exact ⟨⟨a, _, ⟨fitted, rfl⟩, rfl⟩, current⟩

theorem Chain.exists_current {q : ModuleRecord → Prop} : (∃ m ∈ k.currentModules, q m) ↔
    ∃ a, (k.fitted a = true ∧ (k.modules[a]).status = .current) ∧ q (k.modules[a]) := by
  simp only [Chain.mem_currentModules]
  constructor
  · rintro ⟨m, ⟨a, counted, rfl⟩, h⟩
    exact ⟨a, counted, h⟩
  · rintro ⟨a, counted, h⟩
    exact ⟨_, ⟨a, counted, rfl⟩, h⟩

/-- A voltage read as an integer, as the two voltage limits read it. -/
theorem Option.any_lifted {o : Option Nat} {q : Int → Bool} :
    (Option.any q do let v ← o; pure (v : Int)) = true ↔ ∃ v : Nat, o = some v ∧ q v = true := by
  cases o with
  | none => simp
  | some v => simp

/-- R22: the three hard limits. -/
theorem Chain.breachOv_iff : k.breachOv p = true ↔ ∃ a, (k.fitted a = true ∧ (k.modules[a]).status = .current)
    ∧ ∃ (j : Fin 16) (v : Nat), (k.modules[a]).cells[j] = some v ∧ p.overVolt < v := by
  simp only [Chain.breachOv, List.any_eq_true, Chain.exists_current, Vector.mem_toList_iff, Vector.exists_mem_get,
    Option.any_lifted, decide_eq_true_eq, gt_iff_lt]

theorem Chain.breachUv_iff : k.breachUv p = true ↔ ∃ a, (k.fitted a = true ∧ (k.modules[a]).status = .current)
    ∧ ∃ (j : Fin 16) (v : Nat), (k.modules[a]).cells[j] = some v ∧ v < p.underVolt := by
  simp only [Chain.breachUv, List.any_eq_true, Chain.exists_current, Vector.mem_toList_iff, Vector.exists_mem_get,
    Option.any_lifted, decide_eq_true_eq]

theorem Chain.breachOt_iff : k.breachOt p = true ↔ ∃ a, (k.fitted a = true ∧ (k.modules[a]).status = .current)
    ∧ ∃ (j : Fin 4) (v : Int), (k.modules[a]).sensors[j] = some v ∧ p.overTemp < v := by
  simp only [Chain.breachOt, List.any_eq_true, Chain.exists_current, Vector.mem_toList_iff, Vector.exists_mem_get,
    Option.any_eq_true, decide_eq_true_eq, gt_iff_lt]

/-- R38: the valid cell voltages of the fitted modules. -/
theorem Chain.mem_voltages {v : Nat} : v ∈ k.voltages ↔
    ∃ a, k.fitted a = true ∧ ∃ j : Fin 16, (k.modules[a]).cells[j] = some v := by
  simp only [Chain.voltages, List.mem_flatMap, Prod.exists, Chain.mem_fittedModules, Vector.mem_filterMap_id]
  constructor
  · rintro ⟨a, m, ⟨fitted, rfl⟩, h⟩
    exact ⟨a, fitted, h⟩
  · rintro ⟨a, fitted, h⟩
    exact ⟨a, _, ⟨fitted, rfl⟩, h⟩

/-- R25: the valid readings of the CURRENT modules. -/
theorem Chain.mem_readings {t : Int} : t ∈ k.currentModules.flatMap ModuleRecord.validSensors ↔
    ∃ a, (k.fitted a = true ∧ (k.modules[a]).status = .current) ∧ ∃ i : Fin 4, (k.modules[a]).sensors[i] = some t := by
  simp only [List.mem_flatMap, Chain.exists_current, ModuleRecord.validSensors, Vector.mem_filterMap_id]

theorem greatest_eq_some {l : List Int} {x : Int} (mem : x ∈ l) (most : ∀ y ∈ l, y ≤ x) : greatest l = some x :=
  List.max?_eq_some_iff.2 ⟨mem, most⟩

theorem least_eq_some {l : List Int} {x : Int} (mem : x ∈ l) (most : ∀ y ∈ l, x ≤ y) : least l = some x :=
  List.min?_eq_some_iff.2 ⟨mem, most⟩

/-- R25: every cell temperature is a valid reading of its module, and every valid reading a cell temperature. -/
theorem ModuleRecord.mem_cellTemps {m : ModuleRecord} {t : Int} (h : t ∈ m.cellTemps) : t ∈ m.validSensors := by
  simp only [ModuleRecord.cellTemps, List.mem_filterMap] at h
  obtain ⟨o, ho, h⟩ := h
  cases o with
  | some x => exact List.mem_filterMap.2 ⟨some x, ho, h⟩
  | none => exact (List.max?_eq_some_iff.1 h).1

theorem ModuleRecord.cellTemps_of_valid {m : ModuleRecord} {t : Int} (h : t ∈ m.validSensors) : t ∈ m.cellTemps := by
  obtain ⟨o, ho, rfl⟩ := List.mem_filterMap.1 h
  exact List.mem_filterMap.2 ⟨some t, ho, rfl⟩

/-- R39: both VH entries are forced to 0 by a fitted module that is not CURRENT or has an INVALID cell. -/
theorem Chain.vhForcedZero_iff : k.vhForcedZero = true ↔ ∃ a, k.fitted a = true
    ∧ ((k.modules[a]).status ≠ .current ∨ ∃ j : Fin 16, (k.modules[a]).cells[j] = none) := by
  simp only [Chain.vhForcedZero, Chain.anyInvalid, Bool.or_eq_true, List.any_eq_true, Prod.exists,
    Chain.mem_fittedModules, bne_iff_ne, ModuleRecord.hasInvalid_iff]
  constructor
  · rintro (⟨a, _, ⟨fitted, rfl⟩, h⟩ | ⟨a, _, ⟨fitted, rfl⟩, h⟩)
    · exact ⟨a, fitted, .inl h⟩
    · exact ⟨a, fitted, .inr h⟩
  · rintro ⟨a, fitted, h | h⟩
    · exact .inl ⟨a, _, ⟨fitted, rfl⟩, h⟩
    · exact .inr ⟨a, _, ⟨fitted, rfl⟩, h⟩

/-- R38, R39: the VH entries taper between their thresholds by the highest and the lowest cell voltage. -/
theorem Chain.vh_of_range {hi lo : Nat} (free : k.vhForcedZero = false) (highest : hi ∈ k.voltages)
    (lowest : lo ∈ k.voltages) (between : ∀ v ∈ k.voltages, lo ≤ v ∧ v ≤ hi) :
    k.vh p = (vhCharge p hi, vhDischarge p lo) := by
  have most : k.voltages.max? = some hi := List.max?_eq_some_iff.2 ⟨highest, fun v hv => (between v hv).2⟩
  have least : k.voltages.min? = some lo := List.min?_eq_some_iff.2 ⟨lowest, fun v hv => (between v hv).1⟩
  rw [Chain.vh, free, most, least]
  rfl

/-- R41: two different sensors of a module are faulted. -/
theorem ModuleRecord.two_faulted {m : ModuleRecord} : 2 ≤ (m.sensors.toList.filter Option.isNone).length ↔
    ∃ i j : Fin 4, i ≠ j ∧ m.sensors[i] = none ∧ m.sensors[j] = none := by
  obtain ⟨⟨l⟩, size⟩ := m.sensors
  match l, size with
  | [w, x, y, z], _ =>
    simp only [Fin.exists_fin_succ]
    cases w <;> cases x <;> cases y <;> cases z <;> simp

/-- R41: both TD entries are forced to 0 by two faulted sensors in one module, or with no reading at all. -/
theorem Chain.tdForcedZero_iff : k.tdForcedZero = true ↔
    (∃ a, (k.fitted a = true ∧ (k.modules[a]).status = .current)
      ∧ ∃ i j : Fin 4, i ≠ j ∧ (k.modules[a]).sensors[i] = none ∧ (k.modules[a]).sensors[j] = none)
    ∨ ∀ a, k.fitted a = true ∧ (k.modules[a]).status = .current → ∀ i : Fin 4, (k.modules[a]).sensors[i] = none := by
  simp only [Chain.tdForcedZero, Bool.or_eq_true, List.any_eq_true, Chain.exists_current, ge_iff_le, decide_eq_true_eq,
    ModuleRecord.two_faulted]
  refine or_congr_right ?_
  rw [Option.isNone_iff_eq_none, Chain.hottest, greatest, List.max?_eq_none_iff, List.eq_nil_iff_forall_not_mem]
  constructor
  · intro h a counted i
    by_contra some
    obtain ⟨x, hx⟩ := Option.ne_none_iff_exists'.1 some
    exact h x (Chain.mem_readings.2 ⟨a, counted, i, hx⟩)
  · intro h x hx
    obtain ⟨a, counted, i, hi⟩ := Chain.mem_readings.1 hx
    exact absurd (hi.symm.trans (h a counted i)) (by simp)

/-- R40: the TD entries are the lower of the tables' values at the coldest and the hottest reading. -/
theorem Chain.td_of_range {hot cold : Int} (free : k.tdForcedZero = false)
    (highest : hot ∈ k.currentModules.flatMap ModuleRecord.validSensors)
    (lowest : cold ∈ k.currentModules.flatMap ModuleRecord.validSensors)
    (between : ∀ x ∈ k.currentModules.flatMap ModuleRecord.validSensors, cold ≤ x ∧ x ≤ hot) :
    k.td p = ((min (interpolate cold p.chargeTable) (interpolate hot p.chargeTable)).toNat,
      (min (interpolate cold p.dischargeTable) (interpolate hot p.dischargeTable)).toNat) := by
  have most : k.hottest = some hot := greatest_eq_some highest fun x hx => (between x hx).2
  have least : k.coldest = some cold := by
    refine least_eq_some ?_ fun x hx => ?_
    · obtain ⟨m, current, valid⟩ := List.mem_flatMap.1 lowest
      exact List.mem_flatMap.2 ⟨m, current, ModuleRecord.cellTemps_of_valid valid⟩
    · obtain ⟨m, current, temp⟩ := List.mem_flatMap.1 hx
      exact (between x (List.mem_flatMap.2 ⟨m, current, ModuleRecord.mem_cellTemps temp⟩)).1
  rw [Chain.td, free, most, least]
  rfl

end

/-! ## What a cycle complete leaves (R21, R23) -/

/-- The state with the breach counters of a complete cycle. -/
def State.breachesCounted (s : State) (c : Str) : State :=
  s.modCells c fun v =>
    v.count ((s.chain c).breachOv s.params) ((s.chain c).breachUv s.params) ((s.chain c).breachOt s.params)

/-- R23: the cause named where a counter newly reaches 3. -/
def State.causeReached (s : State) (c : Str) : Option LockCause :=
  (s.cells c).reached ((s.chain c).breachOv s.params) ((s.chain c).breachUv s.params) ((s.chain c).breachOt s.params)

/-- R42: the VH and TD entries of a complete cycle written. -/
def State.rowsWritten (s : State) (c : Str) (k : Chain) (p : Params) : State :=
  s.updateVhTd c (k.vh p) (k.td p)

/-- R21: the counters, then the request and the rows in one order or the other. -/
theorem State.cycleComplete_course (s : State) (c : Str) :
    (s.causeReached c = none ∧ s.cycleComplete c = (s.breachesCounted c).rowsWritten c (s.chain c) s.params)
    ∨ ∃ cause n, s.causeReached c = some cause
      ∧ (s.cycleComplete c = { ((((s.breachesCounted c).countTrip c cause).protect c cause).rowsWritten c (s.chain c)
            s.params) with choices := n }
        ∨ s.cycleComplete c = { ((((s.breachesCounted c).countTrip c cause).rowsWritten c (s.chain c) s.params).protect c
            cause) with choices := n }) := by
  have e : s.cycleComplete c = match s.causeReached c with
      | none => (s.breachesCounted c).rowsWritten c (s.chain c) s.params
      | some cause => ((s.breachesCounted c).countTrip c cause).inAnyOrder
        [fun x => x.protect c cause, fun x => x.rowsWritten c (s.chain c) s.params] := rfl
  cases reached : s.causeReached c with
  | none => exact .inl ⟨rfl, by rw [e, reached]⟩
  | some cause =>
    rw [reached] at e
    obtain ⟨n, order⟩ := ((s.breachesCounted c).countTrip c cause).inAnyOrder_two (fun x => x.protect c cause)
      fun x => x.rowsWritten c (s.chain c) s.params
    exact .inr ⟨cause, n, rfl, order.imp e.trans e.trans⟩

@[simp] theorem State.rowsWritten_frame (s : State) (c : Str) (k : Chain) (p : Params) :
    (s.rowsWritten c k p).supervision = s.supervision ∧ (s.rowsWritten c k p).strings = s.strings
      ∧ (s.rowsWritten c k p).store = s.store ∧ (s.rowsWritten c k p).uptime = s.uptime := by
  simp [State.rowsWritten]

/-- R42: of the table, the VH and TD entries of the string. -/
theorem State.rowsWritten_table (s : State) (c : Str) (k : Chain) (p : Params) :
    (s.rowsWritten c k p).envelope.table = { s.envelope.table with
      vh := s.envelope.table.vh.setString c (k.vh p).1 (k.vh p).2
      td := s.envelope.table.td.setString c (k.td p).1 (k.td p).2 } := by
  simp [State.rowsWritten, State.updateVhTd]

/-- R69: a change of string state changes no row but GA. -/
theorem State.setString_table (s : State) (c : Str) (new : StringState) (g : Row) :
    { (s.setString c new).envelope.table with ga := g } = { s.envelope.table with ga := g } :=
  State.setString_keeps (P := fun t => ({ t.envelope.table with ga := g } : LimitTable) = { s.envelope.table with ga := g })
    (fun t n h => h) (fun t n d h => by simpa using h) (fun t h => by simpa [State.downward] using h)
    (fun t h => by simpa [State.computeGa_table] using h) (fun t h => by simpa using h) rfl

theorem State.protect_table (s : State) (c : Str) (k : LockCause) (g : Row) :
    { (s.protect c k).envelope.table with ga := g } = { s.envelope.table with ga := g } := by
  unfold State.protect
  split
  · rw [State.setString_table]
    split <;> rfl
  all_goals simp only [State.setString_table]

/-- R23: the counters of a complete cycle are counted at once. -/
theorem State.cycleComplete_supervision (s : State) (c : Str) :
    (s.cycleComplete c).supervision = (s.breachesCounted c).supervision := by
  rcases s.cycleComplete_course c with ⟨-, e⟩ | ⟨cause, n, -, e | e⟩
  all_goals
    rw [e]
    simp

/-- R42: a complete cycle writes the VH and TD entries of its string; of the others at most GA changes. -/
theorem State.cycleComplete_table (s : State) (c : Str) (g : Row) :
    { (s.cycleComplete c).envelope.table with ga := g } = { s.envelope.table with
      vh := s.envelope.table.vh.setString c ((s.chain c).vh s.params).1 ((s.chain c).vh s.params).2
      td := s.envelope.table.td.setString c ((s.chain c).td s.params).1 ((s.chain c).td s.params).2
      ga := g } := by
  have counted (cause : LockCause) :
      ((s.breachesCounted c).countTrip c cause).envelope.table = s.envelope.table := by simp [State.breachesCounted]
  rcases s.cycleComplete_course c with ⟨-, e⟩ | ⟨cause, n, -, e | e⟩
  · rw [e, State.rowsWritten_table]
    rfl
  · rw [e, State.rowsWritten_table]
    have same := ((s.breachesCounted c).countTrip c cause).protect_table c cause g
    rw [counted] at same
    injection same with vh td cd fs ga sc
    simp only [vh, td, cd, fs, sc]
  · rw [e]
    refine (State.protect_table _ c cause g).trans ?_
    rw [State.rowsWritten_table, counted]

/-- R23: with no counter newly at 3 no string and no record changes. -/
theorem State.cycleComplete_unreached {s : State} {c : Str} (none : s.causeReached c = none) :
    (s.cycleComplete c).strings = s.strings ∧ (s.cycleComplete c).store = s.store := by
  rcases s.cycleComplete_course c with ⟨-, e⟩ | ⟨cause, n, some, -⟩
  · rw [e]
    simp [State.breachesCounted]
  · exact absurd (none.symm.trans some) (by simp)

/-- R23, R52: a counter newly at 3 counts its trip and makes its request of the string, of it alone. -/
theorem State.cycleComplete_reached {s : State} {c : Str} {cause : LockCause} (reached : s.causeReached c = some cause)
    (hard : cause ≠ .excursion) :
    ((s.cycleComplete c).store.strings.get c).trips = (s.store.strings.get c).trips.count cause
    ∧ ((s.cycleComplete c).string c).state = (s.string c).state.protected cause s.uptime
    ∧ ∀ d, d ≠ c → (s.cycleComplete c).string d = s.string d := by
  have before (u : State) (strings : u.strings = s.strings) (uptime : u.uptime = s.uptime)
      (store : u.store = ((s.breachesCounted c).countTrip c cause).store) :
      ((u.protect c cause).store.strings.get c).trips = (s.store.strings.get c).trips.count cause
      ∧ ((u.protect c cause).string c).state = (s.string c).state.protected cause s.uptime
      ∧ ∀ d, d ≠ c → (u.protect c cause).string d = s.string d := by
    have same (d : Str) : u.string d = s.string d := by rw [State.string, strings, State.string]
    refine ⟨?_, ?_, fun d other => (State.protect_other other cause).trans (same d)⟩
    · rw [State.protect_trips, if_neg fun h => hard h.2, store, State.countTrip_trips]
      rfl
    · rw [State.protect_state, same, uptime]
  rcases s.cycleComplete_course c with ⟨none, -⟩ | ⟨cause', n, some, e⟩
  · exact absurd (reached.symm.trans none) (by simp)
  obtain rfl : cause = cause' := Option.some.inj (reached.symm.trans some)
  rcases e with e | e <;> rw [e]
  · have h := before ((s.breachesCounted c).countTrip c cause) rfl rfl rfl
    simpa [State.string] using h
  · exact before (((s.breachesCounted c).countTrip c cause).rowsWritten c (s.chain c) s.params) (by simp [State.breachesCounted])
      (by simp [State.breachesCounted]) (by simp)

/-! ## The obligation -/

theorem nextCounter_of_breach {b : Bool} (h : b = true) (n : Nat) : nextCounter b n = min 3 (n + 1) := by
  subst h
  simp only [nextCounter, if_true]
  split <;> omega

theorem nextCounter_of_none {b : Bool} (h : ¬ b = true) (n : Nat) : nextCounter b n = 0 := if_neg h

theorem reachesThree_iff {b : Bool} {n : Nat} : reachesThree b n = true ↔ b = true ∧ n = 2 := by
  simp [reachesThree]

/-- R23: no cause is reached where no counter newly stands at 3. -/
theorem namedCause_none {ov uv ot : Bool} (h : ¬ ov = true ∧ ¬ uv = true ∧ ¬ ot = true) : namedCause ov uv ot = none := by
  obtain ⟨h1, h2, h3⟩ := h
  rw [namedCause, if_neg h1, if_neg h2, if_neg h3]

/-- R23: the cause named is the first of the three. -/
theorem namedCause_some {ov uv ot : Bool} {cause : LockCause} (h : ov = true ∧ cause = .cellOv
    ∨ ¬ ov = true ∧ uv = true ∧ cause = .cellUv ∨ ¬ ov = true ∧ ¬ uv = true ∧ ot = true ∧ cause = .cellOt) :
    namedCause ov uv ot = some cause := by
  rcases h with ⟨h, rfl⟩ | ⟨h, h', rfl⟩ | ⟨h, h', h'', rfl⟩ <;> simp [namedCause, *]

/-- R23: the three causes are not the excursion. -/
theorem State.causeReached_hard {s : State} {c : Str} {k : LockCause} (h : s.causeReached c = some k) : k ≠ .excursion := by
  rintro rfl
  simp only [State.causeReached, Supervision.reached, namedCause] at h
  split at h
  · cases h
  split at h
  · cases h
  split at h <;> cases h

/-! ## An outcome that is not GOOD (R2, R5, R8) -/

/-- The state once an outcome that is not GOOD is counted and recorded. -/
def State.lossRecorded (s : State) (c : Str) (u : ChainUnit) (o : ChainOutcome) : State :=
  ((s.modChain c fun k => { k with inFlight := none }).countMiss c o).modChain c fun k => k.lose u o

theorem State.outcomeApplied_lost {s : State} {c : Str} {u : ChainUnit} {r : Option Reply} (bad : classify u r ≠ .good) :
    s.outcomeApplied c u r = (s.lossRecorded c u (classify u r)).judgeLoss c u ((s.chain c).status u) := by
  have before : (((s.modChain c fun k => { k with inFlight := none }).countMiss c (classify u r)).chain c).status u
      = (s.chain c).status u := by
    rw [State.chain_congr (State.countMiss_chains ..), State.modChain_same]
    cases u <;> rfl
  rw [State.outcomeApplied, ← before]
  unfold State.applyOutcome
  split
  · next good => exact absurd good bad
  · rfl

theorem State.lossRecorded_chain (s : State) (c d : Str) (u : ChainUnit) (o : ChainOutcome) :
    (s.lossRecorded c u o).chain d = if d = c then { (s.chain c).lose u o with inFlight := none } else s.chain d := by
  rw [State.lossRecorded, State.modChain_chain, State.chain_congr (State.countMiss_chains ..), State.modChain_chain]
  split
  · cases u <;> subst d <;> rfl
  · rfl

/-- R2: a MISS alone is counted. -/
theorem State.lossRecorded_eq (s : State) (c : Str) (u : ChainUnit) (o : ChainOutcome) :
    s.lossRecorded c u o = { s with
      chains := s.chains.mod c fun k => { k.lose u o with inFlight := none }
      store := if o = .miss then { s.store with
        strings := s.store.strings.mod c fun n => { n with chainMisses := min 4294967295 (n.chainMisses + 1) } }
        else s.store } := by
  have chains : (fun k : Chain => Chain.lose { k with inFlight := none } u o)
      = fun k => { k.lose u o with inFlight := none } := by
    funext k
    cases u <;> rfl
  unfold State.lossRecorded State.countMiss
  split
  · simp only [State.modChain, State.modStats, PerString.mod_mod, chains]
    rfl
  · simp only [State.modChain, PerString.mod_mod, chains]

/-- R8: a status that stands or is not lost is no unit loss. -/
theorem State.judgeLoss_none {s : State} {c : Str} {u : ChainUnit} {before : UnitStatus}
    (h : (s.chain c).status u = before ∨ ((s.chain c).status u).lost = false) : s.judgeLoss c u before = s := by
  refine if_neg ?_
  rintro ⟨changed, lost⟩
  rcases h with h | h
  · exact changed h
  · exact absurd (h.symm.trans lost) (by simp)

/-- R8: a status that changes into STALE or FAILED is a unit loss. -/
theorem State.judgeLoss_some {s : State} {c : Str} {u : ChainUnit} {before : UnitStatus}
    (changed : (s.chain c).status u ≠ before) (lost : ((s.chain c).status u).lost = true) :
    s.judgeLoss c u before = (s.unitLost c).post .fault (.unitLoss c u ((s.chain c).status u)) :=
  if_pos ⟨changed, lost⟩

/-- R5: the status and the misses after a MISS. -/
theorem afterLoss_miss (status : UnitStatus) (n : Nat) :
    afterLoss .miss status n = (if n + 1 < 3 then status else .stale, min 3 (n + 1)) := by
  simp only [afterLoss]
  split
  · rw [Nat.min_eq_right (by omega)]
  · rw [Nat.min_eq_left (by omega)]

theorem vmod_congr {α : Type} {n : Nat} {i : Fin n} {f g : α → α} {v : Vector α n} (h : f v[i] = g v[i]) :
    vmod i f v = vmod i g v := by
  refine Vector.ext fun j hj => ?_
  have get (e : α → α) : (vmod i e v)[j] = if (⟨j, hj⟩ : Fin n) = i then e v[j] else v[j] := vmod_get i ⟨j, hj⟩ e v
  rw [get, get]
  split
  · next same =>
    subst same
    exact h
  · rfl

/-- R5, R8: the MISS of a STALE module is counted and empties its set. -/
theorem State.outcomeApplied_stale {s : State} {c : Str} {a : Addr} (stale : ((s.chain c).modules[a]).status = .stale) :
    s.outcomeApplied c (.module a) none = { s with
      chains := s.chains.mod c fun k => { k with
        inFlight := none
        modules := vmod a (fun m => { m with miss := min 3 (m.miss + 1), requested := [] }) k.modules }
      store := { s.store with
        strings := s.store.strings.mod c fun n => { n with chainMisses := min 4294967295 (n.chainMisses + 1) } } } := by
  have lost : ((s.chain c).modules[a]).lose .miss
      = { (s.chain c).modules[a] with miss := min 3 (((s.chain c).modules[a]).miss + 1), requested := [] } := by
    generalize (s.chain c).modules[a] = m at stale
    simp only [ModuleRecord.lose, afterLoss_miss, stale, ite_self, UnitStatus.lost, if_true]
  have stands : ((s.lossRecorded c (.module a) .miss).chain c).status (.module a) = (s.chain c).status (.module a) := by
    rw [State.lossRecorded_chain, if_pos rfl]
    show ((vmod a (fun m => m.lose .miss) (s.chain c).modules)[a]).status = ((s.chain c).modules[a]).status
    rw [vmod_same, lost]
  have applied : s.outcomeApplied c (.module a) none = _ := State.outcomeApplied_lost (by simp [classify])
  rw [applied, show classify (.module a) none = .miss from rfl, State.judgeLoss_none (.inl stands),
    State.lossRecorded_eq, if_pos rfl]
  congr 1
  refine PerString.mod_congr ?_
  simp only [Chain.lose]
  rw [vmod_congr (g := fun m => { m with miss := min 3 (m.miss + 1), requested := [] }) lost]

theorem PerString.mod_self {α : Type} {p : PerString α} {c : Str} {f : α → α} (h : f (p.get c) = p.get c) : p.mod c f = p := by
  refine PerString.ext_get fun d => ?_
  rw [PerString.get_mod]
  split
  · next same =>
    subst same
    exact h
  · rfl

theorem State.with_chains {s : State} {p : PerString Chain} (h : p = s.chains) : { s with chains := p } = s := by
  rw [h]

theorem State.cycleComplete_chains (s : State) (c : Str) : (s.cycleComplete c).chains = s.chains := by simp

/-- R5, R11, R13: the MISS of a STALE last module completes the cycle. -/
theorem replyTimeout_completes {c : Str} {a : Addr} {x : Transaction} {s : State} (running : s.phase = .running)
    (flight : (s.chain c).inFlight = some x) (scan : x.kind = .scan) (addressed : x.addressed = .module a)
    (fitted : (s.chain c).fitted a = true) (last : (s.chain c).range.last ≤ a.number)
    (stale : ((s.chain c).modules[a]).status = .stale) (quiet : (s.chain c).probes = [])
    (later : ∀ d, (s.chain c).nextDue = some d → max s.uptime x.timeout < d) :
    replyTimeout c s = State.cycleComplete { s with
      uptime := max s.uptime x.timeout
      chains := s.chains.mod c fun k => { k with
        inFlight := none, cycle := .waiting, nextUnit := .head, firstDone := true
        modules := vmod a (fun m => { m with miss := min 3 (m.miss + 1), requested := [] }) k.modules }
      store := { s.store with
        strings := s.store.strings.mod c fun n => { n with chainMisses := min 4294967295 (n.chainMisses + 1) } } } c := by
  unfold replyTimeout
  rw [if_pos running, flight]
  have ends := State.endTransaction_moduleEnd (s := s.atTime x.timeout) (c := c) none addressed fitted
  have applied : (s.atTime x.timeout).outcomeApplied c (.module a) none = _ := State.outcomeApplied_stale stale
  generalize (s.atTime x.timeout).outcomeApplied c (.module a) none = u at ends applied
  have chain : u.chain c = { s.chain c with
      inFlight := none
      modules := vmod a (fun m => { m with miss := min 3 (m.miss + 1), requested := [] }) (s.chain c).modules } := by
    rw [applied, State.chain, PerString.get_mod_same]
    rfl
  have uptime : u.uptime = max s.uptime x.timeout := by
    rw [applied]
    rfl
  obtain ⟨complete, -⟩ := ends.completed _ scan (.inl (by rw [chain]; exact last)) rfl
  have settled : Chain.arbitrate { u.chain c with cycle := .waiting, nextUnit := .head, firstDone := true } u.uptime
      = { u.chain c with cycle := .waiting, nextUnit := .head, firstDone := true } := by
    have empty : (u.chain c).probes = [] := by rw [chain, quiet]
    simp [Chain.arbitrate, Chain.startProbe, empty]
  have completed : { u with
        chains := u.chains.mod c fun k => { k with cycle := .waiting, nextUnit := .head, firstDone := true } }
      = { s with
        uptime := max s.uptime x.timeout
        chains := s.chains.mod c fun k => { k with
          inFlight := none, cycle := .waiting, nextUnit := .head, firstDone := true
          modules := vmod a (fun m => { m with miss := min 3 (m.miss + 1), requested := [] }) k.modules }
        store := { s.store with
          strings := s.store.strings.mod c fun n => { n with chainMisses := min 4294967295 (n.chainMisses + 1) } } } := by
    rw [applied]
    simp only [State.atTime, PerString.mod_mod]
  dsimp only
  rw [complete (by rw [chain, uptime]; exact later), ← completed]
  refine State.with_chains (PerString.mod_self ?_)
  rw [State.cycleComplete_chains, PerString.get_mod_same]
  exact settled

/-- Settles O18. -/
theorem cycleCompleteIsEvaluated : Obligations.CycleCompleteIsEvaluated := by
  unfold Obligations.CycleCompleteIsEvaluated
  refine ⟨fun c a x s running flight scan addressed fitted last stale quiet later => ?_, ?_⟩
  · exact congrArg Host.Outcome.next
      (replyTimeout_completes running flight scan addressed fitted last stale quiet later)
  intro c s t counted ov uv ot ht hcounted hov huv hot
  have ovIff : (s.chain c).breachOv s.params = true ↔ ov := by simp only [hov, hcounted, Chain.breachOv_iff]
  have uvIff : (s.chain c).breachUv s.params = true ↔ uv := by simp only [huv, hcounted, Chain.breachUv_iff]
  have otIff : (s.chain c).breachOt s.params = true ↔ ot := by simp only [hot, hcounted, Chain.breachOt_iff]
  have supervision : t.supervision = (s.breachesCounted c).supervision := ht ▸ s.cycleComplete_supervision c
  have cells : t.cells c = (s.cells c).count ((s.chain c).breachOv s.params) ((s.chain c).breachUv s.params)
      ((s.chain c).breachOt s.params) := by
    rw [State.cells, supervision]
    simp [State.breachesCounted, State.modCells, State.cells]
  have table := s.cycleComplete_table c t.envelope.table.ga
  rw [← ht] at table
  injection table with vh td cd fs ga sc
  have cause : s.causeReached c = namedCause (reachesThree ((s.chain c).breachOv s.params) (s.cells c).overVolt)
    (reachesThree ((s.chain c).breachUv s.params) (s.cells c).underVolt)
    (reachesThree ((s.chain c).breachOt s.params) (s.cells c).overTemp) := rfl
  have other (d : Str) (h : d ≠ c) : t.string d = s.string d := by
    cases reached : s.causeReached c with
    | none => rw [State.string, ht, (State.cycleComplete_unreached reached).1, State.string]
    | some k => rw [ht, (State.cycleComplete_reached reached (State.causeReached_hard reached)).2.2 d h]
  refine ⟨fun h => ?_, fun h => ?_, fun h => ?_, fun h => ?_, fun h => ?_, fun h => ?_, ?_, ?_, vh, td, cd, fs, sc,
    fun a fitted h => ?_, fun hi lo all highest lowest between p hp => ?_,
    fun hottest coldest single highest lowest between => ?_, fun none => ?_, fun a now i j apart first second => ?_,
    fun d h => ⟨?_, other d h⟩, fun none => ?_, fun k h => ?_⟩
  · rw [cells]
    exact nextCounter_of_breach (ovIff.2 h) _
  · rw [cells]
    exact nextCounter_of_none (h ∘ ovIff.1) _
  · rw [cells]
    exact nextCounter_of_breach (uvIff.2 h) _
  · rw [cells]
    exact nextCounter_of_none (h ∘ uvIff.1) _
  · rw [cells]
    exact nextCounter_of_breach (otIff.2 h) _
  · rw [cells]
    exact nextCounter_of_none (h ∘ otIff.1) _
  · rw [cells]
    rfl
  · rw [ht]
    simp
  · rw [Chain.vh, if_pos (Chain.vhForcedZero_iff.2 ⟨a, fitted, h⟩)]
  · subst hp
    have free : (s.chain c).vhForcedZero = false := by
      rw [← Bool.not_eq_true, Chain.vhForcedZero_iff]
      rintro ⟨a, fitted, h | ⟨j, h⟩⟩
      · exact h ((hcounted a).1 (all a fitted).1).2
      · exact (all a fitted).2 j h
    have member {v : Nat} (h : ∃ a, counted a ∧ ∃ j : Fin 16, ((s.chain c).modules[a]).cells[j] = some v) :
        v ∈ (s.chain c).voltages := by
      obtain ⟨a, now, j, h⟩ := h
      exact Chain.mem_voltages.2 ⟨a, ((hcounted a).1 now).1, j, h⟩
    rw [Chain.vh_of_range free (member highest) (member lowest) fun v hv => ?_]
    · simp only [vhCharge, vhDischarge, ge_iff_le, apply_ite Int.toNat, Int.toNat_zero]
    · obtain ⟨a, fitted, j, h⟩ := Chain.mem_voltages.1 hv
      exact between a (all a fitted).1 j v h
  · simp only [hcounted] at single highest lowest between
    refine Chain.td_of_range ?_ (Chain.mem_readings.2 highest) (Chain.mem_readings.2 lowest) fun x hx => ?_
    · rw [← Bool.not_eq_true, Chain.tdForcedZero_iff]
      rintro (⟨a, now, i, j, apart, first, second⟩ | none)
      · exact single a now i j apart first second
      · obtain ⟨a, now, i, h⟩ := highest
        exact absurd (h.symm.trans (none a now i)) (by simp)
    · obtain ⟨a, now, j, h⟩ := Chain.mem_readings.1 hx
      exact between a now j x h
  · exact if_pos (Chain.tdForcedZero_iff.2 (.inr fun a now => none a ((hcounted a).2 now)))
  · exact if_pos (Chain.tdForcedZero_iff.2 (.inl ⟨a, (hcounted a).1 now, i, j, apart, first, second⟩))
  · rw [State.cells, supervision]
    simp [State.breachesCounted, State.modCells, State.cells, PerString.get_mod, h]
  · rw [ht]
    refine State.cycleComplete_unreached (cause.trans (namedCause_none ?_))
    simpa only [reachesThree_iff, ovIff, uvIff, otIff] using none
  · have reached : s.causeReached c = some k := by
      refine cause.trans (namedCause_some ?_)
      simpa only [reachesThree_iff, ovIff, uvIff, otIff, and_assoc] using h
    obtain ⟨trips, state, -⟩ := State.cycleComplete_reached reached (State.causeReached_hard reached)
    rw [ht]
    refine ⟨trips, fun joined => ?_⟩
    rw [state, joined]
    rfl

end Sys2Proof.Machine
end

-- ==== Proofs: a transaction that does not end GOOD ====
section
namespace Sys2Proof.Machine

/-! ## The end of a transaction (R1, R2, R15) -/

section
variable {s : State} {c : Str} {x : Transaction}

/-- R1: the end of a transaction asks neither when it was started nor what its chain had in flight. -/
theorem State.endTransaction_landed (s : State) (c : Str) (x : Transaction) (n : Nat) (o : Option Transaction)
    (r : Option Reply) :
    State.endTransaction { s with chains := s.chains.mod c fun k => { k with inFlight := o } } c
      { x with timeout := n } r = s.endTransaction c x r := by
  have landed : State.modChain { s with chains := s.chains.mod c fun k => { k with inFlight := o } } c
      (fun k => { k with inFlight := none }) = s.modChain c fun k => { k with inFlight := none } := by
    simp only [State.modChain, PerString.mod_mod]
  have fitted : (State.chain { s with chains := s.chains.mod c fun k => { k with inFlight := o } } c).stillFitted
      x.addressed = (s.chain c).stillFitted x.addressed := by
    rw [State.chain, PerString.get_mod_same]
    cases x.addressed <;> rfl
  simp only [State.endTransaction, State.concludeTransaction, landed, fitted]

/-- R2: every MISS ends a transaction as a timeout does. -/
theorem State.endTransaction_miss (s : State) (c : Str) {x : Transaction} {r : Option Reply}
    (miss : classify x.addressed r = .miss) : s.endTransaction c x r = s.endTransaction c x none := by
  have applied (t : State) : t.applyOutcome c x.addressed r = t.applyOutcome c x.addressed none := by
    unfold State.applyOutcome
    split
    · next good => exact absurd (miss.symm.trans good) (by simp)
    · rw [miss]
      rfl
  have timeout : classify x.addressed none = .miss := rfl
  simp only [State.endTransaction, State.concludeTransaction, applied, miss, timeout]

/-- R2: a reply with a wrong CRC, or of another unit, is a MISS. -/
theorem classify_miss {u : ChainUnit} {r : Reply} (h : answersTo r u = false) : classify u (some r) = .miss := by
  simp [classify, h]

/-- R15: the end of a probe whose module is no longer fitted. -/
theorem State.endTransaction_unfitted {a : Addr} (r : Option Reply) (probe : x.kind = .probe)
    (addressed : x.addressed = .module a) (unfitted : (s.chain c).fitted a = false) :
    (∀ l, (s.endTransaction c x r).link l = { s.link l with
      out := (s.link l).out ++ (x.waiters.filter fun w => w.link = l).map fun w =>
        ⟨answerKind 3, w.seq, .refusedState, [], false⟩ })
    ∧ s.endTransaction c x r = { s with
      chains := s.chains.mod c fun k => Chain.arbitrate { k with inFlight := none } s.uptime
      links := (s.endTransaction c x r).links
      store := if classify (.module a) r = .miss then { s.store with
        strings := s.store.strings.mod c fun n => { n with chainMisses := min 4294967295 (n.chainMisses + 1) } }
        else s.store } := by
  have ended : s.endTransaction c x r = State.modChain ((((s.modChain c fun k => { k with inFlight := none }).countMiss c
      (classify (.module a) r)).answerWaiters x.waiters .refusedState [])) c fun k => k.arbitrate s.uptime := by
    have still : (s.chain c).stillFitted (.module a) = false := unfitted
    simp [State.endTransaction, State.concludeTransaction, addressed, still, probe, State.answerProbe]
  rw [ended]
  refine ⟨fun l => ?_, ?_⟩
  · have links : ((s.modChain c fun k => { k with inFlight := none }).countMiss c (classify (.module a) r)).links
        = s.links := by simp
    refine (State.answerWaiters_link _ _ _ _ l).trans ?_
    simp only [State.link, links]
  · rw [State.answerWaiters_eq]
    unfold State.countMiss
    split
    · simp only [State.modChain, State.modStats, PerString.mod_mod]
      rfl
    · simp only [State.modChain, PerString.mod_mod]

/-- R11: the end of the head's scan transaction goes on with the first address of the range. -/
theorem State.endTransaction_head {u : State} {r : Option Reply} {n : Nat} (scan : x.kind = .scan)
    (addressed : x.addressed = .head) (hu : s.outcomeApplied c .head r = u) (first : (u.chain c).range.first = n)
    (h : n - 1 < 12) :
    s.endTransaction c x r = { u with
      chains := u.chains.mod c fun k => Chain.arbitrate { k with nextUnit := .module ⟨n - 1, h⟩ } u.uptime } := by
  subst first
  have next : (u.chain c).after .head = some (.module ⟨(u.chain c).range.first - 1, h⟩) := dif_pos h
  have concluded : s.concludeTransaction c x r = u.advance c .head := by
    rw [← hu]
    unfold State.concludeTransaction
    rw [scan, addressed]
    rfl
  rw [State.endTransaction, concluded, State.advance, next]
  simp only [State.modChain, PerString.mod_mod]

end

/-! ## The loss of a unit (R5, R8, R53) -/

section
variable {s : State} {c : Str} {u : ChainUnit} {before : UnitStatus}

/-- R8: whatever a change of status leads to, no answer is sent, and the other string stands. -/
theorem State.judgeLoss_out (s : State) (c : Str) (u : ChainUnit) (before : UnitStatus) (l : Link) :
    ((s.judgeLoss c u before).link l).out = (s.link l).out :=
  LinkState.out_of_quiet (State.quiet_link (by simp) l)

theorem State.judgeLoss_other (s : State) (u : ChainUnit) (before : UnitStatus) {d : Str} (h : d ≠ c) :
    (s.judgeLoss c u before).string d = s.string d := by
  unfold State.judgeLoss
  dsimp only
  split
  · exact State.unitLost_other h
  · rfl

theorem State.judgeLoss_eq (s : State) (c : Str) (u : ChainUnit) (before : UnitStatus) :
    s.judgeLoss c u before = { s with
      strings := (s.judgeLoss c u before).strings, envelope := (s.judgeLoss c u before).envelope
      agreement := (s.judgeLoss c u before).agreement, permit := (s.judgeLoss c u before).permit
      links := (s.judgeLoss c u before).links, choices := (s.judgeLoss c u before).choices } :=
  State.eq_iff.2 (by simp)

/-- R53: what a unit loss posts is not FAULT. -/
theorem State.SameNotice.unitLost (s : State) (c : Str) : s.SameNotice .fault (s.unitLost c) := by
  unfold State.unitLost
  split
  · exact .setString (by decide) (by decide) (by decide) _ _ _
  · exact .setString (by decide) (by decide) (by decide) _ _ _
  · exact .setString (by decide) (by decide) (by decide) _ _ _
  · exact .of_links rfl

/-- R8: a unit loss is posted and opens a JOINED string. -/
theorem State.judgeLoss_lost {now : UnitStatus} (status : (s.chain c).status u = now) (changed : now ≠ before)
    (lost : now.lost = true) :
    s.posts (s.judgeLoss c u before) .fault (.unitLoss c u now)
    ∧ ((s.string c).state = .joined →
      ((s.judgeLoss c u before).string c).state = .opening .opened (s.uptime + 2000)) := by
  subst status
  rw [State.judgeLoss_some changed lost]
  refine ⟨State.posts_of_before (.unitLost s c) (State.posts_of_same fun l => rfl), fun joined => ?_⟩
  show ((s.unitLost c).string c).state = _
  rw [State.unitLost_state, joined]
  rfl

end

/-- R5: a module record with its reply FAULTED. -/
theorem ModuleRecord.lose_faulted (m : ModuleRecord) :
    m.lose .faulted = { m with status := .failed, miss := 0, requested := [] } := rfl

/-- R5: the status and the misses of a unit, after a MISS. -/
theorem ModuleRecord.lose_miss (m : ModuleRecord) : m.lose .miss = { m with
    status := if m.miss + 1 < 3 then m.status else .stale
    miss := min 3 (m.miss + 1)
    requested := if (if m.miss + 1 < 3 then m.status else .stale).lost then [] else m.requested } := by
  rw [ModuleRecord.lose, afterLoss_miss]

theorem HeadRecord.lose_miss (h : HeadRecord) : h.lose .miss = { h with
    status := if h.miss + 1 < 3 then h.status else .stale, miss := min 3 (h.miss + 1) } := by
  rw [HeadRecord.lose, afterLoss_miss]

/-- R5, R8: an outcome of a module that is not GOOD, applied: its record alone, then the judgement of its status. -/
structure State.ModuleLost (s : State) (c : Str) (a : Addr) (o : ChainOutcome) (u : State) : Prop where
  record : (u.chain c).modules[a] = ((s.chain c).modules[a]).lose o
  records : ∀ b : Addr, b ≠ a → (u.chain c).modules[b] = (s.chain c).modules[b]
  chain : u.chain c = { s.chain c with inFlight := none, modules := (u.chain c).modules }
  stands : ((u.chain c).modules[a]).status = ((s.chain c).modules[a]).status
      ∨ (((u.chain c).modules[a]).status).lost = false → u.strings = s.strings ∧ u.links = s.links
  lost : ∀ now, now = ((u.chain c).modules[a]).status → now ≠ ((s.chain c).modules[a]).status → now.lost = true →
    s.posts u .fault (.unitLoss c (.module a) now)
    ∧ ((s.string c).state = .joined → (u.string c).state = .opening .opened (s.uptime + 2000))
  out : ∀ l, (u.link l).out = (s.link l).out
  other : ∀ d, d ≠ c → u.chain d = s.chain d ∧ u.string d = s.string d
  frame : u = { s with
    chains := u.chains, strings := u.strings, envelope := u.envelope, agreement := u.agreement
    permit := u.permit, links := u.links, choices := u.choices
    store := if o = .miss then { s.store with
      strings := s.store.strings.mod c fun n => { n with chainMisses := min 4294967295 (n.chainMisses + 1) } }
      else s.store }

theorem State.outcomeApplied_moduleLost (s : State) (c : Str) (a : Addr) {r : Option Reply}
    (bad : classify (.module a) r ≠ .good) :
    s.ModuleLost c a (classify (.module a) r) (s.outcomeApplied c (.module a) r) := by
  rw [State.outcomeApplied_lost bad]
  generalize classify (.module a) r = o
  have recorded : (s.lossRecorded c (.module a) o).chain c
      = { s.chain c with inFlight := none, modules := vmod a (fun m => m.lose o) (s.chain c).modules } := by
    rw [State.lossRecorded_chain, if_pos rfl]
    rfl
  have equation := s.lossRecorded_eq c (.module a) o
  generalize s.lossRecorded c (.module a) o = t at recorded equation
  have chains (d : Str) : (t.judgeLoss c (.module a) ((s.chain c).status (.module a))).chain d = t.chain d :=
    State.chain_congr (State.judgeLoss_chains ..) d
  have same (d : Str) : t.string d = s.string d := by
    rw [equation]
    rfl
  have links : t.links = s.links := by rw [equation]
  have uptime : t.uptime = s.uptime := by rw [equation]
  refine ⟨?_, fun b h => ?_, ?_, fun h => ?_, fun now hnow changed lost => ?_, fun l => ?_, fun d h => ⟨?_, ?_⟩, ?_⟩
  · rw [chains, recorded, vmod_same]
  · rw [chains, recorded, vmod_get, if_neg h]
  · rw [chains, recorded]
  · rw [chains] at h
    rw [State.judgeLoss_none (s := t) (c := c) (u := .module a) (before := (s.chain c).status (.module a)) h, equation]
    exact ⟨rfl, rfl⟩
  · rw [chains] at hnow
    obtain ⟨posted, opened⟩ := State.judgeLoss_lost (s := t) (c := c) (u := .module a)
      (before := (s.chain c).status (.module a)) hnow.symm changed lost
    rw [same, uptime] at opened
    exact ⟨State.posts_of_before (.of_links links) posted, opened⟩
  · rw [State.judgeLoss_out, State.link, links, State.link]
  · rw [chains, equation, State.chain, PerString.get_mod_other _ _ h, State.chain]
  · rw [State.judgeLoss_other _ _ _ h, same]
  · refine State.eq_iff.2 ?_
    simp [equation]

/-- R3, R5, R8, R11: a scan transaction of the head that does not end GOOD. -/
structure State.HeadLost (s : State) (c : Str) (o : ChainOutcome) (t : State) : Prop where
  record : (t.chain c).head = (s.chain c).head.lose o
  modules : (t.chain c).modules = (s.chain c).modules
  store : t.store = if o = .miss then { s.store with
      strings := s.store.strings.mod c fun n => { n with chainMisses := min 4294967295 (n.chainMisses + 1) } }
    else s.store
  uptime : t.uptime = s.uptime
  stands : (t.chain c).head.status = (s.chain c).head.status ∨ (t.chain c).head.status.lost = false →
    t.strings = s.strings
  lost : ∀ now, now = (t.chain c).head.status → now ≠ (s.chain c).head.status → now.lost = true →
    s.posts t .fault (.unitLoss c .head now)
    ∧ ((s.string c).state = .joined → (t.string c).state = .opening .opened (s.uptime + 2000))

theorem State.endTransaction_headLost {s : State} {c : Str} {x : Transaction} {r : Option Reply} (scan : x.kind = .scan)
    (addressed : x.addressed = .head) (first : (s.chain c).range.first ≤ 12) (bad : classify .head r ≠ .good) :
    s.HeadLost c (classify .head r) (s.endTransaction c x r) := by
  have applied := State.outcomeApplied_lost (s := s) (c := c) bad
  generalize outcome : s.outcomeApplied c .head r = u at applied
  generalize classify .head r = o at applied
  have recorded : (s.lossRecorded c .head o).chain c
      = { s.chain c with inFlight := none, head := (s.chain c).head.lose o } := by
    rw [State.lossRecorded_chain, if_pos rfl]
    rfl
  have equation := s.lossRecorded_eq c .head o
  generalize s.lossRecorded c .head o = v at recorded equation applied
  have chain : u.chain c = v.chain c := by
    rw [applied]
    exact State.chain_congr (State.judgeLoss_chains ..) c
  have first' : (s.chain c).range.first - 1 < 12 := by omega
  have ended := State.endTransaction_head scan addressed outcome (by rw [chain, recorded]) first'
  have strings : (s.endTransaction c x r).strings = u.strings := by rw [ended]
  have links : (s.endTransaction c x r).links = u.links := by rw [ended]
  obtain ⟨head, modules, -, -⟩ := Chain.arbitrate_records
    { u.chain c with nextUnit := .module ⟨(s.chain c).range.first - 1, first'⟩ } u.uptime
  have arbitrated : (s.endTransaction c x r).chain c = Chain.arbitrate
      { u.chain c with nextUnit := .module ⟨(s.chain c).range.first - 1, first'⟩ } u.uptime := by
    rw [ended, State.chain, PerString.get_mod_same]
    rfl
  rw [← arbitrated, chain, recorded] at head modules
  have store : (s.endTransaction c x r).store = v.store := by
    rw [ended, applied]
    simp
  have uptime : (s.endTransaction c x r).uptime = v.uptime := by
    rw [ended, applied]
    simp
  have same (d : Str) : v.string d = s.string d := by
    rw [equation]
    rfl
  have status : (v.chain c).status .head = ((s.endTransaction c x r).chain c).head.status := by
    rw [head, recorded]
    rfl
  refine ⟨head, modules, ?_, ?_, fun h => ?_, fun now hnow changed lost => ?_⟩
  · rw [store, equation]
  · rw [uptime, equation]
  · rw [← status] at h
    rw [strings, applied, State.judgeLoss_none (before := (s.chain c).status .head) h, equation]
  · rw [← status] at hnow
    obtain ⟨posted, opened⟩ := State.judgeLoss_lost (before := (s.chain c).status .head) hnow.symm changed lost
    have now' : v.uptime = s.uptime := by rw [equation]
    rw [← applied, same, now'] at opened
    rw [← applied] at posted
    refine ⟨State.posts_of_before (t := v) (.of_links (by rw [equation])) fun l => ?_, fun joined => ?_⟩
    · rw [State.link, links]
      exact posted l
    · rw [State.string, strings]
      exact opened joined

/-! ## The obligation -/

/-- Log entry 2: an event that was due no later than now takes place now. -/
theorem State.atTime_same {t : State} {n : Nat} (h : t.uptime = n) : t.atTime n = t := by
  rw [State.atTime, h, Nat.max_self, ← h]

/-- R2: a reply with a wrong CRC, or of another unit, does not answer to the addressed unit. -/
theorem answersTo_mismatch {u : ChainUnit} {r : Reply} : (match r with
      | .head crc n .. => crc = false ∨ n ≠ 0 ∨ u ≠ .head
      | .module crc n .. => crc = false ∨ ∀ a : Addr, n = a.number → u ≠ .module a) → answersTo r u = false := by
  intro mismatch
  cases r with
  | head crc n =>
    cases u with
    | head => rcases mismatch with h | h | h <;> simp_all [answersTo]
    | module a => rfl
  | module crc n =>
    cases u with
    | head => rfl
    | module a =>
      rcases mismatch with h | h
      · simp [answersTo, h]
      · have other : n ≠ a.number := fun e => h a e rfl
        simp [answersTo, other]

/-- R1: a reply on a running part ends the transaction in flight. -/
theorem chainReply_running {c : Str} {x : Transaction} {r : Reply} {s : State} (running : s.phase = .running)
    (flight : (s.chain c).inFlight = some x) :
    exec (.chainReply c r) s = .next (s.endTransaction c x (some r)) := by
  show Host.Outcome.next (chainReply c r s) = _
  rw [chainReply, if_pos running, flight]

/-- R1: a timeout ends the transaction in flight, when it is due. -/
theorem replyTimeout_running {c : Str} {x : Transaction} {s : State} (running : s.phase = .running)
    (flight : (s.chain c).inFlight = some x) :
    exec (.replyTimeout c) s = .next ((s.atTime x.timeout).endTransaction c x none) := by
  show Host.Outcome.next (replyTimeout c s) = _
  rw [replyTimeout, if_pos running, flight]

/-- Settles O9. -/
theorem timeoutCountsAMiss : Obligations.TimeoutCountsAMiss := by
  unfold Obligations.TimeoutCountsAMiss
  intro c s running
  refine ⟨fun r idle => ?_, fun x r flight mismatch => ?_, fun a x flight probe addressed unfitted => ?_,
    fun a x cells sensors applied flight addressed fitted old hold => ?_,
    fun x flight scan addressed first old hold => ⟨fun i v b m p => ?_, ?_⟩,
    fun a x flight addressed fitted old hold => ?_⟩
  · constructor
    · show Host.Outcome.next (chainReply c r s) = _
      rw [chainReply, if_pos running, idle]
    · show Host.Outcome.next (replyTimeout c s) = _
      rw [replyTimeout, if_pos running, idle]
  · have miss : classify x.addressed (some r) = .miss := classify_miss (answersTo_mismatch mismatch)
    rw [chainReply_running running flight, s.endTransaction_miss c miss]
    have late := State.endTransaction_landed s c x s.uptime (some { x with timeout := s.uptime }) none
    rw [← late]
    show _ = Host.Outcome.next (replyTimeout c _)
    rw [replyTimeout, if_pos running, State.chain, PerString.get_mod_same]
    dsimp only
    rw [State.atTime_same]
    rfl
  · obtain ⟨links, equation⟩ := State.endTransaction_unfitted (s := s.atTime x.timeout) none probe addressed unfitted
    exact ⟨_, replyTimeout_running running flight, links, equation⟩
  · subst hold
    have faulted : classify (.module a) (some (.module true a.number true cells sensors applied)) = .faulted := by
      simp [classify, answersTo, faulty]
    have lost := s.outcomeApplied_moduleLost c a (r := some (.module true a.number true cells sensors applied))
      (by rw [faulted]; decide)
    have ends := State.endTransaction_moduleEnd (some (.module true a.number true cells sensors applied)) addressed fitted
    rw [faulted] at lost ends
    generalize s.outcomeApplied c (.module a) _ = u at lost ends
    have record := lost.record
    rw [ModuleRecord.lose_faulted] at record
    have status : ((u.chain c).modules[a]).status = .failed := by rw [record]
    refine ⟨u, _, chainReply_running running flight, record, lost.records, lost.chain, fun h => ?_, fun h => ?_, lost.out, lost.other,
      lost.frame, ends⟩
    · exact lost.stands (.inl (status.trans h.symm))
    · exact lost.lost .failed status.symm (Ne.symm h) rfl
  · subst hold
    have faulted : classify .head (some (.head true 0 true i v b m p)) = .faulted := by
      simp [classify, answersTo, faulty]
    have lost := State.endTransaction_headLost (r := some (.head true 0 true i v b m p)) scan addressed first
      (by rw [faulted]; decide)
    rw [faulted] at lost
    refine ⟨_, chainReply_running running flight, ?_⟩
    generalize s.endTransaction c x _ = t at lost
    have status : (t.chain c).head.status = .failed := by rw [lost.record]; rfl
    exact ⟨lost.record, lost.modules, lost.store, fun h => lost.stands (.inl (status.trans h.symm)),
      fun h => lost.lost .failed status.symm (Ne.symm h) rfl⟩
  · subst hold
    have lost := State.endTransaction_headLost (s := s.atTime x.timeout) (r := none) scan addressed first (by simp [classify])
    refine ⟨_, replyTimeout_running running flight, ?_⟩
    generalize (s.atTime x.timeout).endTransaction c x none = t at lost
    have record := lost.record
    rw [show classify .head none = .miss from rfl, HeadRecord.lose_miss] at record
    have status : (t.chain c).head.status = if (s.chain c).head.miss + 1 < 3 then (s.chain c).head.status else .stale := by
      rw [record]
      rfl
    refine ⟨record, lost.modules, ?_, fun h => ?_, fun many fresh => ?_⟩
    · rw [lost.store]
      simp [classify, State.atTime]
    · refine lost.stands (.inl ?_)
      rw [status]
      split
      · rfl
      · next many => exact (h.resolve_left many).symm
    · rw [if_neg (by omega)] at status
      obtain ⟨posted, opened⟩ := lost.lost .stale status.symm (Ne.symm fresh) rfl
      rw [lost.uptime]
      exact ⟨posted, opened⟩
  · subst hold
    have lost := (s.atTime x.timeout).outcomeApplied_moduleLost c a (r := none) (by simp [classify])
    have ends := State.endTransaction_moduleEnd (s := s.atTime x.timeout) none addressed fitted
    generalize (s.atTime x.timeout).outcomeApplied c (.module a) none = u at lost ends
    rw [show classify (.module a) none = .miss from rfl] at lost ends
    have record := lost.record
    rw [ModuleRecord.lose_miss] at record
    have status : ((u.chain c).modules[a]).status
        = if ((s.chain c).modules[a]).miss + 1 < 3 then ((s.chain c).modules[a]).status else .stale := by
      rw [record]
      rfl
    have uptime : u.uptime = max s.uptime x.timeout := by
      rw [lost.frame]
      rfl
    refine ⟨u, _, replyTimeout_running running flight, fun new hnew => ?_, lost.records, lost.chain, fun h => lost.stands (.inl ?_),
      fun many fresh => ?_, lost.out, lost.other, lost.frame, ends⟩
    · subst hnew
      rw [record]
      refine ⟨rfl, rfl, rfl, rfl, rfl, rfl, fun h => if_pos ?_, fun h => if_neg ?_⟩
      · rcases h with h | h <;> exact congrArg UnitStatus.lost h
      · intro gone
        rcases h with h | h <;> exact absurd (gone.symm.trans (congrArg UnitStatus.lost h)) (by decide)
    · rw [status]
      split
      · rfl
      · next many => exact (h.resolve_left many).symm
    · rw [if_neg (by omega)] at status
      obtain ⟨posted, opened⟩ := lost.lost .stale status.symm (Ne.symm fresh) rfl
      rw [uptime]
      exact ⟨posted, opened⟩

end Sys2Proof.Machine
end

-- ==== Proofs: a module reply is stored, and its balancing set selected ====
section
namespace Sys2Proof.Machine

/-! ## The choice of four (R35) -/

/-- R35: a candidate chosen before another: the higher voltage, between equals the lower cell number. -/
abbrev ChosenBefore (x y : Nat × Nat) : Prop := y.2 < x.2 ∨ (x.2 = y.2 ∧ x.1 < y.1)

theorem ChosenBefore.trans {x y z : Nat × Nat} (h : ChosenBefore x y) (h' : ChosenBefore y z) : ChosenBefore x z := by
  unfold ChosenBefore at *
  omega

theorem ChosenBefore.asymm {x y : Nat × Nat} (h : ChosenBefore x y) : ¬ ChosenBefore y x := by
  unfold ChosenBefore at *
  omega

/-- R35: of two cells the one or the other is chosen before. -/
theorem ChosenBefore.of_not {x y : Nat × Nat} (apart : x.1 ≠ y.1) (h : ¬ ChosenBefore x y) : ChosenBefore y x := by
  unfold ChosenBefore at *
  omega

theorem insertCandidate_eq (x : Nat × Nat) (l : List (Nat × Nat)) :
    insertCandidate x l = l.orderedInsert ChosenBefore x := by
  induction l with
  | nil => rfl
  | cons y rest ih =>
    rw [insertCandidate, List.orderedInsert, ih]

/-- R35: the order of choice of a list of candidates. -/
def choiceOrder (l : List (Nat × Nat)) : List (Nat × Nat) := l.foldr insertCandidate []

theorem choiceOrder_perm (l : List (Nat × Nat)) : (choiceOrder l).Perm l := by
  induction l with
  | nil => exact .nil
  | cons x rest ih =>
    show (insertCandidate x (choiceOrder rest)).Perm _
    rw [insertCandidate_eq]
    exact (List.perm_orderedInsert ChosenBefore x _).trans (ih.cons x)

theorem orderedInsert_chosen {x : Nat × Nat} {l : List (Nat × Nat)} (sorted : l.Pairwise ChosenBefore)
    (fresh : ∀ y ∈ l, x.1 ≠ y.1) : (l.orderedInsert ChosenBefore x).Pairwise ChosenBefore := by
  induction l with
  | nil => simp
  | cons y rest ih =>
    obtain ⟨first, sorted⟩ := List.pairwise_cons.1 sorted
    rw [List.orderedInsert]
    split
    · next before =>
      refine List.pairwise_cons.2 ⟨fun z hz => ?_, List.pairwise_cons.2 ⟨first, sorted⟩⟩
      rcases List.mem_cons.1 hz with rfl | hz
      · exact before
      · exact before.trans (first z hz)
    · next after =>
      refine List.pairwise_cons.2 ⟨fun z hz => ?_, ih sorted fun z hz => fresh z (List.mem_cons_of_mem y hz)⟩
      rcases (List.mem_orderedInsert _).1 hz with rfl | hz
      · exact .of_not (fresh y (List.mem_cons_self ..)) after
      · exact first z hz

/-- R35: the cells of a candidate list are distinct: its order of choice is strict. -/
theorem choiceOrder_sorted {l : List (Nat × Nat)} (distinct : (l.map Prod.fst).Nodup) :
    (choiceOrder l).Pairwise ChosenBefore := by
  induction l with
  | nil => exact .nil
  | cons x rest ih =>
    obtain ⟨fresh, distinct⟩ := List.nodup_cons.1 distinct
    show (insertCandidate x (choiceOrder rest)).Pairwise _
    rw [insertCandidate_eq]
    refine orderedInsert_chosen (ih distinct) fun y hy same => fresh ?_
    exact List.mem_map.2 ⟨y, (choiceOrder_perm rest).mem_iff.1 hy, same.symm⟩

/-- In a strict order, what stands among the first `n` is what fewer than `n` stand before. -/
theorem mem_take_iff {l : List (Nat × Nat)} (sorted : l.Pairwise ChosenBefore) (z : Nat × Nat) (n : Nat) :
    z ∈ l.take n ↔ z ∈ l ∧ (l.filter fun y => ChosenBefore y z).length < n := by
  induction l generalizing n with
  | nil => simp
  | cons x rest ih =>
    obtain ⟨first, sorted⟩ := List.pairwise_cons.1 sorted
    cases n with
    | zero => simp
    | succ n =>
      rw [List.take_succ_cons, List.mem_cons, List.mem_cons, ih sorted]
      by_cases same : z = x
      · subst same
        have none : ((z :: rest).filter fun y => ChosenBefore y z) = [] := by
          refine List.filter_eq_nil_iff.2 fun y hy => ?_
          rw [decide_eq_true_eq]
          rcases List.mem_cons.1 hy with rfl | hy
          · exact fun h => h.asymm h
          · exact (first y hy).asymm
        rw [none]
        simp
      · simp only [same, false_or]
        refine and_congr_right fun hz => ?_
        rw [List.filter_cons_of_pos (by simpa using first z hz), List.length_cons, Nat.succ_lt_succ_iff]

/-- R35: the cells chosen are the candidates with fewer than four chosen before them. -/
theorem mem_chooseFour {l : List (Nat × Nat)} (distinct : (l.map Prod.fst).Nodup)
    (cells : ∀ y ∈ l, 1 ≤ y.1 ∧ y.1 ≤ 16) (n : Nat) :
    n ∈ chooseFour l ↔ ∃ v, (n, v) ∈ l ∧ (l.filter fun y => ChosenBefore y (n, v)).length < 4 := by
  have chosen (z : Nat × Nat) : z ∈ (choiceOrder l).take 4
      ↔ z ∈ l ∧ (l.filter fun y => ChosenBefore y z).length < 4 := by
    rw [mem_take_iff (choiceOrder_sorted distinct), (choiceOrder_perm l).mem_iff,
      ((choiceOrder_perm l).filter _).length_eq]
  have four : chooseFour l = cellSet (((choiceOrder l).take 4).map Prod.fst) := rfl
  simp only [four, cellSet, List.mem_filter, List.contains_iff_mem, List.mem_map, Prod.exists, exists_and_right,
    exists_eq_right, chosen, List.mem_range'_1]
  refine and_iff_right_of_imp ?_
  rintro ⟨v, hv, -⟩
  have := cells _ hv
  dsimp only at this
  omega

theorem chooseFour_sorted (l : List (Nat × Nat)) : (chooseFour l).Pairwise (· < ·) :=
  List.Pairwise.filter _ (List.pairwise_lt_range' ..)

section
variable {cells : Vector (Option Nat) 16} {low : Nat} {window floor : Int}

/-- R35: the candidates of a module's cells. -/
theorem mem_candidates {y : Nat × Nat} : y ∈ candidates cells low window floor ↔
    ∃ j : Fin 16, y.1 = j.val + 1 ∧ cells[j] = some y.2 ∧ low + window < (y.2 : Int) ∧ floor < (y.2 : Int) := by
  obtain ⟨n, v⟩ := y
  simp only [candidates, List.mem_filterMap, Prod.exists, List.mk_mem_zipIdx_iff_le_and_getElem?_sub]
  constructor
  · rintro ⟨o, m, ⟨one, at_⟩, chosen⟩
    cases o with
    | none => cases chosen
    | some w =>
      dsimp only at chosen
      split at chosen
      · next above =>
        obtain ⟨rfl, rfl⟩ := Prod.mk.inj (Option.some.inj chosen)
        obtain ⟨inside, at_⟩ := List.getElem?_eq_some_iff.1 at_
        have bound : m - 1 < 16 := by simpa using inside
        exact ⟨⟨m - 1, bound⟩, by simp only; omega, by simpa using at_, above⟩
      · cases chosen
  · rintro ⟨j, rfl, at_, above⟩
    refine ⟨some v, j.val + 1, ⟨by omega, ?_⟩, if_pos above⟩
    rw [List.getElem?_eq_some_iff]
    exact ⟨by simp, by simpa using at_⟩

theorem candidates_distinct : ((candidates cells low window floor).map Prod.fst).Nodup := by
  have places : (cells.toList.zipIdx 1).Pairwise fun x y => x.2 < y.2 := by
    rw [← List.pairwise_map, List.zipIdx_map_snd]
    exact List.pairwise_lt_range' ..
  rw [List.nodup_iff_pairwise_ne, List.pairwise_map]
  refine places.filterMap _ ?_
  rintro ⟨o, i⟩ ⟨p, j⟩ before m hm n hn same
  cases o with
  | none => cases hm
  | some v =>
    cases p with
    | none => cases hn
    | some w =>
      have first : m.1 = i := by
        dsimp only at hm
        split at hm <;> cases hm
        rfl
      have second : n.1 = j := by
        dsimp only at hn
        split at hn <;> cases hn
        rfl
      rw [← first, ← second, same] at before
      exact absurd before (lt_irrefl _)

/-- R35: the candidates chosen before a cell, counted by their cells. -/
theorem chosenBefore_length {candidate : Fin 16 → Nat → Prop} {better : Fin 16 → Nat → List (Fin 16)}
    (standing : ∀ j v, candidate j v ↔ cells[j] = some v ∧ low + window < (v : Int) ∧ floor < (v : Int))
    (ahead : ∀ j v, (better j v).Nodup ∧ ∀ i, i ∈ better j v ↔ ∃ w, candidate i w ∧ (v < w ∨ (v = w ∧ i < j)))
    (j : Fin 16) (v : Nat) :
    ((candidates cells low window floor).filter fun y => ChosenBefore y (j.val + 1, v)).length = (better j v).length := by
  obtain ⟨nodup, members⟩ := ahead j v
  have places : (((candidates cells low window floor).filter fun y => ChosenBefore y (j.val + 1, v)).map Prod.fst).Perm
      ((better j v).map fun i => i.val + 1) := by
    refine (List.perm_ext_iff_of_nodup ?_ ?_).2 fun n => ?_
    · exact candidates_distinct.sublist (List.filter_sublist.map _)
    · exact nodup.map fun i k same => Fin.ext (Nat.succ.inj same)
    · simp only [List.mem_map, List.mem_filter, decide_eq_true_eq, mem_candidates, members, standing, Prod.exists]
      constructor
      · rintro ⟨n, w, ⟨⟨i, place, at_⟩, before⟩, rfl⟩
        subst place
        exact ⟨i, ⟨w, at_, before.imp id fun h => ⟨h.1.symm, by simpa using h.2⟩⟩, rfl⟩
      · rintro ⟨i, ⟨w, at_, before⟩, rfl⟩
        exact ⟨_, w, ⟨⟨i, rfl, at_⟩, before.imp id fun h => ⟨h.1.symm, by simpa using h.2⟩⟩, rfl⟩
  simpa using places.length_eq

end

/-! ## The balancing selection (R35) -/

section
variable {s : State} {c : Str} {m : ModuleRecord}

theorem State.noBalancing_iff : s.noBalancing c m = true ↔ m.status ≠ .current ∨ m.hottest = none
    ∨ (∃ x, m.hottest = some x ∧ s.params.balCeiling ≤ x) ∨ (s.fire.stage = .alert ∨ s.fire.stage.fire = true)
    ∨ ∃ b : Addr, (s.chain c).fitted b = true ∧ ∃ j : Fin 16, ((s.chain c).modules[b]).cells[j] = none := by
  have high : s.fire.stage.alertOrHigher = true ↔ s.fire.stage = .alert ∨ s.fire.stage.fire = true := by
    cases s.fire.stage <;> decide
  simp only [State.noBalancing, Bool.or_eq_true, bne_iff_ne, Option.isNone_iff_eq_none, ModuleRecord.tooHot,
    Option.any_eq_true, decide_eq_true_eq, ge_iff_le, high, Chain.anyInvalid_iff, or_assoc]

theorem State.selection_empty (h : s.noBalancing c m = true) : s.selection c m = [] := if_pos h

/-- R35: the string minimum. -/
theorem Chain.stringMinimum_eq {k : Chain} {low : Nat}
    (found : ∃ b, (k.fitted b = true ∧ (k.modules[b]).status = .current) ∧ ∃ j : Fin 16, (k.modules[b]).cells[j] = some low)
    (least : ∀ b, k.fitted b = true ∧ (k.modules[b]).status = .current →
      ∀ (j : Fin 16) (v : Nat), (k.modules[b]).cells[j] = some v → low ≤ v) : k.stringMinimum = some low := by
  have member (v : Nat) : v ∈ k.currentModules.flatMap (fun m => m.cells.toList.filterMap id)
      ↔ ∃ b, (k.fitted b = true ∧ (k.modules[b]).status = .current)
        ∧ ∃ j : Fin 16, (k.modules[b]).cells[j] = some v := by
    simp only [List.mem_flatMap, Chain.exists_current, Vector.mem_filterMap_id]
  refine List.min?_eq_some_iff.2 ⟨(member low).2 found, fun v hv => ?_⟩
  obtain ⟨b, current, j, at_⟩ := (member v).1 hv
  exact least b current j v at_

/-- R35: the four highest candidates, the lower cell first between equals. -/
theorem State.mem_selection {low : Nat} {candidate : Fin 16 → Nat → Prop} {better : Fin 16 → Nat → List (Fin 16)}
    (allowed : s.noBalancing c m = false) (minimum : (s.chain c).stringMinimum = some low)
    (standing : ∀ j v, candidate j v ↔ m.cells[j] = some v ∧ low + s.params.balWindow < (v : Int)
      ∧ s.params.balFloor < (v : Int))
    (ahead : ∀ j v, (better j v).Nodup ∧ ∀ i, i ∈ better j v ↔ ∃ w, candidate i w ∧ (v < w ∨ (v = w ∧ i < j))) :
    (s.selection c m).Pairwise (· < ·)
    ∧ ∀ n, n ∈ s.selection c m ↔ ∃ (j : Fin 16) (v : Nat), n = j.val + 1 ∧ candidate j v ∧ (better j v).length < 4 := by
  have chosen : s.selection c m = chooseFour (candidates m.cells low s.params.balWindow s.params.balFloor) := by
    rw [State.selection, allowed, minimum]
    rfl
  rw [chosen]
  refine ⟨chooseFour_sorted _, fun n => ?_⟩
  rw [mem_chooseFour candidates_distinct]
  · constructor
    · rintro ⟨v, hv, few⟩
      obtain ⟨j, rfl, at_⟩ := mem_candidates.1 hv
      exact ⟨j, v, rfl, (standing j v).2 at_, chosenBefore_length standing ahead j v ▸ few⟩
    · rintro ⟨j, v, rfl, at_, few⟩
      exact ⟨v, mem_candidates.2 ⟨j, rfl, (standing j v).1 at_⟩, (chosenBefore_length standing ahead j v).symm ▸ few⟩
  · intro y hy
    obtain ⟨j, place, -⟩ := mem_candidates.1 hy
    omega

end

/-! ## The reply stored and evaluated (R4, R20) -/

theorem Vector.ext_addr {v w : Vector ModuleRecord 12} (h : ∀ b : Addr, v[b] = w[b]) : v = w :=
  Vector.ext fun b hb => h ⟨b, hb⟩

theorem Chain.with_modules {k : Chain} {v : Vector ModuleRecord 12} (h : v = k.modules) : k = { k with modules := v } := by
  rw [h]

section
variable (t : State) (c : Str) (a : Addr)

/-- R20: the state in which the selection of a reply is made. -/
def State.replyJudged (t : State) (c : Str) (a : Addr) : State := (t.evaluateSensors c a).judgeInvalid c a

/-- R37: an INVALID cell of the reply empties the sets of the fitted modules. -/
theorem State.replyJudged_chain : (t.replyJudged c a).chain c = { t.chain c with
    modules := vmapIdx (fun b m => if ((t.chain c).modules[a]).hasInvalid = true ∧ (t.chain c).fitted b = true then
      { m with requested := [] } else m) (t.chain c).modules } := by
  have same : (t.evaluateSensors c a).chain c = t.chain c := rfl
  unfold State.replyJudged State.judgeInvalid
  rw [same]
  split
  · next invalid =>
    rw [State.modChain_same, same, Chain.emptyFittedSets]
    simp only [invalid, true_and]
    rfl
  · next valid =>
    rw [same]
    refine Chain.with_modules (Vector.ext_addr fun b => ?_)
    rw [vmapIdx_get, if_neg fun h => valid h.1]

theorem State.replyJudged_modules (b : Addr) : ((t.replyJudged c a).chain c).modules[b]
    = if ((t.chain c).modules[a]).hasInvalid = true ∧ (t.chain c).fitted b = true then
        { (t.chain c).modules[b] with requested := [] } else (t.chain c).modules[b] := by
  rw [State.replyJudged_chain]
  exact vmapIdx_get _ (t.chain c).modules b

theorem State.moduleReply_eq : t.moduleReply c a = (t.replyJudged c a).balance c a := rfl

theorem State.modModule_modules (w : State) (f : ModuleRecord → ModuleRecord) (b : Addr) :
    ((w.modModule c a f).chain c).modules[b] = if b = a then f (w.chain c).modules[b] else (w.chain c).modules[b] := by
  rw [State.modModule_chain]
  exact vmod_get a b f _

/-- R20: the selection is written as the set of the module that replied, of it alone. -/
theorem State.moduleReply_modules (b : Addr) : ((t.moduleReply c a).chain c).modules[b] =
    if b = a then { ((t.replyJudged c a).chain c).modules[b] with
      requested := (t.replyJudged c a).selection c (((t.replyJudged c a).chain c).modules[a]) }
    else ((t.replyJudged c a).chain c).modules[b] := by
  rw [State.moduleReply_eq]
  generalize t.replyJudged c a = w
  exact State.modModule_modules c a w _ b

/-- R4: a transaction landed and the record of its module changed, before the evaluation. -/
def State.recordStored (s : State) (c : Str) (a : Addr) (f : ModuleRecord → ModuleRecord) : State :=
  s.modChain c fun k => { k with inFlight := none, modules := vmod a f k.modules }

theorem State.recordStored_chain (s : State) (f : ModuleRecord → ModuleRecord) : (s.recordStored c a f).chain c
    = { s.chain c with inFlight := none, modules := vmod a f (s.chain c).modules } := State.modChain_same s c _

theorem State.recordStored_modules (s : State) (f : ModuleRecord → ModuleRecord) (b : Addr) :
    ((s.recordStored c a f).chain c).modules[b] = if b = a then f (s.chain c).modules[b] else (s.chain c).modules[b] := by
  rw [State.recordStored_chain]
  exact vmod_get a b f _

end

section
variable {s : State} {c : Str} {a : Addr} {cells : Vector Nat 16} {sensors : Vector Int 4} {applied : List Nat}

theorem State.outcomeApplied_good :
    s.outcomeApplied c (.module a) (some (.module true a.number false cells sensors applied))
      = (s.recordStored c a fun m => m.reply cells sensors applied).moduleReply c a := by
  have good : classify (.module a) (some (.module true a.number false cells sensors applied)) = .good := by
    simp [classify, answersTo, faulty]
  have uncounted (t : State) : t.countMiss c .good = t := if_neg (by decide)
  have stored (f : ModuleRecord → ModuleRecord) : (s.modChain c fun k => { k with inFlight := none }).modModule c a f
      = s.recordStored c a f := by
    simp only [State.modModule, State.modChain, PerString.mod_mod, State.recordStored]
  rw [State.outcomeApplied, good, uncounted, ← stored]
  unfold State.applyOutcome
  rw [good]
  rfl

/-- R4: a cell is INVALID where its voltage is above 5.000 V. -/
theorem ModuleRecord.reply_hasInvalid (m : ModuleRecord) :
    (m.reply cells sensors applied).hasInvalid = true ↔ ∃ j : Fin 16, 5000 < cells[j] := by
  rw [ModuleRecord.hasInvalid_iff]
  refine exists_congr fun j => ?_
  have at_ : (m.reply cells sensors applied).cells[j] = if cells[j] ≤ 5000 then some cells[j] else none :=
    vmap_get (fun v => if v ≤ 5000 then some v else none) cells j
  rw [at_]
  split
  · next low => simpa using low
  · next high => simpa using high

/-- R4, R20, R35 to R37: what a GOOD reply of a fitted module makes of the records of its chain. -/
theorem State.moduleReply_record {u : State}
    (hu : u = (s.recordStored c a fun m => m.reply cells sensors applied).moduleReply c a) :
    ∃ w : State, w.params = s.params ∧ w.fire = s.fire
      ∧ (∀ b : Addr, (w.chain c).fitted b = (s.chain c).fitted b)
      ∧ (∀ b : Addr, ((w.chain c).modules[b]).cells = ((u.chain c).modules[b]).cells
        ∧ ((w.chain c).modules[b]).status = ((u.chain c).modules[b]).status)
      ∧ (u.chain c).modules[a] = { ((s.chain c).modules[a]).reply cells sensors applied with
        requested := w.selection c ((w.chain c).modules[a]) }
      ∧ ((w.chain c).modules[a]).hottest = ((u.chain c).modules[a]).hottest
      ∧ ∀ b : Addr, b ≠ a → (u.chain c).modules[b] =
        if (∃ j : Fin 16, 5000 < cells[j]) ∧ (s.chain c).fitted b = true then
          { (s.chain c).modules[b] with requested := [] } else (s.chain c).modules[b] := by
  subst hu
  generalize ht : s.recordStored c a (fun m => m.reply cells sensors applied) = t
  have params : t.params = s.params := by rw [← ht]; rfl
  have fire : t.fire = s.fire := by rw [← ht]; rfl
  have inside (b : Addr) : (t.chain c).fitted b = (s.chain c).fitted b := by
    rw [← ht, State.recordStored_chain]
    rfl
  have stored (b : Addr) : (t.chain c).modules[b]
      = if b = a then ((s.chain c).modules[b]).reply cells sensors applied else (s.chain c).modules[b] := by
    rw [← ht]
    exact s.recordStored_modules c a _ b
  clear ht
  have invalid : ((t.chain c).modules[a]).hasInvalid = true ↔ ∃ j : Fin 16, 5000 < cells[j] := by
    rw [stored, if_pos rfl, ModuleRecord.reply_hasInvalid]
  have judged := t.replyJudged_modules c a
  have replied := t.moduleReply_modules c a
  have fit (b : Addr) : ((t.replyJudged c a).chain c).fitted b = (t.chain c).fitted b := by
    rw [State.replyJudged_chain]
    rfl
  have base : (t.replyJudged c a).params = t.params ∧ (t.replyJudged c a).fire = t.fire := by
    simp [State.replyJudged, State.params]
  generalize t.replyJudged c a = w at judged replied fit base
  generalize t.moduleReply c a = u at replied
  refine ⟨w, base.1.trans params, base.2.trans fire, fun b => (fit b).trans (inside b), fun b => ?_, ?_, ?_, fun b other => ?_⟩
  · rw [replied]
    split <;> exact ⟨rfl, rfl⟩
  · rw [replied, if_pos rfl, judged, stored, if_pos rfl]
    split <;> rfl
  · rw [replied, if_pos rfl]
    rfl
  · rw [replied, if_neg other, judged, stored b, if_neg other, inside]
    simp only [invalid]

end

/-- R20: the four sensors of the module evaluated, and no other. -/
theorem State.moduleReply_cells (t : State) (c : Str) (a : Addr) (d : Str) : (t.moduleReply c a).cells d =
    if d = c then { t.cells c with sensors := vmod a (fun tracks => vmapIdx (fun k x =>
      x.evaluate t.params (((t.chain c).modules[a]).sensors[k])) tracks) (t.cells c).sensors } else t.cells d := by
  have same : (t.moduleReply c a).supervision = (t.evaluateSensors c a).supervision := by
    rw [State.moduleReply_eq, State.replyJudged]
    simp [State.balance]
  rw [State.cells, same, State.evaluateSensors, State.modCells, PerString.get_mod]
  split
  · next h => rw [h]; rfl
  · rfl

/-- R20: nothing of a chain but its records changes. -/
theorem State.moduleReply_chain (t : State) (c : Str) (a : Addr) : (t.moduleReply c a).chain c
    = { t.chain c with modules := ((t.moduleReply c a).chain c).modules } := by
  have judged := t.replyJudged_chain c a
  rw [State.moduleReply_eq]
  generalize t.replyJudged c a = w at judged
  have written (f : ModuleRecord → ModuleRecord) : (w.modModule c a f).chain c
      = { t.chain c with modules := ((w.modModule c a f).chain c).modules } := by
    rw [State.modModule_chain, judged]
  exact written _

theorem State.moduleReply_rest (t : State) (c : Str) (a : Addr) : t.moduleReply c a = { t with
    chains := (t.moduleReply c a).chains, supervision := (t.moduleReply c a).supervision } :=
  State.eq_iff.2 (by simp)

/-! ## The obligation -/

/-- R16: after a scan, or outside a running cycle, the oldest waiting probe. -/
theorem Chain.arbitrate_probe (k : Chain) (now : Nat) {e : ProbeEntry} {rest : List ProbeEntry} (probes : k.probes = e :: rest)
    (after : k.lastKind = some .scan ∨ k.cycle ≠ .running) :
    k.arbitrate now = { k with
      probes := rest, lastKind := some .probe
      inFlight := some ⟨.probe, .module e.addr, e.waiters, (k.modules[e.addr]).requested, now + 4⟩ } := by
  have started : k.startProbe now = { k with
      probes := rest, lastKind := some .probe
      inFlight := some ⟨.probe, .module e.addr, e.waiters, (k.modules[e.addr]).requested, now + 4⟩ } := by
    rw [Chain.startProbe, probes]
    rfl
  rw [← started]
  unfold Chain.arbitrate
  rcases after with scan | idle
  · rw [if_pos ⟨by simp [probes], scan⟩]
  · rw [if_neg idle]
    split <;> rfl

/-- R16: in a running cycle with no probe due, the next unit of the scan. -/
theorem Chain.arbitrate_scan (k : Chain) (now : Nat) (run : k.cycle = .running)
    (first : k.probes = [] ∨ k.lastKind ≠ some .scan) :
    k.arbitrate now = { k with
      lastKind := some .scan, inFlight := some ⟨.scan, k.nextUnit, [], k.setFor k.nextUnit, now + 4⟩ } := by
  unfold Chain.arbitrate
  rw [if_neg fun h => first.elim h.1 fun other => other h.2, if_pos run]
  rfl

/-- R16: with neither a probe nor a cycle the chain stays idle. -/
theorem Chain.arbitrate_idle (k : Chain) (now : Nat) (none : k.probes = []) (idle : k.cycle ≠ .running) :
    k.arbitrate now = k := by
  unfold Chain.arbitrate
  rw [if_neg fun h => h.1 none, if_neg idle, Chain.startProbe, none]

theorem Chain.setFor_eq {k : Chain} {set : ChainUnit → List Nat} (head : set .head = [])
    (modules : ∀ a, set (.module a) = (k.modules[a]).requested) : k.setFor = set := by
  funext u
  cases u with
  | head => exact head.symm
  | module a => exact (modules a).symm

/-- Settles O8. -/
theorem moduleReplyIsStored : Obligations.ModuleReplyIsStored := by
  unfold Obligations.ModuleReplyIsStored
  refine ⟨fun k now set head modules => ⟨fun e rest probes after => ?_, fun run first => ?_, fun none idle => ?_⟩,
    fun c a x fault cells sensors applied s running flight probe addressed unfitted => ?_,
    fun c a x cells sensors applied s running flight addressed fitted => ?_⟩
  · rw [k.arbitrate_probe now probes after, ← modules e.addr]
  · rw [k.arbitrate_scan now run first, Chain.setFor_eq head modules]
  · exact k.arbitrate_idle now none idle
  · have heard : classify (.module a) (some (.module true a.number fault cells sensors applied)) ≠ .miss := by
      cases fault <;> simp [classify, answersTo, faulty]
    obtain ⟨links, equation⟩ := State.endTransaction_unfitted
      (some (.module true a.number fault cells sensors applied)) probe addressed unfitted
    rw [if_neg heard] at equation
    exact ⟨_, chainReply_running running flight, links, equation⟩
  · generalize hu : (s.recordStored c a fun m => m.reply cells sensors applied).moduleReply c a = u
    have ends := State.endTransaction_moduleEnd (some (.module true a.number false cells sensors applied)) addressed fitted
    have good : classify (.module a) (some (.module true a.number false cells sensors applied)) = .good := by
      simp [classify, answersTo, faulty]
    rw [good, State.outcomeApplied_good, hu] at ends
    obtain ⟨w, params, fire, inside, readings, record, hottest, others⟩ := State.moduleReply_record hu.symm
    have selected : ((u.chain c).modules[a]).requested = w.selection c ((w.chain c).modules[a]) := by rw [record]
    have sensors' : (u.cells c).sensors = vmod a (fun tracks => vmapIdx (fun k x => x.evaluate s.params
        ((((s.chain c).modules[a]).reply cells sensors applied).sensors[k])) tracks) (s.cells c).sensors := by
      rw [← hu, State.moduleReply_cells, if_pos rfl, State.recordStored_modules, if_pos rfl]
      rfl
    have none_iff := w.noBalancing_iff (c := c) (m := (w.chain c).modules[a])
    refine ⟨u, _, chainReply_running running flight, by rw [record]; rfl, by rw [record]; rfl, by rw [record]; rfl,
      by rw [record]; rfl, by rw [record]; rfl, by rw [record]; rfl, ?_, ?_, ?_, fun k => ?_, fun b other => ⟨?_, others b other⟩,
      fun d h => ⟨?_, ?_⟩, ?_, ?_, ?_, ends⟩
    · rw [selected]
      exact (w.selection_sound c ((w.chain c).modules[a])).1
    · intro h
      rw [selected]
      refine State.selection_empty (none_iff.2 (.inr ?_))
      simp only [hottest, params, fire, inside, readings]
      simpa only [or_assoc] using h
    · intro y hy cool stage valid low candidate better found least standing ahead
      have allowed : w.noBalancing c ((w.chain c).modules[a]) = false := by
        rw [← Bool.not_eq_true, none_iff]
        simp only [hottest, params, fire, inside, readings, hy]
        rintro (h | h | ⟨y', h, hot⟩ | h | ⟨b, fitted', j, h⟩)
        · exact h (by rw [record]; rfl)
        · cases h
        · cases h
          omega
        · rcases stage with e | e <;> rw [e] at h <;> exact absurd h (by decide)
        · exact valid b fitted' j h
      have minimum : (w.chain c).stringMinimum = some low := by
        refine Chain.stringMinimum_eq ?_ ?_
        · obtain ⟨b, fitted', current, j, h⟩ := found
          exact ⟨b, ⟨(inside b).trans fitted', (readings b).2.trans current⟩, j, by rw [(readings b).1, h]⟩
        · rintro b ⟨fitted', current⟩ j v h
          rw [(readings b).1] at h
          exact least b ((inside b).symm.trans fitted') ((readings b).2.symm.trans current) j v h
      rw [selected]
      refine State.mem_selection allowed minimum (fun j v => ?_) ahead
      rw [standing, (readings a).1, params]
    · rw [sensors', record]
      refine (congrArg (fun tracks : Vector SensorTrack 4 => tracks[k]) (vmod_same a _ _)).trans ?_
      exact vmapIdx_get _ _ k
    · rw [sensors']
      refine (vmod_get a b _ _).trans (if_neg other)
    · rw [← hu, State.moduleReply_other h]
      exact State.modChain_other _ h
    · rw [← hu, State.moduleReply_cells, if_neg h]
      rfl
    · rw [← hu, State.moduleReply_chain, State.recordStored_chain]
    · rw [← hu, State.moduleReply_cells, if_pos rfl]
      rfl
    · rw [← hu, State.moduleReply_rest]
      rfl

end Sys2Proof.Machine
end

-- ==== Proofs: what a change of string state leaves of its receivers ====
section
namespace Sys2Proof.Machine

/-! ## GA computed on what was held (R140, R141) -/

/-- R140, R141: what a computation of GA with `n` strings JOINED makes of the agreement. -/
def State.gaComputed (b : State) (n : Nat) : Agreement := { b.agreement with
  basisImport := b.powerBasis.1
  basisExport := b.powerBasis.2
  bus := some b.busVoltage
  countUsed := some n
  gaCharge := perString b.powerBasis.1 b.busVoltage.1 n
  gaDischarge := perString b.powerBasis.2 b.busVoltage.1 n }

/-- From `b` to `t` the agreement and the table changed in GA alone, and what GA is formed from stands. -/
structure State.GaKin (b t : State) : Prop where
  agreement : t.agreement = { b.agreement with
    basisImport := t.agreement.basisImport, basisExport := t.agreement.basisExport, bus := t.agreement.bus
    countUsed := t.agreement.countUsed, gaCharge := t.agreement.gaCharge, gaDischarge := t.agreement.gaDischarge }
  table : t.envelope.table = { b.envelope.table with ga := t.envelope.table.ga }
  bus : t.busVoltage = b.busVoltage
  params : t.params = b.params

/-- In `t` the GA fields and the GA row are those computed from what `b` holds, for the strings JOINED in `t`. -/
structure State.GaDone (b t : State) : Prop where
  agreement : t.agreement = b.gaComputed t.joinedCount
  table : t.envelope.table = { b.envelope.table with ga := .both t.agreement.gaCharge t.agreement.gaDischarge }

section
variable {b s t u : State}

theorem State.GaKin.refl (b : State) : b.GaKin b := ⟨rfl, rfl, rfl, rfl⟩

theorem State.GaKin.trans (h : b.GaKin t) (h' : t.GaKin u) : b.GaKin u := by
  refine ⟨?_, ?_, h'.bus.trans h.bus, h'.params.trans h.params⟩
  · rw [h'.agreement, h.agreement]
  · rw [h'.table, h.table]

theorem State.busVoltage_congr (chains : t.chains = s.chains) (params : t.params = s.params) :
    t.busVoltage = s.busVoltage := by
  simp only [State.busVoltage, chains, params]

/-- What leaves the agreement, the table, the chains and the parameters. -/
theorem State.GaKin.of_same (agreement : t.agreement = b.agreement) (table : t.envelope.table = b.envelope.table)
    (chains : t.chains = b.chains) (config : t.config = b.config) : b.GaKin t := by
  have params : t.params = b.params := congrArg ConfigStore.working config
  exact ⟨by rw [agreement], by rw [table], State.busVoltage_congr chains params, params⟩

theorem State.GaKin.powerBasis (h : b.GaKin t) : t.powerBasis = b.powerBasis := by
  have segment : t.segmentInForce = b.segmentInForce := by
    unfold State.segmentInForce
    rw [h.agreement]
  unfold State.powerBasis
  rw [segment, h.params, h.agreement]

theorem State.GaKin.gaComputed (h : b.GaKin t) (n : Nat) : t.gaComputed n = b.gaComputed n := by
  rw [State.gaComputed, State.gaComputed, h.powerBasis, h.bus, h.agreement]

theorem State.GaKin.computeGa (h : b.GaKin t) : b.GaKin t.computeGa := by
  refine h.trans ⟨?_, ?_, State.busVoltage_congr (by simp) (by simp [State.params]), by simp [State.params]⟩
  · rw [t.computeGa_agreement]
  · rw [t.computeGa_table]

/-- R141: a computation forms GA from what is held. -/
theorem State.GaKin.done (h : b.GaKin t) : b.GaDone t.computeGa := by
  have count : t.computeGa.joinedCount = t.joinedCount := State.joinedCount_congr (State.isJoined_congr (by simp))
  refine ⟨?_, ?_⟩
  · rw [count, ← h.gaComputed]
    exact t.computeGa_agreement
  · rw [t.computeGa_row, h.table]

theorem State.GaDone.of_same (h : b.GaDone t) (agreement : u.agreement = t.agreement)
    (table : u.envelope.table = t.envelope.table) (count : u.joinedCount = t.joinedCount) : b.GaDone u :=
  ⟨by rw [agreement, count]; exact h.agreement, by rw [table, agreement]; exact h.table⟩

/-- What is computed from kin is computed from the base. -/
theorem State.GaDone.of_kin (h : b.GaKin t) (done : t.GaDone u) : b.GaDone u :=
  ⟨by rw [done.agreement, h.gaComputed], by rw [done.table, h.table]⟩

end

/-! ## The receivers of a change of string state (R44, R68, R139, R150) -/

/-- What the envelope, the agreement and the permit unit hold after a change of a string, or after none. -/
structure State.Received (s t : State) : Prop where
  kin : s.GaKin t
  updated : t.joinedCount ≠ s.joinedCount → s.GaDone t
  standing : t.joinedCount = s.joinedCount → t.agreement = s.agreement ∧ t.envelope.table = s.envelope.table
  permit : t.joinedCount ≠ 0 ∨ s.permit.state.connected = false → t.permit = s.permit
  alone : s.joinedCount ≠ 0 → t.joinedCount = 0 → t.permit.state.connected = false
  lower : ∀ c, t.envelope.limits.charge c ≤ s.envelope.limits.charge c
    ∧ t.envelope.limits.discharge c ≤ s.envelope.limits.discharge c

section
variable {s t u : State}

theorem State.Received.of_same (agreement : t.agreement = s.agreement) (envelope : t.envelope = s.envelope)
    (chains : t.chains = s.chains) (config : t.config = s.config) (permit : t.permit = s.permit)
    (joined : ∀ c, t.isJoined c = s.isJoined c) : s.Received t := by
  have count := State.joinedCount_congr joined
  refine ⟨.of_same agreement (by rw [envelope]) chains config, fun h => absurd count h,
    fun _ => ⟨agreement, by rw [envelope]⟩, fun _ => permit, fun some none => absurd (count.symm.trans none) some, fun c => ?_⟩
  rw [envelope]
  exact ⟨le_refl _, le_refl _⟩

/-- R68: a downward computation raises no limit. -/
theorem State.downward_lower (s : State) (c : Str) : s.downward.envelope.limits.charge c ≤ s.envelope.limits.charge c
    ∧ s.downward.envelope.limits.discharge c ≤ s.envelope.limits.discharge c := by
  rw [State.downward, State.publish_limits, Row.zip_charge, Row.zip_discharge]
  exact ⟨Nat.min_le_left .., Nat.min_le_left ..⟩

theorem State.computeGa_lower (s : State) (c : Str) : s.computeGa.envelope.limits.charge c ≤ s.envelope.limits.charge c
    ∧ s.computeGa.envelope.limits.discharge c ≤ s.envelope.limits.discharge c :=
  State.downward_lower _ c

/-- R150: with a string JOINED or no permit connected the permit stands. -/
theorem State.noStringTrip_permit (h : s.joinedCount ≠ 0 ∨ s.permit.state.connected = false) :
    s.noStringTrip.permit = s.permit := by
  rw [State.noStringTrip_still fun connected => ?_]
  rcases h with some | apart
  · omega
  · exact absurd (apart.symm.trans connected) (by simp)

theorem State.receiver_kin {f : State → State}
    (hf : f = State.downward ∨ f = State.computeGa ∨ f = State.noStringTrip) (u : State) : u.GaKin (f u) := by
  rcases hf with rfl | rfl | rfl
  · exact .of_same (by simp) (by simp [State.downward]) (by simp) (by simp)
  · exact (State.GaKin.refl u).computeGa
  · exact .of_same (by simp) (by simp) (by simp) (by simp)

/-- What the order of a report's receivers leaves alone. -/
theorem State.through_received {order : List (State → State)}
    (members : ∀ f ∈ order, f = State.downward ∨ f = State.computeGa ∨ f = State.noStringTrip) :
    (s.through order).strings = s.strings ∧ s.GaKin (s.through order)
    ∧ (s.joinedCount ≠ 0 ∨ s.permit.state.connected = false → (s.through order).permit = s.permit)
    ∧ ∀ c, (s.through order).envelope.limits.charge c ≤ s.envelope.limits.charge c
      ∧ (s.through order).envelope.limits.discharge c ≤ s.envelope.limits.discharge c := by
  refine State.through_keeps (P := fun u => u.strings = s.strings ∧ s.GaKin u
    ∧ (s.joinedCount ≠ 0 ∨ s.permit.state.connected = false → u.permit = s.permit)
    ∧ ∀ c, u.envelope.limits.charge c ≤ s.envelope.limits.charge c
      ∧ u.envelope.limits.discharge c ≤ s.envelope.limits.discharge c)
    (fun f hf u hu => ?_) ⟨rfl, .refl s, fun _ => rfl, fun c => ⟨le_refl _, le_refl _⟩⟩
  obtain ⟨strings, kin, permit, lower⟩ := hu
  have kin := kin.trans (State.receiver_kin (members f hf) u)
  rcases members f hf with rfl | rfl | rfl
  · exact ⟨by simpa using strings, kin, fun h => by simpa using permit h,
      fun c => ⟨(u.downward_lower c).1.trans (lower c).1, (u.downward_lower c).2.trans (lower c).2⟩⟩
  · exact ⟨by simpa using strings, kin, fun h => by simpa using permit h,
      fun c => ⟨(u.computeGa_lower c).1.trans (lower c).1, (u.computeGa_lower c).2.trans (lower c).2⟩⟩
  · refine ⟨by simpa using strings, kin, fun h => ?_, by simpa using lower⟩
    rw [State.noStringTrip_permit, permit h]
    rw [State.joinedCount_congr (State.isJoined_congr strings), permit h]
    exact h

/-- R44: the receivers of a change of a string's state. -/
theorem State.setString_received (s : State) (c : Str) (new : StringState) : s.Received (s.setString c new) := by
  rcases s.setString_cases c new with ⟨name, -, e⟩ | ⟨changed, e⟩
  · rw [e]
    exact .of_same rfl rfl rfl rfl rfl (State.storeString_isJoined name)
  have alone := State.setString_reported_permitJoined changed
  rw [e] at alone ⊢
  generalize stored : (s.storeString c new).post .stringState (.string c new.name new.cause) = t at alone ⊢
  have kin : s.GaKin t := by
    rw [← stored]
    exact .of_same rfl rfl rfl rfl
  have permit : t.permit = s.permit := by rw [← stored]; rfl
  have agreement : t.agreement = s.agreement := by rw [← stored]; rfl
  have envelope : t.envelope = s.envelope := by rw [← stored]; rfl
  clear stored e
  obtain ⟨order, n, e, -, members, updates, -⟩ := t.reportString_course s.joinedCount
  obtain ⟨strings, kin', stands, lower⟩ := State.through_received (s := t) members
  have count : (t.through order).joinedCount = t.joinedCount := State.joinedCount_congr (State.isJoined_congr strings)
  have counted : (t.reportString s.joinedCount).joinedCount = t.joinedCount := by
    rw [e]
    exact count
  refine ⟨?_, fun changed => ?_, fun same => ?_, fun h => ?_, fun _ none => ?_, fun d => ?_⟩
  · rw [e]
    exact kin.trans (kin'.trans (.of_same rfl rfl rfl rfl))
  · rw [counted] at changed
    rw [e]
    refine .of_kin kin (State.GaDone.of_same (t := t.through order) ?_ rfl rfl rfl)
    refine State.through_establishes (P := t.GaDone) (Q := t.GaKin) (updates changed) (fun f hf u hu => ?_)
      (fun u hu => hu.done) (fun f hf u hu done => ?_) (.refl t)
    · exact hu.trans (State.receiver_kin (members f hf) u)
    · rcases members f hf with rfl | rfl | rfl
      · exact done.of_same (by simp) (by simp [State.downward]) (State.joinedCount_congr (State.isJoined_congr (by simp)))
      · exact hu.done
      · exact done.of_same (by simp) (by simp) (State.joinedCount_congr (State.isJoined_congr (by simp)))
  · rw [counted] at same
    have plain : t.reportString s.joinedCount = t.downward.noStringTrip := if_pos same
    rw [plain]
    simp [agreement, envelope, State.downward]
  · rw [counted, ← permit] at h
    rw [e, ← permit]
    exact stands h
  · refine Bool.eq_false_iff.2 fun connected => ?_
    have := alone connected
    omega
  · rw [e, ← envelope]
    exact lower d

/-- A change aside from what the receivers hold and look at. -/
structure State.Aside (s t : State) : Prop where
  agreement : t.agreement = s.agreement
  envelope : t.envelope = s.envelope
  chains : t.chains = s.chains
  config : t.config = s.config
  permit : t.permit = s.permit
  joined : ∀ c, t.isJoined c = s.isJoined c

theorem State.Aside.received (h : s.Aside t) : s.Received t :=
  .of_same h.agreement h.envelope h.chains h.config h.permit h.joined

theorem State.Aside.trans (h : s.Aside t) (h' : t.Aside u) : s.Aside u :=
  ⟨h'.agreement.trans h.agreement, h'.envelope.trans h.envelope, h'.chains.trans h.chains, h'.config.trans h.config,
    h'.permit.trans h.permit, fun c => (h'.joined c).trans (h.joined c)⟩

/-- What is received after a change aside. -/
theorem State.Aside.before (h : s.Aside t) (received : t.Received u) : s.Received u := by
  have count := State.joinedCount_congr h.joined
  obtain ⟨kin, updated, standing, permit, alone, lower⟩ := received
  rw [count] at updated standing alone
  rw [h.permit] at permit
  rw [h.envelope] at standing lower
  rw [h.agreement] at standing
  have base : s.GaKin t := .of_same h.agreement (by rw [h.envelope]) h.chains h.config
  exact ⟨base.trans kin, fun changed => .of_kin base (updated changed), standing, permit, alone, lower⟩

/-- What is received before a change aside. -/
theorem State.Aside.after (h : t.Aside u) (received : s.Received t) : s.Received u := by
  have count := State.joinedCount_congr h.joined
  obtain ⟨kin, updated, standing, permit, alone, lower⟩ := received
  have table : u.envelope.table = t.envelope.table := by rw [h.envelope]
  refine ⟨kin.trans (.of_same h.agreement table h.chains h.config), fun changed => ?_, fun same => ?_, fun some => ?_,
    fun some none => ?_, by rw [h.envelope]; exact lower⟩
  · exact (updated (by rwa [count] at changed)).of_same h.agreement table count
  · rw [h.agreement, table]
    exact standing (by rwa [count] at same)
  · rw [h.permit]
    exact permit (by rwa [count] at some)
  · rw [h.permit]
    exact alone some (by rwa [count] at none)

end

end Sys2Proof.Machine
end

-- ==== Proofs: a GOOD head reply ====
section
namespace Sys2Proof.Machine

/-! ## GA after a head reply (R139) -/

/-- R139: what a head reply makes of the agreement and the GA row: GA is computed where the bus voltage moved or the number
of JOINED strings changed, and stands otherwise. -/
structure State.GaFollows (b t : State) : Prop where
  computed : b.busMoved = true ∨ t.joinedCount ≠ b.joinedCount → b.GaDone t
  stands : b.busMoved = false → t.joinedCount = b.joinedCount →
    t.agreement = b.agreement ∧ t.envelope.table = b.envelope.table

section
variable {b t u : State}

/-- R139: a bus voltage just used has not moved. -/
theorem State.busMoved_done (done : b.GaDone t) (bus : t.busVoltage = b.busVoltage) : t.busMoved = false := by
  have used : t.agreement.bus = some b.busVoltage := by rw [done.agreement]; rfl
  unfold State.busMoved
  rw [used, bus]
  simp

theorem State.busMoved_congr (agreement : t.agreement = b.agreement) (bus : t.busVoltage = b.busVoltage) :
    t.busMoved = b.busMoved := by
  unfold State.busMoved
  rw [agreement, bus]

theorem State.agreementHeadReply_count (t : State) : t.agreementHeadReply.joinedCount = t.joinedCount :=
  State.joinedCount_congr (State.isJoined_congr (by simp))

/-- R139: the agreement unit acts after the string. -/
theorem State.Received.then_agreement (h : b.Received t) : b.GaFollows t.agreementHeadReply := by
  have count := t.agreementHeadReply_count
  by_cases same : t.joinedCount = b.joinedCount
  · obtain ⟨agreement, table⟩ := h.standing same
    have moved : t.busMoved = b.busMoved := State.busMoved_congr agreement h.kin.bus
    refine ⟨fun which => ?_, fun still _ => ?_⟩
    · have goes : t.busMoved = true := moved.trans (which.resolve_right fun changed => changed (count.trans same))
      rw [State.agreementHeadReply, if_pos goes]
      exact h.kin.done
    · rw [State.agreementHeadReply, if_neg (by rw [moved, still]; decide)]
      exact ⟨agreement, table⟩
  · have done := h.updated same
    have still : t.agreementHeadReply = t := by
      rw [State.agreementHeadReply, if_neg]
      rw [State.busMoved_done done h.kin.bus]
      decide
    rw [still]
    exact ⟨fun _ => done, fun _ same' => absurd same' same⟩

/-- R139: the agreement unit acts before the string. -/
theorem State.Received.after_agreement (h : b.agreementHeadReply.Received t) : b.GaFollows t := by
  have count := b.agreementHeadReply_count
  by_cases moved : b.busMoved = true
  · have computed : b.agreementHeadReply = b.computeGa := if_pos moved
    rw [computed] at h count
    have kin : b.GaKin b.computeGa := (State.GaKin.refl b).computeGa
    refine ⟨fun _ => ?_, fun still => absurd (moved.symm.trans still) (by simp)⟩
    by_cases same : t.joinedCount = b.computeGa.joinedCount
    · obtain ⟨agreement, table⟩ := h.standing same
      exact (State.GaKin.refl b).done.of_same agreement table same
    · exact .of_kin kin (h.updated same)
  · have stood : b.agreementHeadReply = b := if_neg moved
    rw [stood] at h
    exact ⟨fun which => h.updated (which.resolve_left moved), fun _ same => h.standing same⟩

/-- R68: the agreement unit raises no limit. -/
theorem State.agreementHeadReply_lower (t : State) (c : Str) :
    t.agreementHeadReply.envelope.limits.charge c ≤ t.envelope.limits.charge c
    ∧ t.agreementHeadReply.envelope.limits.discharge c ≤ t.envelope.limits.discharge c := by
  unfold State.agreementHeadReply
  split
  · exact t.computeGa_lower c
  · exact ⟨le_refl _, le_refl _⟩

theorem State.SameNotice.agreementHeadReply {m : NoticeKind} (h : m ≠ .envelopeChanged) (t : State) :
    t.SameNotice m t.agreementHeadReply := by
  unfold State.agreementHeadReply
  split
  · exact .computeGa h t
  · exact .of_links rfl

end

/-! ## The string on a head reply (R47, R51, R55, R58) -/

section
variable {s t u : State} {c : Str}

/-- R58: the reported contactor values differ from the part's own inputs. -/
abbrev State.headDiffers (s : State) (c : Str) : Prop :=
  (s.chain c).head.main ≠ (s.string c).mainInput ∨ (s.chain c).head.precharge ≠ (s.string c).prechargeInput

theorem State.compareFeedback_string (s : State) (c d : Str) : (s.compareFeedback c).string d =
    if d = c then { s.string c with disagreement := decide (s.headDiffers c) } else s.string d := by
  unfold State.compareFeedback
  dsimp only
  split
  · next same =>
    have agrees : ¬ s.headDiffers c := by
      rintro (h | h)
      · exact h same.1
      · exact h same.2
    rw [State.modString_string, decide_eq_false agrees]
    split
    · next h => rw [h]
    · rfl
  · next apart =>
    have differs : s.headDiffers c := by
      by_contra none
      simp only [State.headDiffers, not_or, not_not] at none
      exact apart none
    rw [decide_eq_true differs]
    split
    · next noted =>
      split
      · next h =>
        subst h
        rw [← noted]
      · rfl
    · show (s.modString c _).string d = _
      rw [State.modString_string]
      split
      · next h => rw [h]
      · rfl

theorem State.compareFeedback_posts (differs : s.headDiffers c) (fresh : (s.string c).disagreement = false) :
    s.posts (s.compareFeedback c) .fault (.feedbackDisagree c (s.chain c).head.main (s.chain c).head.precharge
      (s.string c).mainInput (s.string c).prechargeInput) := by
  have apart : ¬((s.chain c).head.main = (s.string c).mainInput
      ∧ (s.chain c).head.precharge = (s.string c).prechargeInput) := by
    rintro ⟨main, precharge⟩
    exact differs.elim (fun h => h main) fun h => h precharge
  unfold State.compareFeedback
  rw [if_neg apart, if_neg (by simp [fresh])]
  exact State.posts_of_before (.of_links rfl) (State.posts_of_same fun l => rfl)

theorem State.compareFeedback_quiet (h : ¬ s.headDiffers c ∨ (s.string c).disagreement = true) :
    s.SameNotice .fault (s.compareFeedback c) := by
  unfold State.compareFeedback
  dsimp only
  split
  · exact .of_links rfl
  · next apart =>
    rcases h with agrees | noted
    · simp only [State.headDiffers, not_or, not_not] at agrees
      exact absurd agrees apart
    · rw [if_pos noted]
      exact .of_links rfl

theorem State.compareFeedback_stringState (s : State) (c : Str) : s.SameNotice .stringState (s.compareFeedback c) := by
  unfold State.compareFeedback
  dsimp only
  split
  · exact .of_links rfl
  · split
    · exact .of_links rfl
    · exact .trans (.of_links rfl) (.post _ (by decide) _)

theorem State.compareFeedback_aside (s : State) (c : Str) : s.Aside (s.compareFeedback c) := by
  refine ⟨by simp, by simp, by simp, by simp, by simp, fun d => ?_⟩
  rw [State.isJoined, State.compareFeedback_string, State.isJoined]
  split
  · next h => rw [h]
  · rfl

/-- R47: the string is matched, and enters HANDOVER. -/
theorem State.stateHeadReply_matching {e : Nat} (g : (s.string c).state = .precharge (.matching e)) :
    s.stateHeadReply c = if |((s.chain c).head.stringVoltage : Int) - (s.chain c).head.busVoltage| ≤ s.params.matchWindow
      then s.setString c (.precharge .handover) else s := by
  unfold State.stateHeadReply
  rw [g]
  simp [State.matched]

/-- R51: below 10.0 A the opening is finished. -/
theorem State.stateHeadReply_opening {e : EndState} {n : Nat} (g : (s.string c).state = .opening e n) :
    s.stateHeadReply c = if |(s.chain c).head.current| < 100 then s.setString c e.state else s := by
  unfold State.stateHeadReply State.finishOpening
  rw [g]

theorem State.stateHeadReply_standing (g : (s.string c).state = .opened ∨ (s.string c).state = .precharge .handover
    ∨ ∃ k, (s.string c).state = .locked k) : s.stateHeadReply c = s := by
  unfold State.stateHeadReply
  rcases g with g | g | ⟨k, g⟩ <;> rw [g]

/-- R55: an excursion counted. -/
def State.excursionCounted (s : State) (c : Str) : State :=
  s.modStats c fun x => { x with excursions := countUp x.excursions }

/-- R55: the excursions in a row of a string. -/
def State.excursionsSet (s : State) (c : Str) (n : Nat) : State := s.modString c fun k => { k with excursions := n }

/-- R55: an excursion of a row of published limits. -/
def State.excursionOf (s : State) (c : Str) (r : Row) : Bool :=
  isExcursion (s.chain c).head.current (r.charge c) (r.discharge c)

theorem State.stateHeadReply_calm (g : (s.string c).state = .joined) (calm : s.excursionOf c s.envelope.limits = false) :
    s.stateHeadReply c = s.excursionsSet c 0 := by
  unfold State.stateHeadReply State.checkExcursion
  rw [g]
  exact if_neg (by rw [State.excursionOf] at calm; rw [calm]; decide)

theorem State.stateHeadReply_few (g : (s.string c).state = .joined) (excursion : s.excursionOf c s.envelope.limits = true)
    (few : (s.string c).excursions < 4) :
    s.stateHeadReply c = (s.excursionCounted c).excursionsSet c ((s.string c).excursions + 1) := by
  unfold State.stateHeadReply State.checkExcursion
  rw [g]
  dsimp only
  rw [State.excursionOf] at excursion
  rw [if_pos excursion, if_neg (by omega)]
  rfl

/-- R52, R55: the fifth excursion in a row opens the string. -/
theorem State.stateHeadReply_fifth (g : (s.string c).state = .joined)
    (excursion : s.excursionOf c s.envelope.limits = true) (many : 4 ≤ (s.string c).excursions) :
    s.stateHeadReply c = ((((s.excursionCounted c).countTrip c .excursion).setString c
      (.opening (.locked .excursion) (s.uptime + 2000)))).excursionsSet c 0 := by
  have joined : ((s.excursionCounted c).string c).state = .joined := g
  have protect : (s.excursionCounted c).protect c .excursion = ((s.excursionCounted c).countTrip c .excursion).setString c
      (.opening (.locked .excursion) (s.uptime + 2000)) := by
    unfold State.protect
    rw [joined]
    rfl
  rw [← protect]
  unfold State.stateHeadReply State.checkExcursion
  rw [g]
  dsimp only
  rw [State.excursionOf] at excursion
  rw [if_pos excursion, if_pos (by omega)]
  rfl

theorem State.excursionsSet_aside (s : State) (c : Str) (n : Nat) : s.Aside (s.excursionsSet c n) := by
  refine ⟨rfl, rfl, rfl, rfl, rfl, fun d => ?_⟩
  rw [State.isJoined, State.excursionsSet, State.modString_string, State.isJoined]
  split <;> rfl

/-- The steps a head reply can take in the state the string holds: at most one change of state. -/
theorem State.stateHeadReply_received (s : State) (c : Str) : s.Received (s.stateHeadReply c) := by
  have same : s.Received s := .of_same rfl rfl rfl rfl rfl fun _ => rfl
  cases g : (s.string c).state with
  | opened => exact (State.stateHeadReply_standing (.inl g)).symm ▸ same
  | locked k => exact (State.stateHeadReply_standing (.inr (.inr ⟨k, g⟩))).symm ▸ same
  | opening e n =>
    rw [State.stateHeadReply_opening g]
    split
    · exact s.setString_received c _
    · exact same
  | precharge p =>
    cases p with
    | handover => exact (State.stateHeadReply_standing (.inr (.inl g))).symm ▸ same
    | matching e =>
      rw [State.stateHeadReply_matching g]
      split
      · exact s.setString_received c _
      · exact same
  | joined =>
    cases excursion : s.excursionOf c s.envelope.limits with
    | false =>
      rw [State.stateHeadReply_calm g excursion]
      exact (s.excursionsSet_aside c 0).received
    | true =>
      by_cases few : (s.string c).excursions < 4
      · rw [State.stateHeadReply_few g excursion few]
        have counted : s.Aside (s.excursionCounted c) := ⟨rfl, rfl, rfl, rfl, rfl, fun _ => rfl⟩
        exact (counted.trans (State.excursionsSet_aside _ c _)).received
      · rw [State.stateHeadReply_fifth g excursion (by omega)]
        have counted : s.Aside ((s.excursionCounted c).countTrip c .excursion) := ⟨rfl, rfl, rfl, rfl, rfl, fun _ => rfl⟩
        exact (State.excursionsSet_aside _ c 0).after (counted.before (State.setString_received _ c _))

theorem State.stringHeadReply_received (s : State) (c : Str) : s.Received (s.stringHeadReply c) :=
  (s.compareFeedback_aside c).before (State.stateHeadReply_received _ c)

/-- What every step of a head reply keeps. -/
theorem State.stateHeadReply_keeps {P : State → Prop} (hstate : ∀ t new, P t → P (t.setString c new))
    (hset : ∀ t n, P t → P (t.excursionsSet c n)) (hcount : ∀ t, P t → P (t.excursionCounted c))
    (htrip : ∀ t, P t → P (t.countTrip c .excursion)) (h : P s) : P (s.stateHeadReply c) := by
  cases g : (s.string c).state with
  | opened => exact (State.stateHeadReply_standing (.inl g)).symm ▸ h
  | locked k => exact (State.stateHeadReply_standing (.inr (.inr ⟨k, g⟩))).symm ▸ h
  | opening e n =>
    rw [State.stateHeadReply_opening g]
    split
    · exact hstate s _ h
    · exact h
  | precharge p =>
    cases p with
    | handover => exact (State.stateHeadReply_standing (.inr (.inl g))).symm ▸ h
    | matching e =>
      rw [State.stateHeadReply_matching g]
      split
      · exact hstate s _ h
      · exact h
  | joined =>
    cases excursion : s.excursionOf c s.envelope.limits with
    | false =>
      rw [State.stateHeadReply_calm g excursion]
      exact hset s 0 h
    | true =>
      by_cases few : (s.string c).excursions < 4
      · rw [State.stateHeadReply_few g excursion few]
        exact hset _ _ (hcount s h)
      · rw [State.stateHeadReply_fifth g excursion (by omega)]
        exact hset _ _ (hstate _ _ (htrip _ (hcount s h)))

/-- R47, R51, R55: a head reply leaves the inputs, the comparison, the throughput and everything of the other string, and
posts no FAULT in the state the string holds. -/
theorem State.stateHeadReply_leaves (s : State) (c : Str) :
    (((s.stateHeadReply c).string c).mainInput = (s.string c).mainInput
      ∧ ((s.stateHeadReply c).string c).prechargeInput = (s.string c).prechargeInput
      ∧ ((s.stateHeadReply c).string c).disagreement = (s.string c).disagreement)
    ∧ (∀ d, d ≠ c → (s.stateHeadReply c).string d = s.string d
      ∧ (s.stateHeadReply c).store.strings.get d = s.store.strings.get d)
    ∧ (s.stateHeadReply c).store.strings.get c = { s.store.strings.get c with
        excursions := ((s.stateHeadReply c).store.strings.get c).excursions
        trips := ((s.stateHeadReply c).store.strings.get c).trips }
    ∧ ((s.stateHeadReply c).store.snapshots = s.store.snapshots ∧ (s.stateHeadReply c).store.links = s.store.links)
    ∧ s.SameNotice .fault (s.stateHeadReply c) := by
  refine State.stateHeadReply_keeps (P := fun t =>
    ((t.string c).mainInput = (s.string c).mainInput ∧ (t.string c).prechargeInput = (s.string c).prechargeInput
      ∧ (t.string c).disagreement = (s.string c).disagreement)
    ∧ (∀ d, d ≠ c → t.string d = s.string d ∧ t.store.strings.get d = s.store.strings.get d)
    ∧ t.store.strings.get c = { s.store.strings.get c with
        excursions := (t.store.strings.get c).excursions, trips := (t.store.strings.get c).trips }
    ∧ (t.store.snapshots = s.store.snapshots ∧ t.store.links = s.store.links) ∧ s.SameNotice .fault t) ?_ ?_ ?_ ?_
    ⟨⟨rfl, rfl, rfl⟩, fun _ _ => ⟨rfl, rfl⟩, rfl, ⟨rfl, rfl⟩, .of_links rfl⟩
  · rintro t new ⟨inputs, other, stats, store, fault⟩
    have same : (t.setString c new).store = t.store := t.setString_store c new
    refine ⟨?_, fun d h => ⟨(State.setString_other h new).trans (other d h).1, ?_⟩, ?_, ?_,
      fault.trans (.setString (by decide) (by decide) (by decide) t c new)⟩
    · rw [State.setString_string]
      exact inputs
    · rw [same]
      exact (other d h).2
    · rw [same]
      exact stats
    · rw [same]
      exact store
  · rintro t n ⟨inputs, other, stats, store, fault⟩
    refine ⟨?_, fun d h => ⟨?_, (other d h).2⟩, stats, store, fault.trans (.of_links rfl)⟩
    · rw [State.excursionsSet, State.modString_string, if_pos rfl]
      exact inputs
    · rw [State.excursionsSet, State.modString_string, if_neg h]
      exact (other d h).1
  · rintro t ⟨inputs, other, stats, store, fault⟩
    refine ⟨inputs, fun d h => ⟨(other d h).1, ?_⟩, ?_, store, fault.trans (.of_links rfl)⟩
    · exact (PerString.get_mod_other _ _ h).trans (other d h).2
    · rw [State.excursionCounted, State.modStats, PerString.get_mod_same, stats]
  · rintro t ⟨inputs, other, stats, store, fault⟩
    refine ⟨inputs, fun d h => ⟨(other d h).1, ?_⟩, ?_, store, fault.trans (.of_links rfl)⟩
    · exact (PerString.get_mod_other _ _ h).trans (other d h).2
    · rw [State.countTrip, State.modStats, PerString.get_mod_same, stats]

end

/-! ## The string and the agreement unit in either order (R3) -/

/-- The string acts on a head reply in `x`, with what `b` holds but for the comparison of the feedback and limits that the
agreement unit may have lowered; `w` is what follows, with the agreement unit before or after. -/
structure State.HeadActed (c : Str) (b x w : State) : Prop where
  string : x.string c = { b.string c with disagreement := decide (b.headDiffers c) }
  other : ∀ d, d ≠ c → x.string d = b.string d
  store : x.store = b.store
  chains : x.chains = b.chains
  config : x.config = b.config
  uptime : x.uptime = b.uptime
  lower : ∀ d, x.envelope.limits.charge d ≤ b.envelope.limits.charge d
    ∧ x.envelope.limits.discharge d ≤ b.envelope.limits.discharge d
  posted : b.headDiffers c → (b.string c).disagreement = false → b.posts x .fault
    (.feedbackDisagree c (b.chain c).head.main (b.chain c).head.precharge (b.string c).mainInput (b.string c).prechargeInput)
  quiet : ¬ b.headDiffers c ∨ (b.string c).disagreement = true → b.SameNotice .fault x
  unreported : b.SameNotice .stringState x
  strings : w.strings = (x.stateHeadReply c).strings
  stats : w.store = (x.stateHeadReply c).store
  fault : (x.stateHeadReply c).SameNotice .fault w
  reported : (x.stateHeadReply c).SameNotice .stringState w
  lower' : ∀ d, w.envelope.limits.charge d ≤ (x.stateHeadReply c).envelope.limits.charge d
    ∧ w.envelope.limits.discharge d ≤ (x.stateHeadReply c).envelope.limits.discharge d

section
variable {b x w : State} {c : Str}

theorem State.headActed_first (b : State) (c : Str) (n : Nat) :
    b.HeadActed c (b.compareFeedback c) { (b.stringHeadReply c).agreementHeadReply with choices := n } where
  string := by rw [State.compareFeedback_string, if_pos rfl]
  other d h := by rw [State.compareFeedback_string, if_neg h]
  store := by simp
  chains := by simp
  config := by simp
  uptime := by simp
  lower d := by simp
  posted := State.compareFeedback_posts
  quiet := State.compareFeedback_quiet
  unreported := b.compareFeedback_stringState c
  strings := by simp [State.stringHeadReply]
  stats := by simp [State.stringHeadReply]
  fault := (State.SameNotice.agreementHeadReply (by decide) _).trans (.of_links rfl)
  reported := (State.SameNotice.agreementHeadReply (by decide) _).trans (.of_links rfl)
  lower' := State.agreementHeadReply_lower _

theorem State.headActed_second (b : State) (c : Str) (n : Nat) :
    b.HeadActed c (b.agreementHeadReply.compareFeedback c) { b.agreementHeadReply.stringHeadReply c with choices := n } where
  string := by
    have differs : b.agreementHeadReply.headDiffers c ↔ b.headDiffers c := by
      simp [State.headDiffers, State.chain, State.string]
    rw [State.compareFeedback_string, if_pos rfl]
    simp only [differs]
    rw [show b.agreementHeadReply.string c = b.string c by simp [State.string]]
  other d h := by
    rw [State.compareFeedback_string, if_neg h]
    simp [State.string]
  store := by simp
  chains := by simp
  config := by simp
  uptime := by simp
  lower d := by
    have same : (b.agreementHeadReply.compareFeedback c).envelope = b.agreementHeadReply.envelope := by simp
    rw [same]
    exact b.agreementHeadReply_lower d
  posted differs fresh := by
    have strings : b.agreementHeadReply.string c = b.string c := by simp [State.string]
    have chains : b.agreementHeadReply.chain c = b.chain c := by simp [State.chain]
    have posted := State.compareFeedback_posts (s := b.agreementHeadReply) (c := c)
    simp only [State.headDiffers, strings, chains] at posted
    exact State.posts_of_before (.agreementHeadReply (by decide) b) (posted differs fresh)
  quiet h := by
    have strings : b.agreementHeadReply.string c = b.string c := by simp [State.string]
    have chains : b.agreementHeadReply.chain c = b.chain c := by simp [State.chain]
    have quiet := State.compareFeedback_quiet (s := b.agreementHeadReply) (c := c)
    simp only [State.headDiffers, strings, chains] at quiet
    exact (State.SameNotice.agreementHeadReply (by decide) b).trans (quiet h)
  unreported := (State.SameNotice.agreementHeadReply (by decide) b).trans (State.compareFeedback_stringState _ c)
  strings := rfl
  stats := rfl
  fault := .of_links rfl
  reported := .of_links rfl
  lower' d := ⟨le_refl _, le_refl _⟩

theorem State.HeadActed.string_eq (acted : b.HeadActed c x w) (d : Str) : w.string d = (x.stateHeadReply c).string d := by
  rw [State.string, acted.strings, State.string]

theorem State.HeadActed.state (acted : b.HeadActed c x w) : (x.string c).state = (b.string c).state := by
  rw [acted.string]

theorem State.HeadActed.head (acted : b.HeadActed c x w) : (x.chain c).head = (b.chain c).head := by
  rw [State.chain, acted.chains, State.chain]

/-- R58: the inputs stand, and the comparison is held. -/
theorem State.HeadActed.inputs (acted : b.HeadActed c x w) :
    (w.string c).mainInput = (b.string c).mainInput ∧ (w.string c).prechargeInput = (b.string c).prechargeInput
    ∧ ((w.string c).disagreement = true ↔ b.headDiffers c) := by
  obtain ⟨⟨main, precharge, disagreement⟩, -⟩ := x.stateHeadReply_leaves c
  rw [acted.string] at main precharge disagreement
  rw [acted.string_eq]
  exact ⟨main, precharge, by rw [disagreement, decide_eq_true_iff]⟩

theorem State.HeadActed.others (acted : b.HeadActed c x w) {d : Str} (h : d ≠ c) :
    w.string d = b.string d ∧ w.store.strings.get d = b.store.strings.get d := by
  obtain ⟨-, other, -⟩ := x.stateHeadReply_leaves c
  rw [acted.string_eq, acted.stats]
  exact ⟨(other d h).1.trans (acted.other d h), (other d h).2.trans (by rw [acted.store])⟩

/-- R55: of the record store at most the excursions and the trips of the string change. -/
theorem State.HeadActed.store_eq (acted : b.HeadActed c x w) :
    w.store = { b.store with strings := w.store.strings }
    ∧ w.store.strings.get c = { b.store.strings.get c with
        excursions := (w.store.strings.get c).excursions, trips := (w.store.strings.get c).trips } := by
  obtain ⟨-, -, stats, ⟨snapshots, links⟩, -⟩ := x.stateHeadReply_leaves c
  rw [acted.store, ← acted.stats] at stats snapshots links
  have parts : w.store = ⟨w.store.snapshots, w.store.strings, w.store.links⟩ := rfl
  exact ⟨parts.trans (by rw [snapshots, links]), stats⟩

/-- R58: the first reply that differs posts FAULT. -/
theorem State.HeadActed.faults (acted : b.HeadActed c x w) (differs : b.headDiffers c)
    (fresh : (b.string c).disagreement = false) : b.posts w .fault
      (.feedbackDisagree c (b.chain c).head.main (b.chain c).head.precharge (b.string c).mainInput
        (b.string c).prechargeInput) := by
  obtain ⟨-, -, -, -, fault⟩ := x.stateHeadReply_leaves c
  exact fun l => ((fault.trans acted.fault) l).trans (acted.posted differs fresh l)

theorem State.HeadActed.faultless (acted : b.HeadActed c x w)
    (h : ¬ b.headDiffers c ∨ (b.string c).disagreement = true) : b.SameNotice .fault w := by
  obtain ⟨-, -, -, -, fault⟩ := x.stateHeadReply_leaves c
  exact (acted.quiet h).trans (fault.trans acted.fault)

/-- R47: MATCHING ends within the match window. -/
theorem State.HeadActed.matching (acted : b.HeadActed c x w) {e : Nat}
    (g : (b.string c).state = .precharge (.matching e)) :
    (|((b.chain c).head.stringVoltage : Int) - (b.chain c).head.busVoltage| ≤ b.params.matchWindow →
      (w.string c).state = .precharge .handover ∧ (w.string c).check = some (b.uptime + 200))
    ∧ (b.params.matchWindow < |((b.chain c).head.stringVoltage : Int) - (b.chain c).head.busVoltage| →
      (w.string c).state = (b.string c).state ∧ (w.string c).check = (b.string c).check) := by
  have step := State.stateHeadReply_matching (acted.state.trans g)
  have params : x.params = b.params := congrArg ConfigStore.working acted.config
  rw [acted.head, params] at step
  rw [acted.string_eq, step]
  refine ⟨fun close => ?_, fun far => ?_⟩
  · rw [if_pos close, State.setString_string, acted.state, g, acted.uptime]
    exact ⟨rfl, rfl⟩
  · rw [if_neg (not_le.2 far), acted.string]
    exact ⟨rfl, rfl⟩

/-- R51: OPENING ends below 10.0 A. -/
theorem State.HeadActed.opening (acted : b.HeadActed c x w) {e : EndState} {n : Nat}
    (g : (b.string c).state = .opening e n) :
    (|(b.chain c).head.current| < 100 →
      (w.string c).state = e.state ∧ (w.string c).check = some (b.uptime + 200)
      ∧ b.posts w .stringState (.string c e.state.name e.state.cause))
    ∧ (100 ≤ |(b.chain c).head.current| →
      (w.string c).state = (b.string c).state ∧ (w.string c).check = (b.string c).check) := by
  have step := State.stateHeadReply_opening (acted.state.trans g)
  rw [acted.head] at step
  rw [acted.string_eq]
  refine ⟨fun low => ?_, fun high => ?_⟩
  · have changed : ¬((x.string c).state.name = e.state.name ∧ (x.string c).state.cause = e.state.cause) := by
      rw [acted.state, g]
      cases e <;> simp [StringState.name, EndState.state]
    have reported := acted.reported
    rw [if_pos low] at step
    rw [step] at reported ⊢
    refine ⟨?_, ?_, ?_⟩
    · rw [State.setString_string]
    · rw [State.setString_string, acted.state, g, acted.uptime]
      cases e <;> rfl
    · exact State.posts_of_before acted.unreported fun l => (reported l).trans (State.setString_posts changed l)
  · rw [step, if_neg (not_lt.2 high), acted.string]
    exact ⟨rfl, rfl⟩

theorem State.HeadActed.standing (acted : b.HeadActed c x w) (g : (b.string c).state = .opened
    ∨ (b.string c).state = .precharge .handover ∨ ∃ k, (b.string c).state = .locked k) :
    (w.string c).state = (b.string c).state ∧ (w.string c).check = (b.string c).check := by
  rw [← acted.state] at g
  rw [acted.string_eq, State.stateHeadReply_standing g, acted.string]
  exact ⟨rfl, rfl⟩

/-- R55: no excursion is counted of a string that is not JOINED. -/
theorem State.HeadActed.uncounted (acted : b.HeadActed c x w) (g : (b.string c).state ≠ .joined) :
    (w.string c).excursions = (b.string c).excursions ∧ w.store = b.store := by
  have still (new : StringState) : ((x.setString c new).string c).excursions = (b.string c).excursions
      ∧ (x.setString c new).store = b.store := by
    rw [State.setString_string, State.setString_store, acted.string]
    exact ⟨rfl, acted.store⟩
  have stays : (x.string c).excursions = (b.string c).excursions ∧ x.store = b.store := by
    rw [acted.string]
    exact ⟨rfl, acted.store⟩
  rw [acted.string_eq, acted.stats]
  cases state : (x.string c).state with
  | joined => exact absurd (acted.state.symm.trans state) g
  | opened => rwa [State.stateHeadReply_standing (.inl state)]
  | locked k => rwa [State.stateHeadReply_standing (.inr (.inr ⟨k, state⟩))]
  | opening e n =>
    rw [State.stateHeadReply_opening state]
    split
    · exact still _
    · exact stays
  | precharge p =>
    cases p with
    | handover => rwa [State.stateHeadReply_standing (.inr (.inl state))]
    | matching e =>
      rw [State.stateHeadReply_matching state]
      split
      · exact still _
      · exact stays

/-- R55: an excursion of a row of published limits. -/
theorem State.excursionOf_iff (s : State) (c : Str) (r : Row) : s.excursionOf c r = true
    ↔ ((r.charge c + max 50 (r.charge c / 10) : Nat) : Int) < (s.chain c).head.current
      ∨ ((r.discharge c + max 50 (r.discharge c / 10) : Nat) : Int) < -(s.chain c).head.current := by
  rw [State.excursionOf, isExcursion, Bool.or_eq_true, decide_eq_true_iff, decide_eq_true_iff, excursionBound,
    excursionBound]
  push_cast
  rfl

/-- R55: an excursion under some limits is one under lower limits. -/
theorem State.excursionOf_lower {s : State} {c : Str} {r q : Row}
    (lower : r.charge c ≤ q.charge c ∧ r.discharge c ≤ q.discharge c) (h : s.excursionOf c q = true) :
    s.excursionOf c r = true := by
  rw [State.excursionOf_iff] at h ⊢
  omega

theorem State.HeadActed.excursionOf (acted : b.HeadActed c x w) (r : Row) : x.excursionOf c r = b.excursionOf c r := by
  rw [State.excursionOf, State.excursionOf, acted.head]

/-- R55: the first four excursions in a row are counted. -/
theorem State.HeadActed.few (acted : b.HeadActed c x w) (g : (b.string c).state = .joined)
    (excursion : b.excursionOf c b.envelope.limits = true) (few : (b.string c).excursions < 4) :
    (w.string c).state = .joined ∧ (w.string c).excursions = (b.string c).excursions + 1
    ∧ (w.store.strings.get c).excursions = min 4294967295 ((b.store.strings.get c).excursions + 1)
    ∧ (w.store.strings.get c).trips = (b.store.strings.get c).trips := by
  have count : (x.string c).excursions = (b.string c).excursions := by rw [acted.string]
  have step := State.stateHeadReply_few (acted.state.trans g)
    (State.excursionOf_lower (acted.lower c) ((acted.excursionOf _).trans excursion)) (by rwa [count])
  rw [acted.string_eq, acted.stats, step, State.excursionsSet, State.modString_string, if_pos rfl, count]
  refine ⟨acted.state.trans g, rfl, ?_⟩
  show ((x.store.strings.mod c _).get c).excursions = _ ∧ ((x.store.strings.mod c _).get c).trips = _
  rw [PerString.get_mod_same, acted.store]
  exact ⟨rfl, rfl⟩

/-- R52, R55: the fifth opens the string. -/
theorem State.HeadActed.fifth (acted : b.HeadActed c x w) (g : (b.string c).state = .joined)
    (excursion : b.excursionOf c b.envelope.limits = true) (many : 4 ≤ (b.string c).excursions) :
    (w.string c).state = .opening (.locked .excursion) (b.uptime + 2000) ∧ (w.string c).excursions = 0
    ∧ (w.store.strings.get c).excursions = min 4294967295 ((b.store.strings.get c).excursions + 1)
    ∧ (w.store.strings.get c).trips = ((b.store.strings.get c).trips).count .excursion
    ∧ b.posts w .stringState (.string c .opening none) := by
  have count : (x.string c).excursions = (b.string c).excursions := by rw [acted.string]
  have joined := acted.state.trans g
  have step := State.stateHeadReply_fifth joined
    (State.excursionOf_lower (acted.lower c) ((acted.excursionOf _).trans excursion)) (by rwa [count])
  have reported := acted.reported
  rw [step] at reported
  rw [acted.string_eq, acted.stats, step, State.excursionsSet, State.modString_string, if_pos rfl, State.setString_string,
    ← acted.uptime]
  generalize hu : (x.excursionCounted c).countTrip c .excursion = u at reported ⊢
  have stats : u.store.strings.get c = { b.store.strings.get c with
      excursions := countUp (b.store.strings.get c).excursions
      trips := ((b.store.strings.get c).trips).count .excursion } := by
    rw [← hu, State.countTrip, State.excursionCounted, State.modStats, PerString.get_mod_same, State.modStats,
      PerString.get_mod_same, acted.store]
  have before : b.SameNotice .stringState u := by
    rw [← hu]
    exact acted.unreported.trans (.of_links rfl)
  have changed : ¬((u.string c).state.name = .opening ∧ (u.string c).state.cause = none) := by
    have same : (u.string c).state = .joined := by
      rw [← hu]
      exact joined
    rw [same]
    simp [StringState.name]
  have kept : ((u.setString c (.opening (.locked .excursion) (x.uptime + 2000))).modString c
      fun k => { k with excursions := 0 }).store = u.store := u.setString_store c _
  rw [kept, stats]
  refine ⟨rfl, rfl, rfl, rfl, State.posts_of_before before fun l => ?_⟩
  exact (reported l).trans (State.setString_posts (s := u) (new := .opening (.locked .excursion) (x.uptime + 2000)) changed l)

/-- R55: a reply with no excursion ends the row. -/
theorem State.HeadActed.calm (acted : b.HeadActed c x w) (g : (b.string c).state = .joined)
    (calm : b.excursionOf c w.envelope.limits = false) :
    (w.string c).state = .joined ∧ (w.string c).excursions = 0 ∧ w.store = b.store := by
  have still : x.excursionOf c x.envelope.limits = false := by
    rw [← Bool.not_eq_true] at calm ⊢
    intro excursion
    refine calm ((acted.excursionOf _).symm.trans (State.excursionOf_lower ?_ excursion))
    have lower := (x.stateHeadReply_received c).lower c
    exact ⟨(acted.lower' c).1.trans lower.1, (acted.lower' c).2.trans lower.2⟩
  have step := State.stateHeadReply_calm (acted.state.trans g) still
  rw [acted.string_eq, acted.stats, step, State.excursionsSet, State.modString_string, if_pos rfl]
  exact ⟨acted.state.trans g, rfl, acted.store⟩

end

/-! ## The reply stored (R3, R123) -/

/-- R3, R123: the head's record stored and its charge integrated, before the string and the agreement unit act. -/
def State.headStored (s : State) (c : Str) (h : HeadRecord) (interval : Nat) : State :=
  State.modStats { s with chains := s.chains.mod c fun k => { k with inFlight := none, head := h } } c
    fun t => t.integrate h.current interval

/-- R3: what a GOOD head reply makes of the state, beside what the string and the agreement unit do. -/
structure State.HeadApplied (b t : State) (c : Str) : Prop where
  acted : ∃ x, b.HeadActed c x t
  ga : b.GaFollows t
  permit : t.joinedCount ≠ 0 ∨ b.permit.state.connected = false → t.permit = b.permit
  alone : b.joinedCount ≠ 0 → t.joinedCount = 0 → t.permit.state.connected = false
  frame : t = { b with
    chains := t.chains, strings := t.strings, envelope := t.envelope, agreement := t.agreement, permit := t.permit
    links := t.links, store := t.store, choices := t.choices }

theorem State.GaFollows.choices {b t : State} (h : b.GaFollows t) (n : Nat) : b.GaFollows { t with choices := n } :=
  ⟨fun which => ⟨(h.computed which).agreement, (h.computed which).table⟩, h.stands⟩

/-- R16: what the arbiter does next is aside. -/
theorem State.HeadApplied.landed {b u : State} {c : Str} (applied : b.HeadApplied u c) (p : PerString Chain) :
    b.HeadApplied { u with chains := p } c := by
  obtain ⟨⟨x, acted⟩, ga, permit, alone, frame⟩ := applied
  refine ⟨⟨x, { acted with }⟩, ⟨fun which => ⟨(ga.computed which).agreement, (ga.computed which).table⟩, ga.stands⟩, permit,
    alone, ?_⟩
  exact congrArg (fun q : State => { q with chains := p }) frame

theorem State.HeadApplied.inAnyOrder (b : State) (c : Str) :
    b.HeadApplied (b.inAnyOrder [fun t => t.stringHeadReply c, State.agreementHeadReply]) c := by
  obtain ⟨n, e | e⟩ := b.inAnyOrder_two (fun t => t.stringHeadReply c) State.agreementHeadReply
  · rw [e]
    have received := b.stringHeadReply_received c
    have count : (b.stringHeadReply c).agreementHeadReply.joinedCount = (b.stringHeadReply c).joinedCount :=
      State.agreementHeadReply_count _
    have permit : (b.stringHeadReply c).agreementHeadReply.permit = (b.stringHeadReply c).permit := by simp
    have follows := received.then_agreement
    refine ⟨⟨_, b.headActed_first c n⟩, follows.choices n, fun h => permit.trans (received.permit ?_),
      fun some none => ?_, State.eq_iff.2 (by simp)⟩
    · exact h.imp (fun some none => some (count.trans none)) id
    · exact (congrArg (fun p : Permit => p.state.connected) permit).trans (received.alone some (count.symm.trans none))
  · rw [e]
    have received := b.agreementHeadReply.stringHeadReply_received c
    have count : b.agreementHeadReply.joinedCount = b.joinedCount := b.agreementHeadReply_count
    have permit : b.agreementHeadReply.permit = b.permit := by simp
    have follows := received.after_agreement
    refine ⟨⟨_, b.headActed_second c n⟩, follows.choices n, fun h => (received.permit ?_).trans permit,
      fun some none => received.alone (by rwa [count]) none, State.eq_iff.2 (by simp)⟩
    rw [permit]
    exact h

theorem State.headActs_chains (b : State) (c : Str) :
    (b.inAnyOrder [fun t => t.stringHeadReply c, State.agreementHeadReply]).chains = b.chains := by
  obtain ⟨n, e | e⟩ := b.inAnyOrder_two (fun t => t.stringHeadReply c) State.agreementHeadReply <;> rw [e] <;> simp

theorem State.outcomeApplied_head (s : State) (c : Str) (current stringVoltage busVoltage : Int) (main precharge : Contact) :
    s.outcomeApplied c .head (some (.head true 0 false current stringVoltage busVoltage main precharge))
      = (s.headStored c (.reply s.uptime current stringVoltage busVoltage main precharge)
          ((s.chain c).head.interval s.uptime)).inAnyOrder
        [fun t => t.stringHeadReply c, State.agreementHeadReply] := by
  have good : classify .head (some (.head true 0 false current stringVoltage busVoltage main precharge)) = .good := by
    simp [classify, answersTo, faulty]
  have uncounted (t : State) : t.countMiss c .good = t := if_neg (by decide)
  have landed (h : HeadRecord) (interval : Nat) :
      ((s.modChain c fun k => { k with inFlight := none }).modChain c fun k => { k with head := h }).modStats c
        (fun t => t.integrate h.current interval) = s.headStored c h interval := by
    simp only [State.modChain, PerString.mod_mod, State.headStored]
  have applied : s.outcomeApplied c .head (some (.head true 0 false current stringVoltage busVoltage main precharge))
      = (s.modChain c fun k => { k with inFlight := none }).headGood c current stringVoltage busVoltage main precharge := by
    rw [State.outcomeApplied, good, uncounted]
    unfold State.applyOutcome
    rw [good]
    rfl
  have interval : ((s.modChain c fun k => { k with inFlight := none }).chain c).head.interval s.uptime
      = (s.chain c).head.interval s.uptime := by
    rw [State.modChain_same]
  rw [applied, ← interval, ← landed]
  rfl

/-- R123: the charge of an interval goes to the throughput of the current's direction, and to no other. -/
theorem StringStats.integrate_spec (old : StringStats) (i : Int) (interval : Nat) :
    (0 < i → interval ≠ 0 →
      (old.integrate i interval).chargeThroughput
        = min 4294967295 (old.chargeThroughput + (old.chargeResidue + i.natAbs * interval) / 3600000)
      ∧ (old.integrate i interval).chargeResidue = (old.chargeResidue + i.natAbs * interval) % 3600000)
    ∧ (i ≤ 0 ∨ interval = 0 → (old.integrate i interval).chargeThroughput = old.chargeThroughput
      ∧ (old.integrate i interval).chargeResidue = old.chargeResidue)
    ∧ (i < 0 → interval ≠ 0 →
      (old.integrate i interval).dischargeThroughput
        = min 4294967295 (old.dischargeThroughput + (old.dischargeResidue + i.natAbs * interval) / 3600000)
      ∧ (old.integrate i interval).dischargeResidue = (old.dischargeResidue + i.natAbs * interval) % 3600000)
    ∧ (0 ≤ i ∨ interval = 0 → (old.integrate i interval).dischargeThroughput = old.dischargeThroughput
      ∧ (old.integrate i interval).dischargeResidue = old.dischargeResidue) := by
  unfold StringStats.integrate
  dsimp only
  split
  · next none =>
    refine ⟨fun up run => ?_, fun _ => ⟨rfl, rfl⟩, fun down run => ?_, fun _ => ⟨rfl, rfl⟩⟩
    · rcases none with h | h <;> omega
    · rcases none with h | h <;> omega
  · next some =>
    split
    · next up => exact ⟨fun _ _ => ⟨rfl, rfl⟩, fun h => by omega, fun h => by omega, fun _ => ⟨rfl, rfl⟩⟩
    · next down => exact ⟨fun h => by omega, fun _ => ⟨rfl, rfl⟩, fun _ _ => ⟨rfl, rfl⟩, fun h => by omega⟩

/-- R3: integration counts neither excursions nor trips. -/
theorem StringStats.integrate_counts (old : StringStats) (i : Int) (interval : Nat) :
    (old.integrate i interval).excursions = old.excursions ∧ (old.integrate i interval).trips = old.trips := by
  unfold StringStats.integrate
  dsimp only
  repeat' split
  all_goals exact ⟨rfl, rfl⟩

/-- R16: the arbiter leaves the unit the scan goes on with. -/
theorem Chain.arbitrate_nextUnit (k : Chain) (now : Nat) : (k.arbitrate now).nextUnit = k.nextUnit := by
  unfold Chain.arbitrate Chain.startProbe
  repeat' split
  all_goals rfl

/-- R139: the bus voltage in use has moved by 1.0 V, or was NONE. -/
theorem State.busMoved_iff {b : State} : b.busMoved = true ↔
    ∀ before, b.agreement.bus.map Prod.fst = some before → before + 10 ≤ b.busVoltage.1 ∨ b.busVoltage.1 + 10 ≤ before := by
  unfold State.busMoved
  split
  · next none => simp [none]
  · next v source used => simp [used]

/-- R139, R141: GA after a head reply, by the bus voltage in use. -/
theorem State.GaFollows.spec {b t : State} (follows : b.GaFollows t) {v : Nat} {source : BusSource} {moved : Prop}
    (used : b.busVoltage = (v, source))
    (hmoved : moved ↔ ∀ before, b.agreement.bus.map Prod.fst = some before → before + 10 ≤ v ∨ v + 10 ≤ before) :
    (moved ∨ t.joinedCount ≠ b.joinedCount →
      t.agreement = { b.agreement with
        basisImport := b.powerBasis.1, basisExport := b.powerBasis.2
        bus := some (v, source), countUsed := some t.joinedCount
        gaCharge := min 4000 (b.powerBasis.1 * 10000 / v / max 1 t.joinedCount)
        gaDischarge := min 4000 (b.powerBasis.2 * 10000 / v / max 1 t.joinedCount) }
      ∧ t.envelope.table = { b.envelope.table with ga := .both t.agreement.gaCharge t.agreement.gaDischarge })
    ∧ (¬moved → t.joinedCount = b.joinedCount →
      t.agreement = b.agreement ∧ t.envelope.table = b.envelope.table) := by
  have moves : b.busMoved = true ↔ moved := by rw [State.busMoved_iff, used, hmoved]
  refine ⟨fun which => ?_, fun still same => follows.stands (Bool.eq_false_iff.2 fun h => still (moves.1 h)) same⟩
  obtain ⟨done, row⟩ := follows.computed (which.imp moves.2 id)
  refine ⟨?_, row⟩
  rw [done, State.gaComputed, used]
  rfl

/-- R3, R11: a GOOD reply of the head to its scan transaction. -/
theorem chainReply_head {c : Str} {x : Transaction} {s : State} {h : HeadRecord}
    {current stringVoltage busVoltage : Int} {main precharge : Contact} (running : s.phase = .running)
    (flight : (s.chain c).inFlight = some x) (scan : x.kind = .scan) (addressed : x.addressed = .head)
    (hh : h = .reply s.uptime current stringVoltage busVoltage main precharge) {n : Nat}
    (first : (s.chain c).range.first = n) (inside : n - 1 < 12) :
    ∃ t, exec (.chainReply c (.head true 0 false current stringVoltage busVoltage main precharge)) s = .next t
      ∧ (s.headStored c h ((s.chain c).head.interval s.uptime)).HeadApplied t c
      ∧ (t.chain c).head = h ∧ (t.chain c).modules = (s.chain c).modules
      ∧ (t.chain c).nextUnit = .module ⟨n - 1, inside⟩
      ∧ ∀ d, d ≠ c → t.chain d = s.chain d := by
  have outcome := s.outcomeApplied_head c current stringVoltage busVoltage main precharge
  rw [← hh] at outcome
  generalize hb : s.headStored c h ((s.chain c).head.interval s.uptime) = b at outcome ⊢
  have applied : b.HeadApplied (b.inAnyOrder [fun t => t.stringHeadReply c, State.agreementHeadReply]) c :=
    .inAnyOrder b c
  have chains := b.headActs_chains c
  generalize b.inAnyOrder [fun t => t.stringHeadReply c, State.agreementHeadReply] = u at outcome applied chains
  have record : u.chain c = { s.chain c with inFlight := none, head := h } := by
    rw [State.chain, chains, ← hb]
    exact PerString.get_mod_same ..
  have ended := State.endTransaction_head scan addressed outcome (by rw [record]; exact first) inside
  generalize ht : s.endTransaction c x _ = t at ended
  have arbitrated : t.chain c = Chain.arbitrate { u.chain c with nextUnit := .module ⟨n - 1, inside⟩ } u.uptime := by
    rw [ended, State.chain, PerString.get_mod_same]
    rfl
  rw [record] at arbitrated
  obtain ⟨head, modules, -, -⟩ := Chain.arbitrate_records { s.chain c with
    inFlight := none, head := h, nextUnit := .module ⟨n - 1, inside⟩ } u.uptime
  have next := Chain.arbitrate_nextUnit { s.chain c with
    inFlight := none, head := h, nextUnit := .module ⟨n - 1, inside⟩ } u.uptime
  refine ⟨t, ht ▸ chainReply_running running flight, ended ▸ applied.landed _, ?_, ?_, ?_, fun d apart => ?_⟩
  · rw [arbitrated, head]
  · rw [arbitrated, modules]
  · rw [arbitrated, next]
  · rw [ended, State.chain, PerString.get_mod_other _ _ apart, chains, ← hb]
    exact PerString.get_mod_other _ _ apart

/-! ## The obligation -/

/-- Settles O7. -/
theorem headReplyIsStoredAndIntegrated : Obligations.HeadReplyIsStoredAndIntegrated := by
  unfold Obligations.HeadReplyIsStoredAndIntegrated
  intro c x current stringVoltage busVoltage main precharge s running flight scan addressed first
  generalize hh : HeadRecord.reply s.uptime current stringVoltage busVoltage main precharge = h
  obtain ⟨t, run, applied, head, modules, next, others⟩ :=
    chainReply_head running flight scan addressed hh.symm rfl (show (s.chain c).range.first - 1 < 12 by omega)
  obtain ⟨⟨y, acted⟩, ga, permit, alone, frame⟩ := applied
  generalize hb : s.headStored c h ((s.chain c).head.interval s.uptime) = b at acted ga permit alone frame
  have bhead : (b.chain c).head = h := by
    rw [← hb, State.chain]
    exact congrArg Chain.head (PerString.get_mod_same ..)
  have bstats : b.store.strings.get c
      = (s.store.strings.get c).integrate h.current ((s.chain c).head.interval s.uptime) := by
    rw [← hb]
    exact PerString.get_mod_same ..
  refine ⟨t, run, ?_, modules, ?_, ?_, ?_, ?_, ?_, ?_, fun d apart => ⟨others d apart, ?_, ?_⟩, ?_⟩
  · rw [head, ← hh]
    rfl
  · rw [next]
    exact congrArg ChainUnit.module (Fin.ext (by simp only; omega))
  · intro interval hinterval
    obtain rfl : interval = (s.chain c).head.interval s.uptime := hinterval
    have integrated := (s.store.strings.get c).integrate_spec h.current ((s.chain c).head.interval s.uptime)
    have current' : h.current = max (-6000) (min 6000 current) := by rw [← hh]; rfl
    rw [← bstats, current'] at integrated
    dsimp only
    rw [acted.store_eq.2]
    exact integrated
  · intro k h' old new hk hh' hold hnew
    have same : h = h' := (hh'.trans head).symm
    subst hk same hold hnew
    have bstring : b.string c = s.string c := by rw [← hb]; rfl
    have bparams : b.params = s.params := by rw [← hb]; rfl
    have buptime : b.uptime = s.uptime := by rw [← hb]; rfl
    have benvelope : b.envelope = s.envelope := by rw [← hb]; rfl
    have blinks : b.links = s.links := by rw [← hb]; rfl
    have counts := (s.store.strings.get c).integrate_counts h.current ((s.chain c).head.interval s.uptime)
    rw [← bstats] at counts
    have posts {n : NoticeKind} {d : NoticeDetail} (posted : b.posts t n d) : s.posts t n d :=
      State.posts_of_before (.of_links blinks) posted
    have differs : b.headDiffers c ↔ main ≠ (s.string c).mainInput ∨ precharge ≠ (s.string c).prechargeInput := by
      rw [State.headDiffers, bhead, bstring, ← hh]
      rfl
    have inputs := acted.inputs
    rw [bstring, differs] at inputs
    obtain ⟨mainInput, prechargeInput, disagreement⟩ := inputs
    refine ⟨mainInput, prechargeInput, disagreement, fun apart fresh => ?_, fun same l => ?_, fun apart => ?_,
      fun e g => ?_, fun e n g => ?_, fun g => ?_, fun excursion meaning => ?_⟩
    · have faults := acted.faults (differs.2 apart) (by rwa [bstring])
      rw [bhead, bstring, ← hh] at faults
      exact posts faults
    · refine ((State.SameNotice.of_links blinks).trans (acted.faultless ?_)) l
      rw [differs, bstring]
      exact same.imp (fun agrees apart => apart.elim (fun h => h agrees.1) fun h => h agrees.2) id
    · obtain ⟨excursions, stats⟩ := acted.uncounted (by rwa [bstring])
      rw [excursions, stats, bstring]
      exact ⟨rfl, counts⟩
    · have matching := acted.matching (e := e) (by rwa [bstring])
      rw [bhead, bparams, buptime, bstring] at matching
      exact matching
    · have opening := acted.opening (e := e) (n := n) (by rwa [bstring])
      rw [bhead, buptime, bstring] at opening
      exact ⟨fun low => ⟨(opening.1 low).1, (opening.1 low).2.1, posts (opening.1 low).2.2⟩, opening.2⟩
    · have standing := acted.standing (by rwa [bstring])
      rw [bstring] at standing
      exact standing
    · have excursions (r : Row) : b.excursionOf c r = true ↔ excursion r := by
        rw [State.excursionOf_iff, bhead, meaning]
      have before : (s.string c).state = .joined → (b.string c).state = .joined := fun g => by rwa [bstring]
      refine ⟨fun g high few => ?_, fun g high many => ?_, fun g calm => ?_⟩
      · obtain ⟨state, count, counted, trips⟩ := acted.few (before g) (by rwa [excursions, benvelope]) (by rwa [bstring])
        rw [bstring] at count
        exact ⟨state, count, counted.trans (by rw [counts.1]), trips.trans counts.2⟩
      · obtain ⟨state, count, counted, trips, posted⟩ :=
          acted.fifth (before g) (by rwa [excursions, benvelope]) (by rwa [bstring])
        rw [buptime] at state
        exact ⟨state, count, counted.trans (by rw [counts.1]), trips.trans (by rw [counts.2]), posts posted⟩
      · rw [← excursions, Bool.not_eq_true] at calm
        obtain ⟨state, count, stats⟩ := acted.calm (before g) calm
        rw [stats]
        exact ⟨state, count, counts⟩
  · intro v source moved bus hmoved
    have heads (d : Str) : (t.chain d).head = (b.chain d).head := by
      by_cases same : d = c
      · rw [same, head, bhead]
      · rw [others d same, ← hb]
        exact (congrArg Chain.head (PerString.get_mod_other _ _ same)).symm
    have used : b.busVoltage = (v, source) := by
      rw [bus, ← hb]
      simp only [heads, ← hb]
      rfl
    subst hb
    exact ga.spec used hmoved
  · subst hb
    exact permit
  · subst hb
    exact alone
  · subst hb
    exact (acted.others apart).1
  · rw [(acted.others apart).2, ← hb]
    exact PerString.get_mod_other _ _ apart
  · have stored := acted.store_eq.1
    subst hb
    exact ⟨t.chains, t.strings, t.envelope, t.agreement, t.permit, t.links, t.store.strings, t.choices,
      frame.trans (by rw [stored]; rfl)⟩

end Sys2Proof.Machine
end
